-- ==== Sys2Proof/Word.lean ====
section
/-! DEFINITION. The plain words of the DG7420: bytes, card identities, serials, tags, and the saturating time sum. -/
namespace Sys2Proof

/-- One byte of a frame or of record memory. -/
abbrev Byte := BitVec 8
/-- A card identity; zero identifies no card (Conventions). -/
abbrev CardId := BitVec 64
/-- A 32-bit reader serial. -/
abbrev ReaderSerial := BitVec 32
/-- A 32-bit posting serial; its arithmetic wraps (R131). -/
abbrev PostSerial := BitVec 32
/-- The tag of a host frame, returned unchanged. -/
abbrev Tag := BitVec 16

end Sys2Proof
end

