-- ==== Sys2Proof/Syntax.lean ====
section
/-! DEFINITION. The commands the part takes: one constructor per row of spec/opcode_table.json, with its operands.

Fields of a host request are raw numbers as its frame carries them (range checks belong to R189 test 4); the
body is `none` (or `form` false, for a kind without fields) when its length is not that of the kind's form (R202). -/
namespace Sys2Proof

/-- Reader kinds (R49, R74). -/
inductive ReaderKind where
  | lock | bar | laneOut | laneIn | muster
  deriving DecidableEq, Repr

/-- A record by kind and number (R31). -/
inductive RecKey where
  | guest (n : Fin 2048)
  | folio (n : Fin 1024)
  deriving DecidableEq, Repr

/-- What a JOIN answer carries (R68). -/
structure JoinAnswer where
  kind : ReaderKind
  serial : ReaderSerial
  deriving DecidableEq, Repr

/-- One sale line of a till's OFFER (R102), as sent. -/
structure SaleLine where
  cls : Nat
  price : Nat
  qty : Nat
  deriving DecidableEq, Repr

/-- What became of a read transfer: the bytes came as memory holds them, or differed on the way (R24). -/
inductive ReadResult where
  | good
  | corrupt
  deriving DecidableEq, Repr

/-- What became of a write transfer: it read back as written, or the bytes read back differed (R24, log 9). -/
inductive WriteResult where
  | good
  | differs
  deriving DecidableEq, Repr

/-- Where in a job a reset cut it: before the transfer of the first or second half, or after that half's block was
sent, when memory holds the bytes given (R24, R47). -/
inductive CutAt where
  | before
  | wrote (bytes : List Byte)
  | secondBefore
  | secondWrote (bytes : List Byte)
  deriving DecidableEq, Repr

/-- The straps sampled at reset release (R194). -/
structure Straps where
  maintenance : Bool
  rate1 : Bool
  rate0 : Bool
  deriving DecidableEq, Repr

/-- What the reset that ends RESTART finds: the straps it samples, and where it cuts the job in progress (R194, R196, R200). -/
structure ResetFound where
  straps : Straps
  cut : CutAt
  deriving DecidableEq, Repr

/-- Why the receiver discarded a frame (R188). -/
inductive DiscardReason where
  | oversize (length : Nat)
  | checkWord
  deriving DecidableEq, Repr

/-- Fields of GUEST_PUT (R10). -/
structure GuestPut where
  record : Nat
  status : Nat
  category : Nat
  privileges : BitVec 16
  cabins : List Nat
  firstDay : Nat
  lastDay : Nat
  folio : Option Nat
  plan : Nat
  station : Nat
  resetAllowance : Nat
  deriving DecidableEq, Repr

/-- Fields of CARD_ADD, CARD_MARK_LOST and CARD_REMOVE (R12 to R14). -/
structure CardRef where
  record : Nat
  slot : Nat
  card : CardId
  deriving DecidableEq, Repr

/-- Fields of PLAN_PUT (R15). -/
structure PlanPut where
  plan : Nat
  classes : List Nat
  cap : Nat
  allowance : Nat
  deriving DecidableEq, Repr

/-- Fields of SET_CLOCK (R20). -/
structure SetClock where
  seconds : Option Nat
  offset : Option Int
  deriving DecidableEq, Repr

/-- Fields of SETTINGS_PUT (R22). -/
structure SettingsPut where
  rollover : Option Nat
  flushAge : Option Nat
  roundLimit : Option Nat
  linkSilence : Option Nat
  escalation : Option Nat
  deriving DecidableEq, Repr

/-- Fields of FOLIO_PUT (R137); `clear` is the sticky flag byte to clear. -/
structure FolioPut where
  folio : Nat
  status : Nat
  limit : Nat
  floorAllowance : Nat
  balance : Option Int
  clear : Option Nat
  deriving DecidableEq, Repr

/-- Fields of FOLIO_SETTLE (R138). -/
structure FolioSettle where
  folio : Nat
  amount : Int
  deriving DecidableEq, Repr

/-- Fields of BIND_PUT (R79). -/
structure BindPut where
  serial : ReaderSerial
  kind : Nat
  profile : Nat
  locus : Nat
  deriving DecidableEq, Repr

/-- Fields of PROFILE_PUT (R83). -/
structure ProfilePut where
  profile : Nat
  openTime : Nat
  mask : BitVec 16
  rate : Nat
  priceCeiling : Nat
  qtyLimit : Nat
  offlineCeiling : Nat
  maskPrice : Nat
  maskQty : Nat
  deriving DecidableEq, Repr

/-- The forms of READER_LIST (R84). -/
inductive ListForm where
  | entries (line : Nat)
  | bindings (start : Nat)
  | profiles
  | other (code : Nat)
  deriving DecidableEq, Repr

/-- The forms of READER_GET (R85). -/
inductive GetForm where
  | place (line drop : Nat)
  | serial (serial : ReaderSerial)
  deriving DecidableEq, Repr

/-- Fields of PRESENCE_SET (R153). -/
structure PresenceSet where
  record : Nat
  presence : Nat
  site : Option Nat
  deriving DecidableEq, Repr

/-- Fields of SITE_OPEN (R145). -/
structure SiteOpen where
  site : Nat
  lanes : List Nat
  deriving DecidableEq, Repr

/-- Fields of SITE_LASTCALL (R146). -/
structure SiteLastCall where
  site : Nat
  deadline : Nat
  deriving DecidableEq, Repr

/-- The commands, one per row of the table. -/
inductive Instr where
  | status (tag : Tag) (form : Bool)
  | news (tag : Tag) (form : Bool)
  | restart (tag : Tag) (form : Bool)
  | format (tag : Tag) (form : Bool)
  | setClock (tag : Tag) (body : Option SetClock)
  | settingsPut (tag : Tag) (body : Option SettingsPut)
  | guestGet (tag : Tag) (body : Option Nat)
  | guestPut (tag : Tag) (body : Option GuestPut)
  | cardAdd (tag : Tag) (body : Option CardRef)
  | cardMarkLost (tag : Tag) (body : Option CardRef)
  | cardRemove (tag : Tag) (body : Option CardRef)
  | planPut (tag : Tag) (body : Option PlanPut)
  | folioGet (tag : Tag) (body : Option Nat)
  | folioPut (tag : Tag) (body : Option FolioPut)
  | folioSettle (tag : Tag) (body : Option FolioSettle)
  | takePostings (tag : Tag) (body : Option Nat)
  | bindPut (tag : Tag) (body : Option BindPut)
  | bindRemove (tag : Tag) (body : Option ReaderSerial)
  | profilePut (tag : Tag) (body : Option ProfilePut)
  | readerList (tag : Tag) (body : Option ListForm)
  | readerGet (tag : Tag) (body : Option GetForm)
  | lineEnumerate (tag : Tag) (body : Option Nat)
  | lineCheck (tag : Tag) (body : Option Nat)
  | lineIsolate (tag : Tag) (body : Option Nat)
  | lineRestore (tag : Tag) (body : Option Nat)
  | presenceSet (tag : Tag) (body : Option PresenceSet)
  | tallyGet (tag : Tag) (form : Bool)
  | rosterGet (tag : Tag) (body : Option Nat)
  | siteOpen (tag : Tag) (body : Option SiteOpen)
  | siteLastCall (tag : Tag) (body : Option SiteLastCall)
  | siteClose (tag : Tag) (body : Option Nat)
  | census (tag : Tag) (form : Bool)
  | musterBegin (tag : Tag) (form : Bool)
  | musterEnd (tag : Tag) (form : Bool)
  | musterGet (tag : Tag) (form : Bool)
  | flush (tag : Tag) (form : Bool)
  | faultPlanPut (tag : Tag) (body : Option (List (Nat × Nat)))
  | faultClear (tag : Tag) (body : Option Nat)
  | resume (tag : Tag) (form : Bool)
  | busy (tag : Tag) (kind : Byte)
  | badKind (tag : Tag) (kind : Byte)
  | hostFrameDiscard (reason : DiscardReason)
  | frameGap
  | replySent
  | linkSilent
  | clockTick
  | clockMark
  | siteDeadline (site : Fin 4)
  | verdictLifeExpiry (line : Fin 4) (drop : Nat)
  | holdExpiry (line : Fin 4) (drop : Nat) (key : RecKey)
  | flusher
  | escalation
  | cacheStall
  | memSilent (secondHalf : Bool)
  | call (line : Fin 4) (gap : Nat)
  | verdict (line : Fin 4) (gap : Nat)
  | assign (line : Fin 4)
  | idle (line : Fin 4) (dur : Nat)
  | offer (line : Fin 4) (dur : Nat) (seq : Byte) (card : CardId) (lines : Option (List SaleLine))
  | cancel (line : Fin 4) (dur : Nat) (seq : Byte)
  | receipt (line : Fin 4) (dur : Nat) (taken : Bool)
  | join (line : Fin 4) (dur : Nat) (answer : JoinAnswer)
  | garble (line : Fin 4) (dur : Nat)
  | silence (line : Fin 4) (dur : Nat)
  | garbleRun (line : Fin 4)
  | quietCount (line : Fin 4) (drop : Nat)
  | readerLost (line : Fin 4) (drop : Nat)
  | lineCheckBegin (line : Fin 4) (lowFollowed highFollowed : Bool)
  | lineChecked (line : Fin 4) (probeReturned : Bool)
  | enumerationBegin (line : Fin 4)
  | lineIsolated (line : Fin 4)
  | fill (read : ReadResult)
  | writeBack (write : WriteResult)
  | dirtyMissPair (write : WriteResult)
  | commit (posting marks : WriteResult)
  | configurationWrite (write : WriteResult)
  | censusRead (read : ReadResult)
  | journalRead (read : ReadResult)
  | configurationRead (read : ReadResult)
  | pwrwarnAsserted
  | pwrwarnWithdrawn
  | emergencyMarkWrites
  | safe
  | resetAsserted (cut : CutAt)
  | resetRelease (straps : Straps)
  | restartReset (found : ResetFound)
  | startByte
  deriving DecidableEq, Repr

end Sys2Proof
end

