-- ==== Sys2Proof/Decode.lean ====
section
/-! DEFINITION. The words the opcode table gives bits to: none of its rows has any. -/
namespace Sys2Proof

/-- The command that a word of `nbits` bits spells by the table's bits. No row of the table gives bits, so no word
spells a command (log 6). The bytes of host and deck frames are read as commands by Machine/Frames.lean. -/
def decodeTableWord (_nbits _w : Nat) : Option Instr := none

end Sys2Proof
end

