-- ==== Sys2Proof/Config.lean ====
section
/-! DEFINITION. What the manual leaves to the board: the blank record memory and the pin levels at the modelled reset. -/
namespace Sys2Proof.Config

/-- What a byte of record memory that nothing has written reads as. DESIGN CHOICE (unsafe), log 1. -/
def blankByte : Byte := 0

/-- MODE strap at State.reset: low, SERVICE (R194). DESIGN CHOICE (unsafe), log 2. -/
def resetMaintenance : Bool := false

/-- RATE1 and RATE0 straps at State.reset: low, 115,200 baud. DESIGN CHOICE (unsafe), log 2. -/
def resetRate : Bool × Bool := (false, false)

/-- PWRWARN at State.reset: not asserted. DESIGN CHOICE (unsafe), log 2. -/
def resetPwrwarn : Bool := false

end Sys2Proof.Config
end

