-- ==== Sys2Proof/Machine/State.lean ====
section
/-! DEFINITION. The state of the DG7420 as plain data, every block's, and the state right after reset. -/
namespace Sys2Proof.Machine

/-! ## Guest records, folios, cards (R1, R123) -/

inductive Status where | vacant | active | suspended | departed
  deriving DecidableEq, Repr
inductive Category where | guest | crew
  deriving DecidableEq, Repr
inductive Presence where | notEmbarked | aboard | ashore | landed
  deriving DecidableEq, Repr
inductive CardState where | active | lost
  deriving DecidableEq, Repr

/-- What a card slot holds when it is not empty (R1). -/
structure Card where
  id : CardId
  state : CardState
  deriving DecidableEq, Repr

/-- A guest record (R1). Sites and stations are numbered from 0 here: `n` stands for number `n + 1`. -/
structure Guest where
  status : Status
  category : Category
  privileges : BitVec 16
  cabins : List Nat
  firstDay : Nat
  lastDay : Nat
  card0 : Option Card
  card1 : Option Card
  folio : Option (Fin 1024)
  plan : Fin 16
  allowDay : Nat
  allowUsed : Nat
  presence : Presence
  stamp : Nat
  site : Option (Fin 4)
  station : Fin 8
  musterStamp : Option Nat
  deriving DecidableEq, Repr

inductive FolioStatus where | open | hold | closed
  deriving DecidableEq, Repr
inductive Standing where | under | at | over
  deriving DecidableEq, Repr

/-- Sale flags, bits from the least significant: PRICE, QTY, COVER_PARTIAL, ROUNDED, FLOOR, OFFLINE (12.3). -/
abbrev SaleFlags := BitVec 6

/-- A folio record (R123). -/
structure Folio where
  status : FolioStatus
  balance : Int
  limit : Nat
  floorAllowance : Nat
  standing : Standing
  sticky : SaleFlags
  lastSerial : Option PostSerial
  deriving DecidableEq, Repr

/-- The content of a record, guest or folio. -/
inductive Rec where
  | guest (g : Guest)
  | folio (f : Folio)
  deriving DecidableEq, Repr

/-- One card index entry: identity to record and card slot (R5). -/
structure IndexEntry where
  card : CardId
  record : Fin 2048
  slot : Fin 2
  deriving DecidableEq, Repr

/-! ## Verdicts and the reader table (R61, R74) -/

inductive VerdictKind where
  | wait | grant | deny | accept | refuse | pass | passLate | passEmbark | repeated | mustered | musteredElsewhere
  | cancelled | tooLate | notPending
  deriving DecidableEq, Repr

/-- Reasons of DENY and REFUSE (12.3); `none` is no reason. -/
inductive Reason where
  | none | unbound | malformed | unknownCard | recordFault | lostCard | notActive | suspended | notYet | expired
  | notAboard | ashore | muster | noAccess | noFolio | hold | closed | price | qty | offline | over | limit
  | journalFull | noLanding | siteClosing | landed | noMuster
  deriving DecidableEq, Repr

/-- The result fields of a verdict (12.3). -/
inductive VResult where
  | none
  | openTime (seconds : Nat)
  | lineIndex (i : Nat)
  | accept (total covered : Nat) (remaining : Option Nat) (flags : SaleFlags) (serial : PostSerial)
  | late (serial : Option PostSerial)
  | lane (site : Option (Fin 4)) (count : Option Nat)
  | muster (station : Option (Fin 8)) (mustered count : Nat)
  deriving DecidableEq, Repr

structure Verdict where
  kind : VerdictKind
  reason : Reason
  result : VResult
  deriving DecidableEq, Repr

/-- An outgoing verdict (R61). -/
structure Outgoing where
  seq : Byte
  verdict : Verdict
  deliveries : Nat
  expiry : Nat
  deriving DecidableEq, Repr

/-- One trail entry of a LOCK reader (R97). -/
structure TrailEntry where
  record : Option (Fin 2048)
  card : CardId
  verdict : VerdictKind
  reason : Reason
  time : Nat
  delivered : Bool
  deriving DecidableEq, Repr

/-- A lock trail: its written entries, oldest first, at most 16, and the ring position of the next write (R97). -/
structure Trail where
  entries : List TrailEntry
  next : Fin 16
  deriving DecidableEq, Repr

/-- Binding state of a reader entry (R75). -/
inductive BindState where
  | bound (slot : Fin 192)
  | noBinding
  | kindMismatch
  | duplicate
  deriving DecidableEq, Repr

inductive Poll where | fast | slow | lost
  deriving DecidableEq, Repr

/-- Disposition of an entry's last offer: none, PENDING in its two stages, CANCEL_ASKED, DECIDED (R74). -/
inductive Disposition where | nothing | deferred | committing | cancelAsked | decided
  deriving DecidableEq, Repr

/-- A reader entry (R74). The hold references are read from the cache slots. -/
structure Entry where
  line : Fin 4
  drop : Nat
  kind : ReaderKind
  serial : ReaderSerial
  binding : BindState
  poll : Poll
  quiet : Nat
  silent : Nat
  lastSeq : Option Byte
  disposition : Disposition
  remembered : Option Verdict
  outgoing : Option Outgoing
  trail : Option Trail
  deriving DecidableEq, Repr

/-- A binding (R77). -/
structure Binding where
  serial : ReaderSerial
  kind : ReaderKind
  profile : Fin 16
  locus : Nat
  deriving DecidableEq, Repr

/-- A reader profile (R82). -/
structure Profile where
  openTime : Nat
  mask : BitVec 16
  rate : Nat
  priceCeiling : Nat
  qtyLimit : Nat
  offlineCeiling : Nat
  maskPrice : Bool
  maskQty : Bool
  deriving DecidableEq, Repr

/-- A package plan 1 to 15 (R15). -/
structure Plan where
  covered : BitVec 32
  cap : Nat
  allowance : Nat
  deriving DecidableEq, Repr

/-- The settings block (R22). -/
structure Settings where
  rollover : Nat
  flushAge : Nat
  roundLimit : Nat
  linkSilence : Nat
  escalation : Nat
  deriving DecidableEq, Repr

/-! ## Record cache and memory port (R27, R31) -/

inductive SlotState where | empty | filling | clean | dirty | writing
  deriving DecidableEq, Repr

/-- A requester waiting for a fill (R31). A reader's waiter names its offer (log 14). -/
inductive Waiter where
  | host
  | reader (line : Fin 4) (drop : Nat) (seq : Byte) (card : CardId) (record : Fin 2048)
  deriving DecidableEq, Repr

/-- A hold of a reader entry for a record (R37). -/
structure Hold where
  line : Fin 4
  drop : Nat
  key : RecKey
  expiry : Nat
  deriving DecidableEq, Repr

/-- A cache slot (R31). `dirtyAgain` holds the time recorded with the mark; `emergencyFailed` is the model's (log 25). -/
structure Slot where
  state : SlotState
  key : Option RecKey
  content : Option Rec
  incoming : Option RecKey
  waiters : List Waiter
  wbQueued : Bool
  dirtyAgain : Option Nat
  dirtySince : Nat
  urgent : Bool
  holds : List Hold
  commitPending : Nat
  emergencyFailed : Bool
  deriving DecidableEq, Repr

/-- An EMPTY slot. After reset R31's table gives a dash for kind and number: the model holds none (DESIGN CHOICE, log 35). -/
def Slot.blank : Slot :=
  { state := .empty, key := none, content := none, incoming := none, waiters := [], wbQueued := false,
    dirtyAgain := none, dirtySince := 0, urgent := false, holds := [], commitPending := 0, emergencyFailed := false }

/-- A FLUSH in progress: each unfinished member's slot, and whether one more completion passes first (R43). -/
structure FlushRun where
  members : List (Fin 128 × Bool)
  ok : Nat
  failed : Nat
  deriving DecidableEq, Repr

structure Cache where
  slots : Vector Slot 128
  recency : List (Fin 128)
  stalling : Bool
  flush : Option FlushRun
  deriving DecidableEq, Repr

/-- The blocks of the configuration area (R26). -/
inductive ConfBlock where
  | settings
  | faultPlan
  | bindings (b : Fin 12)
  | profile (p : Fin 16)
  | plan (p : Fin 15)
  | sites
  | muster
  | journalMarks
  | clockMark
  deriving DecidableEq, Repr

/-- What a configuration write rewrites: a configuration block, or, for FORMAT, a record (R195). -/
inductive WriteTarget where
  | conf (b : ConfBlock)
  | record (k : RecKey)
  deriving DecidableEq, Repr

/-- Whom the completion of a configuration write is told: the request in hand, no one, FORMAT, or the emergency flush. -/
inductive WriteOwner where | hand | unit | format | flush
  deriving DecidableEq, Repr

/-- Memory jobs (R27). A dirty-miss pair is `pair` until its write half ends and `pairRead` after. -/
inductive Job where
  | fill (slot : Fin 128)
  | writeBack (slot : Fin 128)
  | pair (slot : Fin 128)
  | pairRead (slot : Fin 128)
  | commit
  | confWrite (target : WriteTarget) (owner : WriteOwner)
  | censusRead (record : Fin 2048)
  | journalRead (serial : PostSerial)
  | confRead (block : Fin 49)
  deriving DecidableEq, Repr

/-- The eight kinds of job (R27). -/
inductive JobKind where
  | fill | writeBack | pair | commit | confWrite | censusRead | journalRead | confRead
  deriving DecidableEq, Repr

/-- A requester waiting for a queue place, or for a slot (R28, R34). -/
inductive PlaceWaiter where
  | block (b : ConfBlock)
  | handConf
  | handMiss
  | flush
  | emergency
  | postings
  | format
  | census
  deriving DecidableEq, Repr

/-- The memory port (R28). `record` and `data` are the record and the block taken with the job in progress, `silent`
whether its transfer has found the memory silent. -/
structure Port where
  job : Option Job
  record : Option RecKey
  data : List Byte
  silent : Bool
  queue : List Job
  waiting : List PlaceWaiter
  deriving DecidableEq, Repr

/-! ## Clock, folio and journal unit, landing unit, muster unit -/

/-- The clock unit (1.6). `flusherDue` says a tick has passed on which the flusher has not acted yet (log 8). -/
structure Clock where
  seconds : Nat
  isSet : Bool
  offset : Int
  day : Nat
  sinceMark : Nat
  flusherDue : Bool
  deriving DecidableEq, Repr

/-- What has become of a committing sale's offer at its reader entry (R125, R130). -/
inductive CommitReader where | current | superseded | gone
  deriving DecidableEq, Repr

/-- One accepted sale on the commit list (R125). -/
structure CommitEntry where
  line : Fin 4
  drop : Nat
  reader : CommitReader
  readerSerial : ReaderSerial
  seq : Byte
  serial : PostSerial
  queued : Bool
  time : Nat
  outlet : Nat
  guest : Fin 2048
  folio : Fin 1024
  subtotal : Nat
  service : Nat
  total : Nat
  covered : Nat
  flags : SaleFlags
  day : Nat
  remaining : Option Nat
  deriving DecidableEq, Repr

/-- A posting as its journal block holds it (R127). -/
structure Posting where
  serial : PostSerial
  time : Nat
  outlet : Nat
  line : Fin 4
  drop : Nat
  seq : Byte
  flags : SaleFlags
  guest : Fin 2048
  folio : Fin 1024
  subtotal : Nat
  service : Nat
  total : Nat
  covered : Nat
  deriving DecidableEq, Repr

structure Journal where
  head : PostSerial
  tail : PostSerial
  next : PostSerial
  commits : List CommitEntry
  deriving DecidableEq, Repr

inductive SiteState where | closed | open | lastCall | overdue
  deriving DecidableEq, Repr

/-- A site entry (R144); `due` says a tick has found its deadline reached (log 8). -/
structure Site where
  state : SiteState
  deadline : Option Nat
  count : Nat
  due : Bool
  deriving DecidableEq, Repr

/-- An ashore roster entry (R142). -/
structure RosterEntry where
  record : Fin 2048
  category : Category
  site : Fin 4
  stamp : Nat
  deriving DecidableEq, Repr

/-- A record counted ABOARD: as it stands in the tallies and station counts, and whether it has been counted mustered. The
list of them is the model's: it says which count a holder leaves (R141, R165; log 32). -/
structure AboardEntry where
  record : Fin 2048
  category : Category
  station : Fin 8
  mustered : Bool
  deriving DecidableEq, Repr

inductive CensusCause where | startUp | request
  deriving DecidableEq, Repr

/-- The census (R157 to R162): `next` is the next record whose read is to be queued. -/
structure Census where
  running : Bool
  cursor : Nat
  next : Nat
  cause : CensusCause
  skipped : List (Fin 2048)
  duplicates : Nat
  deriving DecidableEq, Repr

structure Landing where
  aboardGuest : Nat
  aboardCrew : Nat
  ashoreGuest : Nat
  ashoreCrew : Nat
  stations : Vector Nat 8
  aboard : List AboardEntry
  roster : List RosterEntry
  sites : Vector Site 4
  lanes : Vector (Option (Fin 4)) 4
  census : Census
  deriving DecidableEq, Repr

/-- The figures frozen at MUSTER_END (R167): per station, station count and mustered count; the crew aboard tally
and crew mustered count; the census cursor when partial. -/
structure Frozen where
  beginStamp : Nat
  endStamp : Nat
  stations : List (Nat × Nat)
  crewAboard : Nat
  crewMustered : Nat
  partialAt : Option Nat
  deriving DecidableEq, Repr

structure Muster where
  active : Bool
  beginStamp : Nat
  mustered : Vector Nat 8
  crewMustered : Nat
  frozen : Option Frozen
  deriving DecidableEq, Repr

/-! ## Fault router (R174) -/

inductive FaultSource where
  | memCheck | memSilent | lineFault (n : Fin 4) | lineSlow (n : Fin 4) | cacheStall | journalHigh | journalFull
  | linkSilent | clockUnset | powerWarn
  deriving DecidableEq, Repr

/-- A set of plan actions (R174). -/
structure FaultPlan where
  note : Bool := false
  pin : Bool := false
  isolate : Bool := false
  standalone : Bool := false
  delay : Bool := false
  deriving DecidableEq, Repr

structure FaultEntry where
  present : Bool
  raised : Bool
  count : Nat
  plan : FaultPlan
  deriving DecidableEq, Repr

inductive EscalationState where | stopped | running | expired
  deriving DecidableEq, Repr

/-- The cause of an entry into standalone service (R184). -/
inductive StandaloneCause where
  | source (s : FaultSource)
  | escalation
  deriving DecidableEq, Repr

/-- A beginning the router has yet to act on: its source, its voyage seconds, whether it was a raise (R174, R176). -/
structure Begun where
  source : FaultSource
  time : Nat
  raise : Bool
  deriving DecidableEq, Repr

structure Router where
  entries : Vector FaultEntry 16
  timer : EscalationState
  run : Nat
  standalone : Bool
  cause : Option StandaloneCause
  since : Option Nat
  deferred : List Begun
  deriving DecidableEq, Repr

/-! ## Deck lines (R50) -/

inductive LineState where | isolated | checking | enumerating | serving
  deriving DecidableEq, Repr
inductive CheckResult where | good | shorted | broken
  deriving DecidableEq, Repr
inductive CheckCause where | startUp | request | automatic | restore
  deriving DecidableEq, Repr
inductive IsolateCause where | request | plan
  deriving DecidableEq, Repr
inductive EnumResult where | complete | chainFault | overfull | abandoned
  deriving DecidableEq, Repr
inductive UndeliveredCause where | expired | superseded | removed
  deriving DecidableEq, Repr
inductive AnomalyCause where | lock | sale | muster
  deriving DecidableEq, Repr

/-- Frames the part sends on a deck line (R49). -/
inductive DeckFrame where
  | call (drop : Nat)
  | verdict (drop : Nat) (seq : Byte) (v : Verdict)
  | assign (k : Nat)
  | dropAll
  | probe
  deriving DecidableEq, Repr

/-- An accepted operation that takes effect when the turn in progress ends (R48). -/
inductive LineOp where
  | check (cause : CheckCause)
  | enumerate
  deriving DecidableEq, Repr

/-- A check in progress: its cause, whether it began from SERVING, and what DnSENSE did (R69). -/
structure CheckRun where
  cause : CheckCause
  fromServing : Bool
  lowFollowed : Bool
  highFollowed : Bool
  deriving DecidableEq, Repr

/-- An enumeration in progress: the drop being assigned (0 for the probe), its tries and silences (R67). -/
structure EnumRun where
  drop : Nat
  tries : Nat
  silences : Nat
  deriving DecidableEq, Repr

/-- A deck line controller (R50). The turn in progress is the frame whose answer window is open; `ops` are the accepted
operations still to begin, in the order they were accepted (log 10). -/
structure Line where
  state : LineState
  round : BitVec 16
  priority : List Nat
  garbleRun : Nat
  capture : Nat
  check : Option CheckResult
  enumerated : Bool
  turn : Option DeckFrame
  sent : Option DeckFrame
  roundBegun : Bool
  lastDrop : Nat
  roundTime : Nat
  ops : List LineOp
  isolating : Option IsolateCause
  checking : Option CheckRun
  enumerating : Option EnumRun
  driveEnable : Bool
  chain : Bool
  biasHigh : Bool
  biasLow : Bool
  deriving DecidableEq, Repr

/-! ## Host link (R188) and notices (R191) -/

/-- Results of a reply (R189). -/
inductive Result where
  | done | started | busy | badKind | badField | state | memoryFault | mode
  deriving DecidableEq, Repr

/-- How a line's bring-up ended (R198). -/
inductive BringUp where
  | enumerated (count : Nat) (result : EnumResult)
  | isolated (check : Option CheckResult)
  deriving DecidableEq, Repr

/-- The notices and their fields, each as its owning rule gives them (Notice kinds). -/
inductive NoticeBody where
  | startUpDone (maintenance : Bool) (lines : List (Option BringUp)) (census : Option (Nat × Nat × Nat × Nat × Nat))
      (defaulted untaken : Nat) (muster : Bool)
  | censusDone (cause : CensusCause) (aboardGuest aboardCrew ashoreGuest ashoreCrew : Nat) (sites : List Nat)
      (skipped : Nat) (lowest : List (Fin 2048)) (duplicates : Nat)
  | flushDone (ok failed : Nat)
  | lineEnumerated (line : Fin 4) (result : EnumResult) (entries duplicates unbound : Nat)
  | lineChecked (line : Fin 4) (result : CheckResult) (cause : CheckCause)
  | lineIsolated (line : Fin 4) (cause : IsolateCause)
  | readerLost (line : Fin 4) (drop : Nat) (serial : ReaderSerial) (outgoing : Bool)
  | readerBack (line : Fin 4) (drop : Nat) (serial : ReaderSerial)
  | presenceAnomaly (line : Fin 4) (drop : Nat) (cause : AnomalyCause) (card : CardId) (record : Fin 2048)
      (site : Option (Fin 4)) (stamp : Nat) (corrected : Bool)
  | lostCardSeen (line : Fin 4) (drop : Nat) (card : CardId) (record : Fin 2048)
  | verdictUndelivered (line : Fin 4) (drop : Nat) (serial : ReaderSerial) (seq : Byte) (verdict : VerdictKind)
      (reason : Reason) (posting : Option PostSerial) (deliveries : Nat) (cause : UndeliveredCause)
  | siteOverdue (site : Fin 4) (deadline count : Nat) (partialMark : Bool)
  | lateReturn (record : Fin 2048) (category : Category) (site : Fin 4) (lane : Nat) (time : Nat)
      (deadline : Option Nat) (count : Nat)
  | siteClear (site : Fin 4) (state : SiteState) (time : Nat)
  | wrongStation (line : Fin 4) (drop : Nat) (record : Fin 2048) (category : Category) (assigned : Fin 8)
      (reader : Nat) (time : Nat)
  | faultRaised (source : FaultSource) (time count : Nat) (plan : FaultPlan)
  | escalated (time length : Nat) (sources : List FaultSource) (entered : Bool)
  | standaloneEntered (cause : StandaloneCause) (time : Nat)
  deriving DecidableEq, Repr

structure Notice where
  number : BitVec 16
  time : Nat
  body : NoticeBody
  deriving DecidableEq, Repr

structure NoticeQueue where
  items : List Notice
  next : BitVec 16
  lost : Bool
  deriving DecidableEq, Repr

inductive PowerState where | normal | emergencyFlush | haltedSafe
  deriving DecidableEq, Repr

/-- What STATUS reports of a line (R193). -/
structure LineStatus where
  state : LineState
  check : Option CheckResult
  enumerated : Bool
  round : BitVec 16
  capture : Nat
  entries : Nat
  deriving DecidableEq, Repr

/-- The figures of a STATUS reply (R193). -/
structure StatusFigures where
  maintenance : Bool
  running : Bool
  power : PowerState
  standalone : Bool
  cause : Option StandaloneCause
  since : Option Nat
  seconds : Nat
  isSet : Bool
  offset : Int
  rollover : Nat
  day : Nat
  faults : List FaultEntry
  timer : EscalationState
  timerRun : Nat
  silence : Nat
  nextNotice : BitVec 16
  notices : Nat
  newsLost : Bool
  lines : List LineStatus
  census : Option Nat
  skipped : Nat
  muster : Bool
  beginStamp : Nat
  head : PostSerial
  tail : PostSerial
  next : PostSerial
  untaken : Nat
  slots : List Nat
  queued : Nat
  job : Option JobKind
  stalling : Bool
  deriving DecidableEq, Repr

/-- One entry of a READER_LIST ENTRIES reply (R84). -/
structure EntrySummary where
  drop : Nat
  kind : ReaderKind
  serial : ReaderSerial
  binding : BindState
  poll : Poll
  outgoing : Bool
  disposition : Disposition
  deriving DecidableEq, Repr

/-- A site as TALLY_GET reports it (R154). -/
structure SiteFigures where
  state : SiteState
  deadline : Option Nat
  count : Nat
  lanes : List (Fin 4)
  deriving DecidableEq, Repr

/-- A posting as TAKE_POSTINGS returns it: damaged, when its content is `none` (R134). -/
structure PostingRead where
  serial : PostSerial
  content : Option Posting
  deriving DecidableEq, Repr

/-- What follows the result of a reply, each as its owning rule gives it. -/
inductive ReplyBody where
  | empty
  | status (f : StatusFigures)
  | news (taken : List Notice) (lost : Bool) (remaining : Nat)
  | guest (g : Guest) (censusMark : Bool)
  | indexedAt (record : Fin 2048) (slot : Fin 2)
  | folio (f : Folio) (sales : Nat) (pendingTotal : Nat)
  | postings (list : List PostingRead) (head : PostSerial) (untaken : Nat)
  | entries (state : LineState) (list : List EntrySummary)
  | bindings (list : List (Fin 192 × Binding)) (next : Option (Fin 192))
  | profiles (list : List Profile)
  | entry (e : Entry) (binding : Option Binding) (holds : List (Fin 128)) (holdCount : Nat)
      (trail : Option (List (Option TrailEntry)))
  | serialHeld (binding : Option (Fin 192 × Binding)) (places : List (Fin 4 × Nat))
  | checkResult (r : CheckResult)
  | tally (aboardGuest aboardCrew ashoreGuest ashoreCrew : Nat) (sites : List SiteFigures) (stations : List Nat)
      (roster : Nat) (census : Option Nat) (skipped : Nat)
  | roster (list : List RosterEntry) (length : Nat) (census : Option Nat)
  | siteCount (count : Nat)
  | musterLive (beginStamp : Nat) (stations : List (Nat × Nat)) (crewAboard crewMustered : Nat) (census : Option Nat)
  | musterHeld (active : Bool) (beginStamp : Nat) (frozen : Option Frozen)
  | source (src : FaultSource)
  | sources (list : List FaultSource)
  | formatFailed (count : Nat) (first : WriteTarget)
  | formatIncomplete (written : Nat)
  deriving DecidableEq, Repr

/-- A reply frame: its tag, the kind code of the request answered, its result and what it carries (R189). -/
structure Reply where
  tag : Tag
  kind : Byte
  result : Result
  body : ReplyBody
  deriving DecidableEq, Repr

/-- The fields GUEST_PUT writes, in range (R10). -/
structure GuestFields where
  status : Status
  category : Category
  privileges : BitVec 16
  cabins : List Nat
  firstDay : Nat
  lastDay : Nat
  folio : Option (Fin 1024)
  plan : Fin 16
  station : Fin 8
  resetAllowance : Bool
  deriving DecidableEq, Repr

/-- A request naming a record, its fields in range (R8). -/
inductive RecordReq where
  | guestGet (n : Fin 2048)
  | guestPut (n : Fin 2048) (f : GuestFields)
  | cardAdd (n : Fin 2048) (slot : Fin 2) (card : CardId)
  | cardMarkLost (n : Fin 2048) (slot : Fin 2) (card : CardId)
  | cardRemove (n : Fin 2048) (slot : Fin 2) (card : CardId)
  | presenceSet (n : Fin 2048) (p : Presence) (site : Option (Fin 4))
  | folioGet (n : Fin 1024)
  | folioPut (n : Fin 1024) (status : FolioStatus) (limit floorAllowance : Nat) (balance : Option Int) (clear : SaleFlags)
  | folioSettle (n : Fin 1024) (amount : Int)
  deriving DecidableEq, Repr

/-- A request finished after its configuration write, its fields in range (R21). -/
inductive ConfReq where
  | planPut (p : Fin 15) (plan : Plan)
  | setClock (seconds : Option Nat) (offset : Option Int)
  | settingsPut (f : SettingsPut)
  | bindPut (b : Binding)
  | bindRemove (serial : ReaderSerial)
  | profilePut (p : Fin 16) (profile : Profile)
  | siteOpen (site : Fin 4) (lanes : List (Fin 4))
  | siteLastCall (site : Fin 4) (deadline : Nat)
  | siteClose (site : Fin 4)
  | musterBegin
  | musterEnd
  | faultPlanPut (plans : List (FaultSource × FaultPlan))
  deriving DecidableEq, Repr

/-- A TAKE_POSTINGS at work (R134): its first serial and count, how many reads are queued so far, the postings
read, whether a read found the memory silent, whether the emergency flush has withdrawn it. -/
structure TakeRun where
  first : PostSerial
  count : Nat
  queued : Nat
  read : List PostingRead
  silent : Bool
  withdrawn : Bool
  deriving DecidableEq, Repr

/-- A FORMAT at work (R195): the next block of the 3,121 to queue, how many are queued or in progress, how many were
written, how many failed and the first of them, whether PWRWARN has stopped it. -/
structure FormatRun where
  next : Nat
  outstanding : Nat
  written : Nat
  failed : Nat
  first : Option WriteTarget
  stopped : Bool
  deriving DecidableEq, Repr

/-- The stage of the request in hand (R189). -/
inductive Work where
  | judging
  | formed (r : Reply)
  | record (req : RecordReq)
  | confPlace (req : ConfReq)
  | confWrite
  | check (line : Fin 4)
  | postings (run : TakeRun)
  | format (run : FormatRun)
  deriving DecidableEq, Repr

structure InHand where
  tag : Tag
  kind : Byte
  work : Work
  deriving DecidableEq, Repr

inductive Receiver where | hunting | assembling
  deriving DecidableEq, Repr

/-- The host link port (R188). `sent` is the model's: the bytes of the last frame sent on TXD. -/
structure HostLink where
  receiver : Receiver
  inHand : Option InHand
  tx : List Reply
  sent : List Byte
  silence : Nat
  deriving DecidableEq, Repr

/-! ## The part -/

inductive StartPhase where | readingConfig | bringingUp | running
  deriving DecidableEq, Repr

/-- Start-up (R197, R198). -/
structure StartUp where
  phase : StartPhase
  defaulted : Nat
  censusEnded : Bool
  bringUp : Vector (Option BringUp) 4
  deriving DecidableEq, Repr

/-- Power (R44, R45, R200): `marks` is none while the flush drains, and counts the mark writes outstanding after. -/
structure Power where
  state : PowerState
  marks : Option Nat
  restart : Bool
  deriving DecidableEq, Repr

/-- Level pins held as state (Pin summary). -/
structure Pins where
  attn : Bool
  fault : Bool
  safe : Bool
  pwrwarn : Bool
  deriving DecidableEq, Repr

/-- The record memory: its bytes that differ from the blank byte, addresses strictly rising. -/
abbrev Memory := List Host.Cell

structure State where
  pending : List Instr
  inReset : Bool
  straps : Straps
  startUp : StartUp
  power : Power
  pins : Pins
  mem : Memory
  clock : Clock
  settings : Settings
  plans : Vector Plan 15
  profiles : Vector Profile 16
  bindings : Vector (Option Binding) 192
  index : List IndexEntry
  cache : Cache
  port : Port
  lines : Vector Line 4
  entries : List Entry
  journal : Journal
  landing : Landing
  muster : Muster
  router : Router
  link : HostLink
  notices : NoticeQueue
  deriving DecidableEq, Repr

/-- Faults of the model. No command raises one: the part reports its troubles as state (R174). -/
inductive Fault where
  /-- An access outside the 245,760 bytes the part addresses (R23). Raised by no command, since every job names a
  block of a region; safe. -/
  | unaddressedByte (address : Nat)
  deriving DecidableEq, Repr

/-- Refusals of the model. -/
inductive Refusal where
  /-- A command without a meaning yet. Raised only by a refused arm of exec, of which none is left; safe. -/
  | notModelled (mnemonic : String)
  deriving DecidableEq, Repr

/-! ## FORMAT values and reset -/

/-- The FORMAT value of a guest record (R1). -/
def Guest.blank : Guest :=
  { status := .vacant, category := .guest, privileges := 0, cabins := [], firstDay := 0, lastDay := 0, card0 := none,
    card1 := none, folio := none, plan := 0, allowDay := 0, allowUsed := 0, presence := .notEmbarked, stamp := 0,
    site := none, station := 0, musterStamp := none }

/-- The FORMAT value of a folio record (R123). -/
def Folio.blank : Folio :=
  { status := .closed, balance := 0, limit := 0, floorAllowance := 0, standing := .at, sticky := 0, lastSerial := none }

/-- The FORMAT value of a plan (R15). -/
def Plan.blank : Plan := { covered := 0, cap := 0, allowance := 0 }

/-- The FORMAT value of a profile (R82). -/
def Profile.blank : Profile :=
  { openTime := 5, mask := 0xFFFF, rate := 0, priceCeiling := 0, qtyLimit := 99, offlineCeiling := 0,
    maskPrice := false, maskQty := false }

/-- The FORMAT values of the settings (R22). -/
def Settings.blank : Settings := { rollover := 5, flushAge := 5, roundLimit := 250, linkSilence := 10, escalation := 120 }

/-- A CLOSED site (R144). -/
def Site.blank : Site := { state := .closed, deadline := none, count := 0, due := false }

/-- The default fault plan, in source order (R181). -/
def FaultPlan.defaults : Vector FaultPlan 16 :=
  #v[{ note := true, pin := true }, { note := true, pin := true, delay := true },
     { note := true, isolate := true }, { note := true, isolate := true }, { note := true, isolate := true },
     { note := true, isolate := true }, { note := true }, { note := true }, { note := true }, { note := true },
     { note := true, delay := true }, { note := true }, { note := true, pin := true },
     { note := true, standalone := true }, { note := true }, { note := true, pin := true }]

/-- A line right after reset (R50). -/
def Line.blank : Line :=
  { state := .isolated, round := 0, priority := [], garbleRun := 0, capture := 0, check := none, enumerated := false,
    turn := none, sent := none, roundBegun := false, lastDrop := 0, roundTime := 0, ops := [], isolating := none,
    checking := none, enumerating := none, driveEnable := false, chain := false, biasHigh := false, biasLow := false }

def Census.blank : Census :=
  { running := false, cursor := 0, next := 0, cause := .startUp, skipped := [], duplicates := 0 }

def Cache.blank : Cache := { slots := Vector.replicate 128 Slot.blank, recency := [], stalling := false, flush := none }

/-- The part right after reset release in SERVICE: the configuration read of block 0 is in progress and CLOCK_UNSET
has begun (R19, R47, R50, R174, R191, R196, R197). Durable values stand at their FORMAT values until they are read
(DESIGN CHOICE, log 3). -/
def State.reset : State :=
  { pending := []
    inReset := false
    straps := { maintenance := Config.resetMaintenance, rate1 := Config.resetRate.1, rate0 := Config.resetRate.2 }
    startUp := { phase := .readingConfig, defaulted := 0, censusEnded := false, bringUp := Vector.replicate 4 none }
    power := { state := .normal, marks := none, restart := false }
    pins := { attn := false, fault := false, safe := false, pwrwarn := Config.resetPwrwarn }
    mem := []
    clock := { seconds := 0, isSet := false, offset := 0, day := 0, sinceMark := 0, flusherDue := false }
    settings := Settings.blank
    plans := Vector.replicate 15 Plan.blank
    profiles := Vector.replicate 16 Profile.blank
    bindings := Vector.replicate 192 none
    index := []
    cache := Cache.blank
    port := { job := some (.confRead 0), record := none, data := [], silent := false, queue := [], waiting := [] }
    lines := Vector.replicate 4 Line.blank
    entries := []
    journal := { head := 1, tail := 1, next := 1, commits := [] }
    landing :=
      { aboardGuest := 0, aboardCrew := 0, ashoreGuest := 0, ashoreCrew := 0, stations := Vector.replicate 8 0,
        aboard := [], roster := [], sites := Vector.replicate 4 Site.blank, lanes := Vector.replicate 4 none, census := Census.blank }
    muster := { active := false, beginStamp := 0, mustered := Vector.replicate 8 0, crewMustered := 0, frozen := none }
    router :=
      { entries := (FaultPlan.defaults.map fun p => { present := false, raised := false, count := 0, plan := p }).set 14
          { present := true, raised := true, count := 1, plan := { note := true } },
        timer := .stopped, run := 0, standalone := false, cause := none, since := none,
        deferred := [{ source := .clockUnset, time := 0, raise := true }] }
    link := { receiver := .hunting, inHand := none, tx := [], sent := [], silence := 0 }
    notices := { items := [], next := 0, lost := false } }

end Sys2Proof.Machine
end

