-- ==== Sys2Proof/Machine/Formats.lean ====
section
/-! DEFINITION. Byte formats of chapter 12: the check word, numbers, record and configuration blocks, deck frames and
the code tables. A decoder answers none for a check-word mismatch and for every content fault of R202. -/
namespace Sys2Proof.Machine

/-! ## Check word and numbers (R201) -/

/-- One shift of the CRC register (R201). -/
def crcShift (r : BitVec 16) : BitVec 16 := if r.msb then (r <<< 1) ^^^ 0x1021 else r <<< 1

/-- The CRC register after one byte (R201). -/
def crcByte (r : BitVec 16) (b : Byte) : BitVec 16 :=
  crcShift (crcShift (crcShift (crcShift (crcShift (crcShift (crcShift (crcShift
    (r ^^^ (b.setWidth 16 <<< 8)))))))))

/-- The check word over the covered bytes (R201). -/
def crc16 (bs : List Byte) : BitVec 16 := bs.foldl crcByte 0xFFFF

/-- The n-byte number v, most significant byte first (chapter 12). -/
def be : Nat → Nat → List Byte
  | 0, _ => []
  | n + 1, v => BitVec.ofNat 8 (v / 256 ^ n) :: be n v

/-- The number that bytes spell, most significant first. -/
def ofBe (bs : List Byte) : Nat := bs.foldl (fun a b => a * 256 + b.toNat) 0

/-- The n-byte number at an offset of a block. -/
def numAt (bs : List Byte) (off n : Nat) : Nat := ofBe ((bs.drop off).take n)

/-- The signed 4-byte two's complement form of an amount (chapter 12). -/
def signed (n : Nat) (v : Int) : Nat := (v % (256 ^ n : Nat)).toNat

/-- The amount an n-byte two's complement number stands for. -/
def ofSigned (n v : Nat) : Int := if 2 * v < 256 ^ n then v else (v : Int) - (256 ^ n : Nat)

/-- An optional number behind its presence byte, its bytes zero when absent (chapter 12). -/
def optBytes (n : Nat) (o : Option Nat) : List Byte :=
  match o with
  | none => 0 :: be n 0
  | some v => 1 :: be n v

/-- A block's content with its check word after it (R24). -/
def sealBlock (content : List Byte) : List Byte := content ++ be 2 (crc16 content).toNat

/-- The content of a block whose check word is right (R24). -/
def openBlock (bs : List Byte) : Option (List Byte) :=
  let content := bs.take (bs.length - 2)
  if be 2 (crc16 content).toNat = bs.drop (bs.length - 2) then some content else none

/-! ## Code tables of chapter 12 -/

def Status.code : Status → Nat
  | .vacant => 0 | .active => 1 | .suspended => 2 | .departed => 3
def Status.ofCode : Nat → Option Status
  | 0 => some .vacant | 1 => some .active | 2 => some .suspended | 3 => some .departed | _ => none
def Category.code : Category → Nat
  | .guest => 0 | .crew => 1
def Category.ofCode : Nat → Option Category
  | 0 => some .guest | 1 => some .crew | _ => none
def Presence.code : Presence → Nat
  | .notEmbarked => 0 | .aboard => 1 | .ashore => 2 | .landed => 3
def Presence.ofCode : Nat → Option Presence
  | 0 => some .notEmbarked | 1 => some .aboard | 2 => some .ashore | 3 => some .landed | _ => none
def FolioStatus.code : FolioStatus → Nat
  | .open => 0 | .hold => 1 | .closed => 2
def FolioStatus.ofCode : Nat → Option FolioStatus
  | 0 => some .open | 1 => some .hold | 2 => some .closed | _ => none
def Standing.code : Standing → Nat
  | .under => 0 | .at => 1 | .over => 2
def Standing.ofCode : Nat → Option Standing
  | 0 => some .under | 1 => some .at | 2 => some .over | _ => none
def SiteState.code : SiteState → Nat
  | .closed => 0 | .open => 1 | .lastCall => 2 | .overdue => 3
def SiteState.ofCode : Nat → Option SiteState
  | 0 => some .closed | 1 => some .open | 2 => some .lastCall | 3 => some .overdue | _ => none
/-- Reader kind codes of JOIN, which BIND_PUT shares (12.3). -/
def readerKindCode : ReaderKind → Nat
  | .lock => 1 | .bar => 2 | .laneOut => 3 | .laneIn => 4 | .muster => 5
def readerKindOfCode : Nat → Option ReaderKind
  | 1 => some .lock | 2 => some .bar | 3 => some .laneOut | 4 => some .laneIn | 5 => some .muster | _ => none

/-- A number 1 to n as its index from 0. -/
def oneBased (n v : Nat) : Option (Fin n) := if h : 0 < v ∧ v ≤ n then some ⟨v - 1, by omega⟩ else none
/-- A number below n as an index. -/
def below (n v : Nat) : Option (Fin n) := if h : v < n then some ⟨v, h⟩ else none
/-- The 0-for-none code of a 1-based number. -/
def zeroNone {n : Nat} (o : Option (Fin n)) : Nat :=
  match o with
  | none => 0
  | some i => i.val + 1
/-- The index a 0-for-none code names, or none; nothing when out of range. -/
def ofZeroNone (n v : Nat) : Option (Option (Fin n)) := if v = 0 then some none else (oneBased n v).map some

/-- The source order of the fault sources table (R203). -/
def FaultSource.index : FaultSource → Fin 16
  | .memCheck => 0 | .memSilent => 1
  | .lineFault n => ⟨2 + n, by omega⟩ | .lineSlow n => ⟨6 + n, by omega⟩
  | .cacheStall => 10 | .journalHigh => 11 | .journalFull => 12 | .linkSilent => 13 | .clockUnset => 14
  | .powerWarn => 15

/-- The sixteen sources in that order. -/
def FaultSource.all : List FaultSource :=
  [.memCheck, .memSilent, .lineFault 0, .lineFault 1, .lineFault 2, .lineFault 3, .lineSlow 0, .lineSlow 1,
   .lineSlow 2, .lineSlow 3, .cacheStall, .journalHigh, .journalFull, .linkSilent, .clockUnset, .powerWarn]

/-- The plan action byte: NOTE, PIN, ISOLATE, STANDALONE, DELAY from the least significant bit (12.7). That requests, replies
and notices carry the same byte is a DESIGN CHOICE (log 59). -/
def FaultPlan.code (p : FaultPlan) : Nat :=
  p.note.toNat + 2 * p.pin.toNat + 4 * p.isolate.toNat + 8 * p.standalone.toNat + 16 * p.delay.toNat
/-- The plan of an action byte. A byte with a bit above bit 4 set names none: a content fault in the block (DESIGN CHOICE, log 61)
and BAD_FIELD in a request (log 59). -/
def FaultPlan.ofCode (v : Nat) : Option FaultPlan :=
  if v < 32 then
    some { note := v % 2 = 1, pin := v / 2 % 2 = 1, isolate := v / 4 % 2 = 1, standalone := v / 8 % 2 = 1,
           delay := v / 16 % 2 = 1 }
  else none

/-- Whether a source may hold ISOLATE (R178). -/
def FaultSource.isLine : FaultSource → Bool
  | .lineFault _ | .lineSlow _ => true
  | _ => false

/-! ## Configuration block numbering (12.7) -/

/-- Block number k of a configuration block. -/
def ConfBlock.number : ConfBlock → Fin 49
  | .settings => 0 | .faultPlan => 1
  | .bindings b => ⟨2 + b, by omega⟩ | .profile p => ⟨14 + p, by omega⟩ | .plan p => ⟨30 + p, by omega⟩
  | .sites => 45 | .muster => 46 | .journalMarks => 47 | .clockMark => 48

/-- The configuration block of number k. -/
def ConfBlock.ofNumber (k : Fin 49) : ConfBlock :=
  if k.val = 0 then .settings else if k.val = 1 then .faultPlan
  else if h : k.val < 14 then .bindings ⟨k.val - 2, by omega⟩
  else if h : k.val < 30 then .profile ⟨k.val - 14, by omega⟩
  else if h : k.val < 45 then .plan ⟨k.val - 30, by omega⟩
  else if k.val = 45 then .sites else if k.val = 46 then .muster else if k.val = 47 then .journalMarks else .clockMark

/-- The bytes of a block's content, before the check word (12.7). -/
def ConfBlock.size : ConfBlock → Nat
  | .settings => 7 | .faultPlan => 16 | .bindings _ => 128 | .profile _ => 15 | .plan _ => 9
  | .sites => 28 | .muster => 5 | .journalMarks => 8 | .clockMark => 8

/-! ## Guest record (12.4) -/

def cardIdBytes (c : Option Card) : List Byte := be 8 (match c with | none => 0 | some c => c.id.toNat)
def cardLostBit (c : Option Card) : Nat :=
  match c with
  | some ⟨_, .lost⟩ => 1
  | _ => 0

/-- The 62 bytes of a guest record before its check word. -/
def guestBytes (g : Guest) : List Byte :=
  be 1 g.status.code ++ be 1 g.category.code ++ be 2 g.privileges.toNat ++ be 1 g.cabins.length ++ be 1 g.plan.val
  ++ be 2 (g.cabins.getD 0 0) ++ be 2 (g.cabins.getD 1 0) ++ be 2 (g.cabins.getD 2 0)
  ++ be 2 g.firstDay ++ be 2 g.lastDay ++ cardIdBytes g.card0 ++ cardIdBytes g.card1
  ++ be 1 (cardLostBit g.card0 + 2 * cardLostBit g.card1) ++ be 1 g.presence.code ++ be 1 (zeroNone g.site)
  ++ be 1 (g.station.val + 1) ++ be 2 (match g.folio with | none => 0xFFFF | some f => f.val)
  ++ be 2 g.allowDay ++ be 1 g.allowUsed ++ be 1 (if g.musterStamp.isSome then 1 else 0) ++ be 4 g.stamp
  ++ be 4 (g.musterStamp.getD 0) ++ List.replicate 12 0

/-- The card a slot's identity and LOST bit spell. -/
def cardOf (id lost : Nat) : Option Card :=
  if id = 0 then none else some { id := BitVec.ofNat 64 id, state := if lost = 1 then .lost else .active }

/-- The ranges and content rules a guest record keeps (R1, R202); a record ASHORE carries a site (R140; DEDUCED, log 38). -/
def Guest.inRange (g : Guest) : Bool :=
  decide (g.cabins.length ≤ 3) && g.cabins.all (fun c => decide (1 ≤ c ∧ c ≤ 9999)) && decide g.cabins.Nodup
  && decide (g.firstDay ≤ g.lastDay) && decide (g.lastDay ≤ 65535) && decide (g.allowDay ≤ 65535)
  && decide (g.allowUsed ≤ 250) && decide (g.stamp < 2 ^ 32) && decide (g.musterStamp.getD 0 < 2 ^ 32)
  && (g.site.isSome == decide (g.presence = .ashore))
  && (match g.card0 with | some c => c.id != 0 | none => true) && (match g.card1 with | some c => c.id != 0 | none => true)

/-- The guest record that 62 bytes hold, none on a content fault (R202): the record is read field by field, its ranges
are checked, and its own bytes must be the bytes read, so that bytes marked zero are zero. A muster stamp's presence byte above 1,
or a stamp that is not zero behind a 0, is one too (DESIGN CHOICE, log 61). -/
def guestOfBytes (bs : List Byte) : Option Guest := do
  let status ← Status.ofCode (numAt bs 0 1)
  let category ← Category.ofCode (numAt bs 1 1)
  let presence ← Presence.ofCode (numAt bs 33 1)
  let plan ← below 16 (numAt bs 5 1)
  let site ← ofZeroNone 4 (numAt bs 34 1)
  let station ← oneBased 8 (numAt bs 35 1)
  let folio ← if numAt bs 36 2 = 0xFFFF then some none else (below 1024 (numAt bs 36 2)).map some
  let g : Guest :=
    { status, category, privileges := BitVec.ofNat 16 (numAt bs 2 2)
      cabins := ([numAt bs 6 2, numAt bs 8 2, numAt bs 10 2]).take (numAt bs 4 1)
      firstDay := numAt bs 12 2, lastDay := numAt bs 14 2
      card0 := cardOf (numAt bs 16 8) (numAt bs 32 1 % 2), card1 := cardOf (numAt bs 24 8) (numAt bs 32 1 / 2 % 2)
      folio, plan, allowDay := numAt bs 38 2, allowUsed := numAt bs 40 1, presence, stamp := numAt bs 42 4, site, station
      musterStamp := if numAt bs 41 1 = 0 then none else some (numAt bs 46 4) }
  if g.inRange && decide (guestBytes g = bs) then some g else none

/-! ## Folio record (12.5) -/

def folioBytes (f : Folio) : List Byte :=
  be 1 f.status.code ++ be 1 f.standing.code ++ be 1 f.sticky.toNat ++ be 1 (if f.lastSerial.isSome then 1 else 0)
  ++ be 4 (signed 4 f.balance) ++ be 4 f.limit ++ be 4 f.floorAllowance
  ++ be 4 (match f.lastSerial with | none => 0 | some p => p.toNat) ++ List.replicate 10 0

def Folio.inRange (f : Folio) : Bool :=
  decide (-99999999 ≤ f.balance ∧ f.balance ≤ 99999999) && decide (f.limit ≤ 98999999)
  && decide (f.floorAllowance ≤ 999999)

/-- The folio of a record block, none on a content fault (R202). A sticky flags byte with bit 6 or 7 set is one, as is a presence
byte above 1 or a serial that is not zero behind a 0 (DESIGN CHOICE, log 61). -/
def folioOfBytes (bs : List Byte) : Option Folio := do
  let status ← FolioStatus.ofCode (numAt bs 0 1)
  let standing ← Standing.ofCode (numAt bs 1 1)
  let f : Folio :=
    { status, standing, sticky := BitVec.ofNat 6 (numAt bs 2 1), balance := ofSigned 4 (numAt bs 4 4)
      limit := numAt bs 8 4, floorAllowance := numAt bs 12 4
      lastSerial := if numAt bs 3 1 = 0 then none else some (BitVec.ofNat 32 (numAt bs 16 4)) }
  if f.inRange && decide (folioBytes f = bs) then some f else none

/-! ## Posting (12.6) -/

def postingBytes (p : Posting) : List Byte :=
  be 4 p.serial.toNat ++ be 4 p.time ++ be 1 p.outlet ++ be 1 (64 * p.line.val + p.drop) ++ be 1 p.seq.toNat
  ++ be 1 p.flags.toNat ++ be 2 p.guest.val ++ be 2 p.folio.val ++ be 4 p.subtotal ++ be 4 p.service ++ be 4 p.total
  ++ be 2 p.covered

/-- Ranges of a posting's fields (R127; sale figures R111 to R114). -/
def Posting.inRange (p : Posting) : Bool :=
  decide (1 ≤ p.outlet ∧ p.outlet ≤ 63) && decide (1 ≤ p.drop ∧ p.drop ≤ 48) && decide (p.time < 2 ^ 32)
  && decide (p.subtotal ≤ 118798812) && decide (p.service ≤ 35639644) && decide (p.total ≤ 154438456)
  && decide (p.covered ≤ 1188)

/-- The posting of a journal slot, none on a content fault (R202). A sale flags byte with bit 6 or 7 set is one (DESIGN CHOICE,
log 61). -/
def postingOfBytes (bs : List Byte) : Option Posting := do
  let line ← below 4 (numAt bs 9 1 / 64)
  let guest ← below 2048 (numAt bs 12 2)
  let folio ← below 1024 (numAt bs 14 2)
  let p : Posting :=
    { serial := BitVec.ofNat 32 (numAt bs 0 4), time := numAt bs 4 4, outlet := numAt bs 8 1, line,
      drop := numAt bs 9 1 % 64, seq := BitVec.ofNat 8 (numAt bs 10 1), flags := BitVec.ofNat 6 (numAt bs 11 1),
      guest, folio, subtotal := numAt bs 16 4, service := numAt bs 20 4, total := numAt bs 24 4,
      covered := numAt bs 28 2 }
  if p.inRange && decide (postingBytes p = bs) then some p else none

/-! ## Configuration blocks (12.7) -/

def settingsBytes (v : Settings) : List Byte :=
  be 1 v.rollover ++ be 1 v.flushAge ++ be 2 v.roundLimit ++ be 1 v.linkSilence ++ be 2 v.escalation

/-- Ranges of the settings (R22). -/
def Settings.inRange (v : Settings) : Bool :=
  decide (v.rollover ≤ 23) && decide (1 ≤ v.flushAge ∧ v.flushAge ≤ 60) && decide (50 ≤ v.roundLimit ∧ v.roundLimit ≤ 1000)
  && decide (2 ≤ v.linkSilence ∧ v.linkSilence ≤ 255) && decide (1 ≤ v.escalation ∧ v.escalation ≤ 600)

def settingsOfBytes (bs : List Byte) : Option Settings :=
  let v : Settings :=
    { rollover := numAt bs 0 1, flushAge := numAt bs 1 1, roundLimit := numAt bs 2 2, linkSilence := numAt bs 4 1,
      escalation := numAt bs 5 2 }
  if v.inRange then some v else none

def faultPlanBytes (v : Vector FaultPlan 16) : List Byte := (v.toList.map fun p => be 1 p.code).flatten

/-- The plan a byte spells for a source, in its block (12.7) or in a FAULT_PLAN_PUT (log 59): only a line source may hold
ISOLATE (R178, R182). That an ISOLATE bit of another source in the stored block is a content fault, which R202 does not name, is
a DESIGN CHOICE (log 61). -/
def planOfByte (s : FaultSource) (v : Nat) : Option FaultPlan := do
  let p ← FaultPlan.ofCode v
  if p.isolate && !s.isLine then none else some p

def faultPlanOfBytes (bs : List Byte) : Option (List FaultPlan) :=
  FaultSource.all.mapM fun s => planOfByte s (numAt bs s.index.val 1)

def bindingBytes (b : Option Binding) : List Byte :=
  match b with
  | none => List.replicate 8 0
  | some b => be 4 b.serial.toNat ++ be 1 (readerKindCode b.kind) ++ be 1 b.profile.val ++ be 2 b.locus

/-- Whether a locus lies in its kind's range (R78). -/
def locusInRange (k : ReaderKind) (locus : Nat) : Bool :=
  match k with
  | .lock => decide (locus ≤ 9999)
  | .bar => decide (1 ≤ locus ∧ locus ≤ 63)
  | .laneOut | .laneIn => decide (1 ≤ locus ∧ locus ≤ 4)
  | .muster => decide (1 ≤ locus ∧ locus ≤ 8)

/-- One binding entry of a block, none on a content fault. -/
def bindingOfBytes (bs : List Byte) : Option (Option Binding) :=
  if numAt bs 0 4 = 0 then (if bs = List.replicate 8 0 then some none else none)
  else do
    let kind ← readerKindOfCode (numAt bs 4 1)
    let profile ← below 16 (numAt bs 5 1)
    if locusInRange kind (numAt bs 6 2) then
      some (some { serial := BitVec.ofNat 32 (numAt bs 0 4), kind, profile, locus := numAt bs 6 2 })
    else none

def bindingsOfBytes (bs : List Byte) : Option (List (Option Binding)) :=
  (List.range 16).mapM fun i => bindingOfBytes ((bs.drop (8 * i)).take 8)

def profileBytes (p : Profile) : List Byte :=
  be 1 p.openTime ++ be 2 p.mask.toNat ++ be 2 p.rate ++ be 4 p.priceCeiling ++ be 1 p.qtyLimit ++ be 4 p.offlineCeiling
  ++ be 1 (p.maskPrice.toNat + 2 * p.maskQty.toNat)

/-- Ranges of a profile (R82). -/
def Profile.inRange (p : Profile) : Bool :=
  decide (1 ≤ p.openTime ∧ p.openTime ≤ 15) && decide (p.rate ≤ 3000) && decide (p.priceCeiling ≤ 99999)
  && decide (1 ≤ p.qtyLimit ∧ p.qtyLimit ≤ 99) && decide (p.offlineCeiling ≤ 9999999)

/-- The profile of a block. A masks byte with a bit above bit 1 set is a content fault (DESIGN CHOICE, log 61). -/
def profileOfBytes (bs : List Byte) : Option Profile :=
  let p : Profile :=
    { openTime := numAt bs 0 1, mask := BitVec.ofNat 16 (numAt bs 1 2), rate := numAt bs 3 2,
      priceCeiling := numAt bs 5 4, qtyLimit := numAt bs 9 1, offlineCeiling := numAt bs 10 4,
      maskPrice := numAt bs 14 1 % 2 = 1, maskQty := numAt bs 14 1 / 2 % 2 = 1 }
  if p.inRange && decide (numAt bs 14 1 < 4) then some p else none

def planBytes (p : Plan) : List Byte := be 4 p.covered.toNat ++ be 4 p.cap ++ be 1 p.allowance

/-- Ranges of a plan (R15). -/
def Plan.inRange (p : Plan) : Bool := decide (p.cap ≤ 99999) && decide (p.allowance ≤ 250)

def planOfBytes (bs : List Byte) : Option Plan :=
  let p : Plan := { covered := BitVec.ofNat 32 (numAt bs 0 4), cap := numAt bs 4 4, allowance := numAt bs 8 1 }
  if p.inRange then some p else none

def sitesBytes (sites : Vector Site 4) (lanes : Vector (Option (Fin 4)) 4) : List Byte :=
  (sites.toList.map fun x => be 1 x.state.code ++ optBytes 4 x.deadline).flatten
  ++ (lanes.toList.map fun l => be 1 (zeroNone l)).flatten

/-- One site of the sites block; its deadline's presence byte is 0 or 1 and its bytes zero when absent
(DESIGN CHOICE, log 61). -/
def siteOfBytes (bs : List Byte) : Option Site := do
  let state ← SiteState.ofCode (numAt bs 0 1)
  let deadline := if numAt bs 1 1 = 0 then none else some (numAt bs 2 4)
  if be 1 state.code ++ optBytes 4 deadline = bs then some { state, deadline, count := 0, due := false } else none

/-- The sites and lane map of a sites block; a lane may not map to a CLOSED site (R202). -/
def sitesOfBytes (bs : List Byte) : Option (List Site × List (Option (Fin 4))) := do
  let sites ← (List.range 4).mapM fun i => siteOfBytes ((bs.drop (6 * i)).take 6)
  let lanes ← (List.range 4).mapM fun i => ofZeroNone 4 (numAt bs (24 + i) 1)
  if lanes.all fun l =>
      match l with
      | none => true
      | some i => decide ((sites.getD i.val Site.blank).state ≠ .closed) then
    some (sites, lanes)
  else none

def musterBytes (active : Bool) (beginStamp : Nat) : List Byte := be 1 active.toNat ++ be 4 beginStamp

def musterOfBytes (bs : List Byte) : Option (Bool × Nat) :=
  if numAt bs 0 1 ≤ 1 then some (decide (numAt bs 0 1 = 1), numAt bs 1 4) else none

def marksBytes (head tail : PostSerial) : List Byte := be 4 head.toNat ++ be 4 tail.toNat

/-- The journal marks; the tail less the head is at most 2,048 (R202). -/
def marksOfBytes (bs : List Byte) : Option (PostSerial × PostSerial) :=
  let head : PostSerial := BitVec.ofNat 32 (numAt bs 0 4)
  let tail : PostSerial := BitVec.ofNat 32 (numAt bs 4 4)
  if (tail - head).toNat ≤ 2048 then some (head, tail) else none

def clockBytes (seconds day : Nat) (offset : Int) : List Byte := be 4 seconds ++ be 2 day ++ be 2 (signed 2 offset)

/-- Whether a local offset is one the clock takes (R20). -/
def offsetInRange (o : Int) : Bool := decide (-720 ≤ o ∧ o ≤ 840 ∧ o % 15 = 0)

def clockOfBytes (bs : List Byte) : Option (Nat × Nat × Int) :=
  let o := ofSigned 2 (numAt bs 6 2)
  if offsetInRange o then some (numAt bs 0 4, numAt bs 4 2, o) else none

/-! ## Deck frames (12.3) -/

def VerdictKind.code : VerdictKind → Nat
  | .wait => 1 | .grant => 2 | .deny => 3 | .accept => 4 | .refuse => 5 | .pass => 6 | .passLate => 7
  | .passEmbark => 8 | .repeated => 9 | .mustered => 10 | .musteredElsewhere => 11 | .cancelled => 12
  | .tooLate => 13 | .notPending => 14

def Reason.code : Reason → Nat
  | .none => 0 | .unbound => 1 | .malformed => 2 | .unknownCard => 3 | .recordFault => 4 | .lostCard => 5
  | .notActive => 6 | .suspended => 7 | .notYet => 8 | .expired => 9 | .notAboard => 10 | .ashore => 11
  | .muster => 12 | .noAccess => 13 | .noFolio => 14 | .hold => 15 | .closed => 16 | .price => 17 | .qty => 18
  | .offline => 19 | .over => 20 | .limit => 21 | .journalFull => 22 | .noLanding => 23 | .siteClosing => 24
  | .landed => 25 | .noMuster => 26

/-- The result fields of a VERDICT frame (12.3). -/
def VResult.bytes : VResult → List Byte
  | .none => []
  | .openTime t => be 1 t
  | .lineIndex i => be 1 i
  | .accept total covered remaining flags serial =>
      be 4 total ++ be 2 covered ++ be 2 (remaining.getD 0xFFFF) ++ be 1 flags.toNat ++ be 4 serial.toNat
  | .late Option.none => be 1 0 ++ be 4 0
  | .late (Option.some serial) => be 1 1 ++ be 4 serial.toNat
  | .lane site count => be 1 (zeroNone site) ++ be 2 (count.getD 0xFFFF)
  | .muster station mustered count => be 1 (zeroNone station) ++ be 2 mustered ++ be 2 count

/-- Address, kind and body of a frame. -/
def DeckFrame.parts : DeckFrame → Nat × Nat × List Byte
  | .call d => (d, 0x01, [])
  | .verdict d seq v => (d, 0x02, be 1 seq.toNat ++ be 1 v.kind.code ++ be 1 v.reason.code ++ v.result.bytes)
  | .assign k => (0, 0x03, be 1 k)
  | .dropAll => (0, 0x04, [])
  | .probe => (0, 0x05, (List.replicate 4 ([0x00, 0xFF, 0x55, 0xAA] : List Byte)).flatten)

/-- The whole frame as sent, check word included (12.3, R201). -/
def DeckFrame.bytes (f : DeckFrame) : List Byte :=
  let (address, kind, body) := f.parts
  sealBlock (be 1 address ++ be 1 kind ++ be 1 body.length ++ body)

/-! ## Host frames (12.2) -/

/-- A host frame of a body: start byte, length, tag, kind, body, check word. -/
def hostFrame (tag : Tag) (kind : Byte) (body : List Byte) : List Byte :=
  (0xA5 : Byte) :: sealBlock (be 2 body.length ++ be 2 tag.toNat ++ [kind] ++ body)

/-- Result codes (R203). -/
def Result.code : Result → Nat
  | .done => 0 | .started => 1 | .busy => 2 | .badKind => 3 | .badField => 4 | .state => 5 | .memoryFault => 6
  | .mode => 7

/-- Request kind codes (12.2). -/
def requestKinds : List Byte :=
  [0x01, 0x02, 0x03, 0x04, 0x10, 0x11, 0x20, 0x21, 0x22, 0x23, 0x24, 0x25, 0x30, 0x31, 0x32, 0x33, 0x40, 0x41, 0x42,
   0x43, 0x44, 0x50, 0x51, 0x52, 0x53, 0x60, 0x61, 0x62, 0x63, 0x64, 0x65, 0x66, 0x70, 0x71, 0x72, 0x78, 0x80, 0x81,
   0x82]

end Sys2Proof.Machine
end

