-- ==== Sys2Proof/Machine/Ops.lean ====
section
/-! DEFINITION. The named operations every block shares: record memory, notices, the fault router, replies, the clock. -/
namespace Sys2Proof.Machine

/-! ## Record memory (R23) -/

/-- The byte at an address; one not listed reads as the blank byte (log 1). -/
def Memory.read : Memory → Nat → Byte
  | [], _ => Config.blankByte
  | (k, v) :: t, a => if k = a then v else Memory.read t a

/-- Writes one byte and keeps the canonical form: addresses strictly rising, no blank byte listed. -/
def Memory.write : Memory → Nat → Byte → Memory
  | [], a, v => if v = Config.blankByte then [] else [(a, v)]
  | (k, w) :: t, a, v =>
      if a < k then (if v = Config.blankByte then (k, w) :: t else (a, v) :: (k, w) :: t)
      else if a = k then (if v = Config.blankByte then t else (a, v) :: t)
      else (k, w) :: Memory.write t a v

/-- The canonical form. -/
def Memory.wf : Memory → Bool
  | [] => true
  | [(_, v)] => decide (v ≠ Config.blankByte)
  | (a, v) :: (b, w) :: t => decide (v ≠ Config.blankByte) && decide (a < b) && Memory.wf ((b, w) :: t)

/-- The n bytes from an address upward. -/
def Memory.readBlock (m : Memory) (a n : Nat) : List Byte := (List.range n).map fun i => m.read (a + i)

/-- Writes bytes from an address upward. -/
def Memory.writeBlock (m : Memory) (a : Nat) : List Byte → Memory
  | [] => m
  | b :: bs => Memory.writeBlock (m.write a b) (a + 1) bs

/-- Where a configuration block begins (12.7). -/
def ConfBlock.address (b : ConfBlock) : Nat := 256 * b.number.val

/-- Where a record begins, and its size (R23). -/
def recordAddress : RecKey → Nat
  | .guest n => 16384 + 64 * n.val
  | .folio n => 147456 + 32 * n.val
def recordSize : RecKey → Nat
  | .guest _ => 64
  | .folio _ => 32

/-- Where the posting of a serial begins (R23, R131). -/
def journalAddress (serial : PostSerial) : Nat := 180224 + 32 * (serial.toNat % 2048)

/-- Writes a block and reads it back; answers whether they agree (R24). A write that fails leaves the block as it was
(R21, R30, R39; log 9). -/
def Memory.writeChecked (m : Memory) (a : Nat) (data : List Byte) (r : WriteResult) : Memory × Bool :=
  match r with
  | .good => (m.writeBlock a data, true)
  | .differs => (m, false)

/-! ## Time (R16) -/

/-- The largest voyage seconds. -/
def voyageMax : Nat := 4294967295

/-- A time formed by adding to voyage seconds, held at the largest (R16). -/
def laterBy (t d : Nat) : Nat := min (t + d) voyageMax

/-- The current voyage seconds. -/
def State.now (s : State) : Nat := s.clock.seconds

/-! ## Notices (R191) -/

/-- Appends a notice under the next number, or, when 64 wait, spends the number and sets the news-lost mark. -/
def NoticeQueue.push (q : NoticeQueue) (time : Nat) (body : NoticeBody) : NoticeQueue :=
  { items := if q.items.length < 64 then q.items ++ [{ number := q.next, time := time, body := body }] else q.items
    next := q.next + 1
    lost := q.lost || decide (64 ≤ q.items.length) }

/-- Queues a notice and drives ATTN, since the queue then holds one (R191). -/
def State.notify (s : State) (body : NoticeBody) : State :=
  { s with notices := s.notices.push s.clock.seconds body, pins := { s.pins with attn := true } }

/-! ## Fault router (R174 to R184) -/

def Router.entry (r : Router) (src : FaultSource) : FaultEntry := r.entries[src.index]
def Router.setEntry (r : Router) (src : FaultSource) (e : FaultEntry) : Router :=
  { r with entries := r.entries.set src.index e }

/-- Whether the FAULT output is driven: a raised source holds PIN (R177). -/
def Router.drivesFault (r : Router) : Bool := r.entries.toList.any fun e => e.raised && e.plan.pin

/-- The escalation set: raised sources whose plan holds DELAY (R179), in the order of the fault sources table (the order in
ESCALATED is a DESIGN CHOICE, log 55). -/
def Router.escalationSet (r : Router) : List FaultSource :=
  FaultSource.all.filter fun src => (r.entry src).raised && (r.entry src).plan.delay

/-- FAULT follows the marks and plans (R177); while the configuration area is read the router does not act (R174). -/
def State.refreshFault (s : State) : State :=
  { s with pins := { s.pins with
      fault := if s.startUp.phase = .readingConfig then s.pins.fault else s.router.drivesFault } }

/-- Entry into standalone service (R184). -/
def State.enterStandalone (s : State) (cause : StandaloneCause) : State :=
  if s.router.standalone then s
  else
    { s with router := { s.router with standalone := true, cause := some cause, since := some s.now } }.notify
      (.standaloneEntered cause s.now)

/-- Asks a line's isolation, to take effect when its turn ends (R71). One asked before stands, with its cause
(DESIGN CHOICE, log 10). -/
def State.askIsolation (s : State) (n : Fin 4) (cause : IsolateCause) : State :=
  { s with lines := s.lines.set n { s.lines[n] with isolating := some (s.lines[n].isolating.getD cause) } }

/-- The plan's actions at one beginning, but for ISOLATE of LINEn_FAULT, which acts at the check (R176 to R179, R184). -/
def State.actOn (s : State) (b : Begun) : State :=
  let plan := (s.router.entry b.source).plan
  let s := if b.raise && plan.note then s.notify (.faultRaised b.source b.time 1 plan) else s
  let s :=
    match b.source with
    | .lineSlow n => if plan.isolate then s.askIsolation n .plan else s
    | _ => s
  let s := if plan.standalone then s.enterStandalone (.source b.source) else s
  if plan.delay && s.router.timer = .stopped then { s with router := { s.router with timer := .running, run := 0 } } else s

/-- A source's condition begins (R174, R176). -/
def State.beginCondition (s : State) (src : FaultSource) : State :=
  let e := s.router.entry src
  if e.present then s
  else
    let b : Begun := { source := src, time := s.now, raise := !e.raised }
    let s := { s with router := s.router.setEntry src { e with present := true, raised := true, count := min (e.count + 1) 65535 } }
    if s.startUp.phase = .readingConfig then { s with router := { s.router with deferred := s.router.deferred ++ [b] } }
    else (s.actOn b).refreshFault

/-- A source's condition ends: absent, its mark and count kept (R174). -/
def State.endCondition (s : State) (src : FaultSource) : State :=
  { s with router := s.router.setEntry src { s.router.entry src with present := false } }

/-- Sets whether a condition is present. -/
def State.setCondition (s : State) (src : FaultSource) (present : Bool) : State :=
  if present then s.beginCondition src else s.endCondition src

/-- After marks or plans changed: FAULT follows, and the escalation timer stops on an empty set; a plan change may
also start it (R177, R179, R182, R195). A STOPPED timer's time run is 0 (DESIGN CHOICE, log 51). -/
def State.reviewRouter (s : State) (mayStart : Bool) : State :=
  let s := s.refreshFault
  if s.router.escalationSet.isEmpty then { s with router := { s.router with timer := .stopped, run := 0 } }
  else if mayStart && s.router.timer = .stopped then { s with router := { s.router with timer := .running, run := 0 } }
  else s

/-- The escalation timer expires (R180); its time run stays as it was then (DESIGN CHOICE, log 51). -/
def State.escalate (s : State) : State :=
  let s := { s with router := { s.router with timer := .expired } }
  (s.notify (.escalated s.now s.settings.escalation s.router.escalationSet (!s.router.standalone))).enterStandalone
    .escalation

/-! ## Replies (R189, R190) -/

/-- The owner finishes the request in hand: its reply goes on the transmit list, or is kept formed when 8 wait. -/
def State.finish (s : State) (result : Result) (body : ReplyBody := .empty) : State :=
  match s.link.inHand with
  | none => s
  | some h =>
    let r : Reply := { tag := h.tag, kind := h.kind, result := result, body := body }
    { s with link :=
        if s.link.tx.length < 8 then { s.link with inHand := none, tx := s.link.tx ++ [r] }
        else { s.link with inHand := some { h with work := .formed r } } }

/-- The request in hand enters a stage of work. -/
def State.setWork (s : State) (w : Work) : State :=
  { s with link := { s.link with inHand := s.link.inHand.map fun h => { h with work := w } } }

/-- The stage of the request in hand. -/
def State.work (s : State) : Option Work := s.link.inHand.map (·.work)

/-- A BUSY reply; one that would be a ninth frame is not sent (R190). -/
def State.replyBusy (s : State) (tag : Tag) (kind : Byte) : State :=
  { s with link := { s.link with
      tx := if s.link.tx.length < 8 then s.link.tx ++ [{ tag := tag, kind := kind, result := .busy, body := .empty }]
            else s.link.tx } }

/-- A valid frame has arrived: the silence timer returns to 0, LINK_SILENT ends, the receiver hunts (R175, R188). -/
def State.frameArrived (s : State) : State :=
  { s with link := { s.link with silence := 0, receiver := .hunting } }.endCondition .linkSilent

/-- Whether the part is in SERVICE (R194). -/
def State.service (s : State) : Bool := !s.straps.maintenance

/-- The outcome of a command: while RESET is held low the part does nothing (R196). -/
def State.awake (s : State) (f : State → State) : Host.Outcome State Fault Refusal := .next (if s.inReset then s else f s)

/-! ## Cache slots and the port, plain access -/

def State.slot (s : State) (i : Fin 128) : Slot := s.cache.slots[i]
def State.setSlot (s : State) (i : Fin 128) (x : Slot) : State :=
  { s with cache := { s.cache with slots := s.cache.slots.set i x } }
def State.setQueue (s : State) (q : List Job) : State := { s with port := { s.port with queue := q } }
def State.setWaiting (s : State) (w : List PlaceWaiter) : State := { s with port := { s.port with waiting := w } }

/-- Whether a job can be queued (R28): fewer than 16 wait, and the port is not resting in HALTED_SAFE (R45). -/
def State.hasPlace (s : State) : Bool := decide (s.port.queue.length < 16) && decide (s.power.state ≠ .haltedSafe)

/-- A requester begins to wait for a place, once (R28). -/
def State.awaitPlace (s : State) (w : PlaceWaiter) : State :=
  if w ∈ s.port.waiting then s else s.setWaiting (s.port.waiting ++ [w])

/-- The block of a record with its check word. -/
def Rec.block : Rec → List Byte
  | .guest g => sealBlock (guestBytes g)
  | .folio f => sealBlock (folioBytes f)

/-- The posting an accepted sale writes (R127). -/
def CommitEntry.posting (c : CommitEntry) : Posting :=
  { serial := c.serial, time := c.time, outlet := c.outlet, line := c.line, drop := c.drop, seq := c.seq, flags := c.flags,
    guest := c.guest, folio := c.folio, subtotal := c.subtotal, service := c.service, total := c.total, covered := c.covered }

/-- The content of a configuration block as its values stand on chip (R26). -/
def State.confContent (s : State) : ConfBlock → List Byte
  | .settings => settingsBytes s.settings
  | .faultPlan => faultPlanBytes (s.router.entries.map (·.plan))
  | .bindings b => ((List.finRange 16).map fun i => bindingBytes (s.bindings[16 * b.val + i.val]'(by omega))).flatten
  | .profile p => profileBytes s.profiles[p]
  | .plan p => planBytes s.plans[p]
  | .sites => sitesBytes s.landing.sites s.landing.lanes
  | .muster => musterBytes s.muster.active s.muster.beginStamp
  | .journalMarks => marksBytes s.journal.head s.journal.tail
  | .clockMark => clockBytes s.clock.seconds s.clock.day s.clock.offset

/-- The block a configuration write writes: a configuration block's, or FORMAT's record (R26, R195). -/
def State.targetBlock (s : State) : WriteTarget → List Byte
  | .conf b => sealBlock (s.confContent b)
  | .record (.guest _) => (Rec.guest Guest.blank).block
  | .record (.folio _) => (Rec.folio Folio.blank).block

def WriteTarget.address : WriteTarget → Nat
  | .conf b => b.address
  | .record k => recordAddress k

/-- The block a job writes, as it stands when the port takes the job (R26, R39, R127). -/
def State.jobData (s : State) : Job → List Byte
  | .writeBack i | .pair i => match (s.slot i).content with | some r => r.block | none => []
  | .commit => match s.journal.commits with | c :: _ => sealBlock (postingBytes c.posting) | [] => []
  | .confWrite t _ => s.targetBlock t
  | _ => []

/-- The record a job reads or writes, as its slot names it when the port takes the job. -/
def State.jobRecord (s : State) : Job → Option RecKey
  | .fill i | .writeBack i | .pair i => (s.slot i).key
  | _ => none

/-- Where the job in progress writes its first block; none for a job that writes none. -/
def State.jobAddress (s : State) : Option Nat :=
  match s.port.job with
  | some (.writeBack _) | some (.pair _) => s.port.record.map recordAddress
  | some .commit => s.journal.commits.head?.map fun c => journalAddress c.serial
  | some (.confWrite t _) => some t.address
  | _ => none

/-- The journal marks block of the second half of the commit in progress: the head as it stands, and the tail one past
the commit's serial (R127). -/
def State.commitMarks (s : State) : List Byte :=
  match s.journal.commits with
  | c :: _ => sealBlock (marksBytes s.journal.head (c.serial + 1))
  | [] => []

/-- The first block the job in progress writes, written and read back; a job that found the memory silent has ended
(R24, R30). -/
def State.writeBlocked (s : State) (r : WriteResult) : Memory × Bool :=
  match s.port.silent, s.jobAddress with
  | false, some a => s.mem.writeChecked a s.port.data r
  | _, _ => (s.mem, false)

/-- The memory a job leaves when a reset cuts it short (R24, R47, R196; log 30). -/
def State.cutMemory (s : State) (cut : CutAt) : Memory :=
  match s.port.silent, s.jobAddress with
  | false, some a =>
    match cut, s.port.job with
    | .before, _ => s.mem
    | .wrote bs, _ => s.mem.writeBlock a (bs.take s.port.data.length)
    | .secondBefore, some .commit => s.mem.writeBlock a s.port.data
    | .secondWrote bs, some .commit =>
      (s.mem.writeBlock a s.port.data).writeBlock ConfBlock.journalMarks.address (bs.take s.commitMarks.length)
    | .secondBefore, _ => s.mem
    | .secondWrote bs, _ => s.mem.writeBlock a (bs.take s.port.data.length)
  | _, _ => s.mem

/-! ## The arbiter (R29) -/

def Job.isCommit : Job → Bool
  | .commit => true
  | _ => false
def Job.isRead : Job → Bool
  | .fill _ | .pair _ | .pairRead _ | .journalRead _ => true
  | _ => false
def Job.isConf : Job → Bool
  | .confWrite _ _ | .confRead _ => true
  | _ => false
def Job.isWriteBack : Job → Bool
  | .writeBack _ => true
  | _ => false
def Job.isCensus : Job → Bool
  | .censusRead _ => true
  | _ => false

/-- The earlier of two candidates by a key; between equal keys the first stands. -/
def firstLeast (key : Job → Nat) : List Job → Option Job
  | [] => none
  | j :: js =>
    match firstLeast key js with
    | none => some j
    | some k => if key k < key j then some k else some j

/-- The dirty-since of a write-back's slot, and the number of a census read's record. -/
def State.jobKey (s : State) : Job → Nat
  | .writeBack i => (s.slot i).dirtySince
  | .censusRead n => n.val
  | _ => 0

/-- The slot holds the record: a lookup is a hit (R32). -/
def Slot.has (x : Slot) (k : RecKey) : Bool :=
  decide (x.key = some k) && (decide (x.state = .clean) || decide (x.state = .dirty) || decide (x.state = .writing))

/-- The slot that holds a record. -/
def State.holder (s : State) (k : RecKey) : Option (Fin 128) := (List.finRange 128).find? fun i => (s.slot i).has k

/-- The best of the jobs waiting, by R29's order of kinds and within a kind. Census reads are left in the queue while the
emergency flush runs (R44), and nothing is taken in HALTED_SAFE (R45). -/
def State.bestJob (s : State) : Option Job :=
  if s.power.state = .haltedSafe then none
  else
    let q := s.port.queue
    (q.find? Job.isCommit).or <| (q.find? Job.isRead).or <| (q.find? Job.isConf).or <|
      (firstLeast s.jobKey (q.filter Job.isWriteBack)).or <|
        if s.power.state = .normal then firstLeast s.jobKey (q.filter Job.isCensus) else none

/-- A census read of a record that a slot holds: the port takes it and it is over at once, without a transfer (R27). -/
def State.isInstant (s : State) : Job → Bool
  | .censusRead n => (s.holder (.guest n)).isSome
  | _ => false

/-- The job the arbiter takes next to carry out; a census read that needs no transfer is `State.censusRun`'s (R27, R29). -/
def State.nextJob (s : State) : Option Job := s.bestJob.filter fun j => !s.isInstant j

/-- Taking the write-back of a DIRTY slot makes it WRITING and clears its queued and urgent marks (R39). -/
def State.takenSlot (s : State) : Job → State
  | .writeBack i =>
    if (s.slot i).state = .dirty then s.setSlot i { s.slot i with state := .writing, wbQueued := false, urgent := false }
    else s
  | _ => s

/-- The port starts a job of the queue. -/
def State.startJob (s : State) (j : Job) : State :=
  { s with port := { s.port with job := some j, record := s.jobRecord j, data := s.jobData j, silent := false, queue := s.port.queue.erase j } }.takenSlot j

/-- The arbiter acts when the port is idle (R29). -/
def State.pump (s : State) : State :=
  match s.port.job, s.nextJob with
  | none, some j => s.startJob j
  | _, _ => s

/-- Queues a job and lets the arbiter act (R28). -/
def State.enqueue (s : State) (j : Job) : State := (s.setQueue (s.port.queue ++ [j])).pump

/-- Queues a slot's write-back and sets its mark (R39). -/
def State.queueWriteBack (s : State) (i : Fin 128) : State :=
  (s.setSlot i { s.slot i with wbQueued := true }).enqueue (.writeBack i)

/-- A configuration write no request waits on: queued, or held pending; a block with a write held pending takes no second
(R28, R45). A write in the queue is not held pending (DEDUCED, log 53). -/
def State.unitWrite (s : State) (b : ConfBlock) : State :=
  if s.hasPlace = true ∧ PlaceWaiter.block b ∉ s.port.waiting then s.enqueue (.confWrite (.conf b) .unit)
  else s.awaitPlace (.block b)

/-! ## Clock unit (R17, R18) -/

/-- The clock unit queues a clock mark, and its count of seconds begins again (R18). -/
def State.markClock (s : State) : State := { s with clock := { s.clock with sinceMark := 0 } }.unitWrite .clockMark

/-- The computed day (R17). -/
def computedDay (seconds : Nat) (offset : Int) (rollover : Nat) : Nat :=
  min 65535 (((seconds : Int) + 60 * offset - 3600 * rollover) / 86400).toNat

def State.computedDay (s : State) : Nat := Machine.computedDay s.clock.seconds s.clock.offset s.settings.rollover

/-- Evaluates the business day; an advance queues a clock mark (R17). -/
def State.evaluateDay (s : State) : State :=
  if s.clock.day < s.computedDay then { s with clock := { s.clock with day := s.computedDay } }.markClock else s

/-- The three outcomes of the window check (R4). -/
inductive Window where | within | notYet | expired
  deriving DecidableEq, Repr

/-- The window check against a day (R4). -/
def Guest.window (g : Guest) (day : Nat) : Window :=
  if day < g.firstDay then .notYet else if g.lastDay < day then .expired else .within

end Sys2Proof.Machine
end

