-- ==== Sys2Proof/Machine/Cache.lean ====
section
/-! DEFINITION. The record cache: lookup, claim, change, urgent write-back, holds, FLUSH and emergency sweeps. -/
namespace Sys2Proof.Machine

/-- What a lookup finds (R32). -/
inductive Found where
  | hit (i : Fin 128)
  | join (i : Fin 128)
  | miss
  deriving DecidableEq, Repr

/-- The slot is bringing the record in: a lookup joins (R32). -/
def Slot.brings (x : Slot) (k : RecKey) : Bool :=
  (decide (x.state = .filling) && decide (x.key = some k)) || decide (x.incoming = some k)

/-- The slot a lookup finds (R32). -/
def State.find (s : State) (k : RecKey) : Found :=
  match s.holder k with
  | some i => .hit i
  | none =>
    match (List.finRange 128).find? fun i => (s.slot i).brings k with
    | some i => .join i
    | none => .miss

/-- Moves a slot to the most recent place (R32, R33, R38). -/
def State.touch (s : State) (i : Fin 128) : State :=
  { s with cache := { s.cache with recency := i :: s.cache.recency.erase i } }

/-- A slot that may be claimed as a victim (R33). -/
def Slot.isVictim (x : Slot) : Bool :=
  (decide (x.state = .clean) || decide (x.state = .dirty)) && x.holds.isEmpty && decide (x.commitPending = 0)

/-- The lowest-numbered EMPTY slot, or else the least recent victim (R33). -/
def State.claimable (s : State) : Option (Fin 128) :=
  ((List.finRange 128).find? fun i => decide ((s.slot i).state = .empty)).or
    (s.cache.recency.reverse.find? fun i => (s.slot i).isVictim)

/-- A miss starts: the stall timer stops and CACHE_STALL ends (R34). -/
def State.missStarted (s : State) : State := { s with cache := { s.cache with stalling := false } }.endCondition .cacheStall

/-- A miss cannot start: the stall timer runs (R34). -/
def State.missStuck (s : State) : State := { s with cache := { s.cache with stalling := true } }

/-- Claims an EMPTY slot or a CLEAN victim: FILLING, with a fill queued (R33). -/
def State.claimFill (s : State) (i : Fin 128) (k : RecKey) (ws : List Waiter) : State :=
  (((s.setSlot i { Slot.blank with state := .filling, key := some k, waiters := ws }).touch i).missStarted).enqueue (.fill i)

/-- Claims a DIRTY victim: WRITING, with a dirty-miss pair in place of any write-back queued (R33; log 15). Its urgent
mark clears with the claim, as R39 clears it when the port takes a write-back (DESIGN CHOICE, log 41). -/
def State.claimPair (s : State) (i : Fin 128) (k : RecKey) (ws : List Waiter) : State :=
  (((s.setSlot i { s.slot i with state := .writing, incoming := some k, waiters := ws, wbQueued := false, urgent := false }
    ).setQueue (s.port.queue.erase (.writeBack i))).touch i).missStarted.enqueue (.pair i)

/-- Starts a miss, or answers none when it cannot start (R33, R34). -/
def State.claim (s : State) (k : RecKey) (ws : List Waiter) : Option State :=
  match s.claimable with
  | none => none
  | some i =>
    if (s.slot i).state = .dirty then
      (if (s.slot i).wbQueued || s.hasPlace then some (s.claimPair i k ws) else none)
    else if s.hasPlace then some (s.claimFill i k ws) else none

/-- What asking the cache for a record came to: a hit, a slot that brings it in, or a miss that cannot start. -/
inductive Access where
  | hit (i : Fin 128)
  | waiting (i : Fin 128)
  | stuck
  deriving DecidableEq, Repr

/-- Whether a waiter is of a reader entry. -/
def Waiter.isOf (line : Fin 4) (drop : Nat) : Waiter → Bool
  | .host => false
  | .reader l d _ _ _ => decide (l = line ∧ d = drop)

/-- Whether two waiters are of one requester: the host request in hand, or one reader entry. -/
def Waiter.sameAs : Waiter → Waiter → Bool
  | .host, w => decide (w = .host)
  | .reader line drop _ _ _, w => w.isOf line drop

/-- Adds a waiter to the end of a slot's list (R32). A requester already on it keeps its one place, where a reader entry now
stands with the record its decision has found last (R89, R98; log 14). -/
def Slot.addWaiter (x : Slot) (w : Waiter) : Slot :=
  { x with waiters :=
      if x.waiters.any w.sameAs then x.waiters.map fun v => if w.sameAs v then w else v else x.waiters ++ [w] }

/-- Asks the cache for a record (R32 to R34). -/
def State.ask (s : State) (k : RecKey) (w : Waiter) : State × Access :=
  match s.find k with
  | .hit i => (s.touch i, .hit i)
  | .join i => ((s.setSlot i ((s.slot i).addWaiter w)).touch i, .waiting i)
  | .miss =>
    match s.claim k [w] with
    | some s' =>
      match s.claimable with
      | some i => (s', .waiting i)
      | none => (s', .stuck)
    | none => (s.missStuck, .stuck)

/-- Changes a record in its slot (R38). -/
def State.change (s : State) (i : Fin 128) (r : Rec) : State :=
  let x := s.slot i
  (s.setSlot i
    (match x.state with
     | .clean => { x with content := some r, state := .dirty, dirtySince := s.now, emergencyFailed := false }
     | .writing => { x with content := some r, dirtyAgain := some (x.dirtyAgain.getD s.now) }
     | _ => { x with content := some r })).touch i

/-- An urgent write-back of a changed slot (R42). -/
def State.urgentWrite (s : State) (i : Fin 128) : State :=
  let x := s.slot i
  match x.state with
  | .dirty =>
    if x.wbQueued then s
    else if s.hasPlace then s.queueWriteBack i
    else s.setSlot i { x with urgent := true }
  | .writing => s.setSlot i { x with urgent := true }
  | _ => s

/-! ## Holds (R37) -/

/-- Whether two holds are of one entry for one record: an entry has one hold a record. -/
def Hold.sameAs (h o : Hold) : Bool := decide (o.line = h.line ∧ o.drop = h.drop ∧ o.key = h.key)

/-- Places or renews an entry's hold for a record on a slot. -/
def Slot.placeHold (x : Slot) (h : Hold) : Slot :=
  { x with holds := if x.holds.any h.sameAs then x.holds.map (fun o => if h.sameAs o then h else o) else x.holds ++ [h] }

def State.placeHold (s : State) (line : Fin 4) (drop : Nat) (k : RecKey) (i : Fin 128) : State :=
  s.setSlot i ((s.slot i).placeHold { line := line, drop := drop, key := k, expiry := laterBy s.now 2 })

/-- A slot keeps of an entry only the holds for records it still needs (R37), and its waiter only if it brings one of them:
an offer whose repeat no longer needs the slot waits on it no more (DESIGN CHOICE, log 14). -/
def Slot.prune (x : Slot) (line : Fin 4) (drop : Nat) (keep : List RecKey) : Slot :=
  { x with
    holds := x.holds.filter fun h => !(decide (h.line = line ∧ h.drop = drop)) || decide (h.key ∈ keep)
    waiters := x.waiters.filter fun w => !(w.isOf line drop) || keep.any x.brings }

/-- Releases every hold and waiter of an entry but those for the records kept (R37). -/
def State.prune (s : State) (line : Fin 4) (drop : Nat) (keep : List RecKey) : State :=
  { s with cache := { s.cache with slots := s.cache.slots.map fun x => x.prune line drop keep } }

/-- The slots on which an entry holds a hold, in ascending number: its hold references (R74; the order is a DESIGN CHOICE,
log 55). -/
def State.holdSlots (s : State) (line : Fin 4) (drop : Nat) : List (Fin 128) :=
  (List.finRange 128).filter fun i => (s.slot i).holds.any fun h => decide (h.line = line ∧ h.drop = drop)

/-- Whether a hold of an entry has ended in an answer of it that led from one state to the next: the entry has it no more, or
a new offer has superseded the offer it was placed for (R37, R57). -/
def State.holdEnded (s t : State) (line : Fin 4) (drop : Nat) (superseded : Bool) : Bool :=
  (s.holdSlots line drop).any fun i => superseded || (s.slot i).holds.any fun h =>
    decide (h.line = line ∧ h.drop = drop) && !(t.slot i).holds.any h.sameAs

/-- How many holds an entry holds (R85). -/
def State.holdCount (s : State) (line : Fin 4) (drop : Nat) : Nat :=
  (s.cache.slots.toList.map fun x => (x.holds.filter fun h => decide (h.line = line ∧ h.drop = drop)).length).sum

/-! ## Sweeps: FLUSH, the emergency flush, and what a completion finishes -/

/-- Queues a write-back for each slot that wants one, while places last; then waits for the next place. The slots are
taken in ascending number, an order no rule gives (R43, R45; DESIGN CHOICE, log 42). -/
def State.sweepFrom (wants : State → Fin 128 → Bool) (w : PlaceWaiter) : List (Fin 128) → State → State
  | [], s => s
  | i :: is, s =>
    if wants s i then
      (if s.hasPlace then State.sweepFrom wants w is (s.queueWriteBack i) else s.awaitPlace w)
    else State.sweepFrom wants w is s

/-- A FLUSH member that is DIRTY with no write-back queued (R43). -/
def State.flushWants (s : State) (i : Fin 128) : Bool :=
  (match s.cache.flush with | some f => f.members.any fun m => decide (m.1 = i) | none => false)
  && decide ((s.slot i).state = .dirty) && !(s.slot i).wbQueued

/-- A slot that the emergency flush still owes a write-back (R45). -/
def State.emergencyWants (s : State) (i : Fin 128) : Bool :=
  decide (s.power.state = .emergencyFlush) && decide ((s.slot i).state = .dirty) && !(s.slot i).wbQueued
  && !(s.slot i).emergencyFailed

def State.sweepFlush (s : State) : State := State.sweepFrom State.flushWants .flush (List.finRange 128) s
def State.sweepEmergency (s : State) : State := State.sweepFrom State.emergencyWants .emergency (List.finRange 128) s

/-- FLUSH_DONE when every member is finished (R43). -/
def State.flushReview (s : State) : State :=
  match s.cache.flush with
  | some f =>
    if f.members.isEmpty then ({ s with cache := { s.cache with flush := none } }).notify (.flushDone f.ok f.failed) else s
  | none => s

/-- A write of slot i has completed: it finishes the member, or counts as the one before its own (R43). -/
def FlushRun.completed (f : FlushRun) (i : Fin 128) (ok : Bool) : FlushRun :=
  match f.members.find? fun m => decide (m.1 = i) with
  | none => f
  | some (_, true) => { f with members := f.members.map fun m => if m.1 = i then (i, false) else m }
  | some (_, false) =>
    { members := f.members.filter fun m => decide (m.1 ≠ i), ok := f.ok + ok.toNat, failed := f.failed + (!ok).toNat }

def State.flushCompleted (s : State) (i : Fin 128) (ok : Bool) : State :=
  ({ s with cache := { s.cache with flush := s.cache.flush.map fun f => FlushRun.completed f i ok } }).flushReview

/-- The slot after its write has completed (R39); a failure in the emergency flush is not tried again unless the slot
changed while it was written (R45; log 25). -/
def Slot.written (x : Slot) (ok : Bool) (now : Nat) : Slot :=
  if ok then
    match x.dirtyAgain with
    | none => { x with state := .clean, emergencyFailed := false }
    | some t => { x with state := .dirty, dirtySince := t, dirtyAgain := none, emergencyFailed := false }
  else { x with state := .dirty, dirtySince := now, dirtyAgain := none, emergencyFailed := x.dirtyAgain.isNone }

end Sys2Proof.Machine
end

