-- ==== Sys2Proof/Machine/Readers.lean ====
section
/-! DEFINITION. The reader table and verdict delivery: entries, bindings, outgoing verdicts, final verdicts, trails. -/
namespace Sys2Proof.Machine

/-- Whether an entry stands at a line and drop. -/
def Entry.isAt (e : Entry) (line : Fin 4) (drop : Nat) : Bool := decide (e.line = line) && decide (e.drop = drop)

/-- The entry at a line and drop (R74). -/
def State.entryAt (s : State) (line : Fin 4) (drop : Nat) : Option Entry := s.entries.find? fun e => e.isAt line drop

/-- Changes the entry at a line and drop. -/
def State.modEntry (s : State) (line : Fin 4) (drop : Nat) (f : Entry → Entry) : State :=
  { s with entries := s.entries.map fun e => if e.isAt line drop then f e else e }

/-- Changes a line controller. -/
def State.modLine (s : State) (n : Fin 4) (f : Line → Line) : State := { s with lines := s.lines.set n (f s.lines[n]) }

/-- The entries of a line, in ascending drop order. -/
def State.entriesOf (s : State) (n : Fin 4) : List Entry := s.entries.filter fun e => decide (e.line = n)

/-- Table order of line then drop. -/
def Entry.before (a b : Entry) : Bool := decide (a.line < b.line) || (decide (a.line = b.line) && decide (a.drop < b.drop))

/-- Inserts a new entry at its place in table order. -/
def insertEntry (e : Entry) : List Entry → List Entry
  | [] => [e]
  | x :: xs => if e.before x then e :: x :: xs else x :: insertEntry e xs

/-- The binding slot holding a serial (R77). -/
def State.bindingSlot (s : State) (serial : ReaderSerial) : Option (Fin 192) :=
  (List.finRange 192).find? fun b => match s.bindings[b] with | some x => decide (x.serial = serial) | none => false

/-- The binding state of an entry that is not DUPLICATE, against the bindings held (R75). -/
def State.boundAs (s : State) (serial : ReaderSerial) (kind : ReaderKind) : BindState :=
  match s.bindingSlot serial with
  | none => .noBinding
  | some b => match s.bindings[b] with
    | some x => if x.kind = kind then .bound b else .kindMismatch
    | none => .noBinding

/-- The binding of a BOUND entry. -/
def State.bindingOf (s : State) (e : Entry) : Option Binding :=
  match e.binding with
  | .bound b => s.bindings[b]
  | _ => none

/-- Works out again the binding state of every entry of a serial (R81). -/
def State.rebind (s : State) (serial : ReaderSerial) : State :=
  { s with entries := s.entries.map fun e =>
      if e.serial = serial ∧ e.binding ≠ .duplicate then { e with binding := s.boundAs e.serial e.kind } else e }

/-- The life of a reader's verdicts, in seconds (R63). -/
def verdictLife : ReaderKind → Nat
  | .lock => 3
  | .bar => 30
  | .laneOut | .laneIn | .muster => 10

/-- A verdict of kind, reason and result fields. -/
def mkVerdict (kind : VerdictKind) (reason : Reason := .none) (result : VResult := .none) : Verdict :=
  { kind := kind, reason := reason, result := result }

/-- A verdict becomes outgoing for an entry: a new life, delivery count 0, and a place on the priority turn list of a
SERVING line for an entry not LOST (R52, R61). -/
def State.makeOutgoing (s : State) (line : Fin 4) (drop : Nat) (seq : Byte) (v : Verdict) : State :=
  match s.entryAt line drop with
  | none => s
  | some e =>
    let s := s.modEntry line drop fun e =>
      { e with outgoing := some { seq := seq, verdict := v, deliveries := 0, expiry := laterBy s.now (verdictLife e.kind) } }
    s.modLine line fun l =>
      if l.state = .serving ∧ e.poll ≠ .lost ∧ drop ∉ l.priority then { l with priority := l.priority ++ [drop] } else l

/-- Whether a verdict dropped undelivered is reported (R64). -/
def reportsDrop (kind : ReaderKind) (v : Verdict) : Bool :=
  match v.kind with
  | .wait | .cancelled | .notPending | .grant => false
  | _ => decide (kind ≠ .lock)

/-- The posting serial a verdict carries (R64). -/
def Verdict.posting (v : Verdict) : Option PostSerial :=
  match v.result with
  | .accept _ _ _ _ serial => some serial
  | .late serial => serial
  | _ => none

/-- Reports an outgoing verdict dropped undelivered, when its kind is reported (R64). -/
def State.reportUndelivered (s : State) (e : Entry) (o : Outgoing) (cause : UndeliveredCause) : State :=
  if reportsDrop e.kind o.verdict then
    s.notify (.verdictUndelivered e.line e.drop e.serial o.seq o.verdict.kind o.verdict.reason o.verdict.posting
      o.deliveries cause)
  else s

/-- Drops an entry's outgoing verdict undelivered (R57, R63, R64). -/
def State.dropOutgoing (s : State) (e : Entry) (cause : UndeliveredCause) : State :=
  match e.outgoing with
  | none => s
  | some o => (s.reportUndelivered e o cause).modEntry e.line e.drop fun e => { e with outgoing := none }

/-- A final verdict: DECIDED, remembered, outgoing, and the offer's holds end (R37, R56, R61). -/
def State.giveFinal (s : State) (line : Fin 4) (drop : Nat) (seq : Byte) (v : Verdict) : State :=
  ((s.modEntry line drop fun e => { e with disposition := .decided, remembered := some v }).prune line drop []).makeOutgoing
    line drop seq v

/-- The offer is deferred: WAIT becomes outgoing, the offer stays PENDING (R59). -/
def State.defer (s : State) (line : Fin 4) (drop : Nat) (seq : Byte) : State := s.makeOutgoing line drop seq (mkVerdict .wait)

/-- Appends a decision to a trail, the oldest giving way at sixteen (R97). -/
def Trail.append (t : Trail) (x : TrailEntry) : Trail :=
  { entries := (if t.entries.length < 16 then t.entries else t.entries.drop 1) ++ [x], next := t.next + 1 }

/-- Marks the newest trail entry DELIVERED (R99). -/
def Trail.delivered (t : Trail) : Trail :=
  match t.entries.getLast? with
  | none => t
  | some x => { t with entries := t.entries.dropLast ++ [{ x with delivered := true }] }

/-- A final lock verdict, appended to the trail (R95, R98). -/
def State.decideLock (s : State) (line : Fin 4) (drop : Nat) (seq : Byte) (card : CardId) (record : Option (Fin 2048))
    (v : Verdict) : State :=
  (s.modEntry line drop fun e =>
    { e with trail := e.trail.map fun t =>
        t.append { record := record, card := card, verdict := v.kind, reason := v.reason, time := s.now, delivered := false } }
    ).giveFinal line drop seq v

/-- The refusing kind of verdict of a reader, and its empty result fields: REFUSE at tills, DENY elsewhere, with absent
site and count at lanes (12.3). -/
def denial (kind : ReaderKind) (reason : Reason) : Verdict :=
  match kind with
  | .bar => mkVerdict .refuse reason (.lineIndex 0)
  | .laneOut | .laneIn => mkVerdict .deny reason (.lane none none)
  | .lock | .muster => mkVerdict .deny reason

/-- Denies an offer, with a trail entry at a LOCK reader. -/
def State.deny (s : State) (e : Entry) (seq : Byte) (card : CardId) (record : Option (Fin 2048)) (reason : Reason) : State :=
  if e.kind = .lock then s.decideLock e.line e.drop seq card record (denial .lock reason)
  else s.giveFinal e.line e.drop seq (denial e.kind reason)

/-- A fill an offer waits on has failed: it is refused RECORD_FAULT at once (R36). -/
def State.failWaiter (s : State) : Waiter → State
  | .host => s.finish .memoryFault
  | .reader line drop seq card record =>
    match s.entryAt line drop with
    | none => s
    | some e =>
      if e.disposition = .deferred ∧ e.lastSeq = some seq then s.deny e seq card (some record) .recordFault else s

end Sys2Proof.Machine
end

