-- ==== Sys2Proof/Machine/Landing.lean ====
section
/-! DEFINITION. The landing and muster units' shared operations: card index, counts, roster, presence changes, sites,
the census. -/
namespace Sys2Proof.Machine

/-! ## Card index (R5, R6) -/

inductive CardFound where
  | found (x : IndexEntry)
  | unknown
  | unknownInCensus
  deriving DecidableEq, Repr

/-- A lookup of an identity (R5); identity zero is UNKNOWN (R88). -/
def State.lookupCard (s : State) (card : CardId) : CardFound :=
  match s.index.find? fun x => decide (x.card = card) with
  | some x => .found x
  | none => if s.landing.census.running && decide (card ≠ 0) then .unknownInCensus else .unknown

/-- Adds an index entry for a free identity; no entry holds identity zero (R5). -/
def State.indexCard (s : State) (card : CardId) (n : Fin 2048) (slot : Fin 2) : State :=
  { s with index := if card = 0 then s.index else s.index ++ [{ card := card, record := n, slot := slot }] }

/-- Removes an identity's entry when it names this record and slot (R10, R14). -/
def State.unindexCard (s : State) (card : CardId) (n : Fin 2048) (slot : Fin 2) : State :=
  { s with index := s.index.filter fun x => !(decide (x.card = card ∧ x.record = n ∧ x.slot = slot)) }

/-- What a card slot holds. -/
def Guest.card (g : Guest) (slot : Fin 2) : Option Card := if slot = 0 then g.card0 else g.card1
def Guest.setCard (g : Guest) (slot : Fin 2) (c : Option Card) : Guest :=
  if slot = 0 then { g with card0 := c } else { g with card1 := c }

/-! ## Counts (R141, R142, R164, R165) -/

/-- The mustered test (R164). -/
def Muster.has (m : Muster) (g : Guest) : Bool :=
  m.active && match g.musterStamp with | some t => decide (m.beginStamp ≤ t) | none => false

/-- The roster order: older stamp first, then lower record (R142). -/
def RosterEntry.before (a b : RosterEntry) : Bool :=
  decide (a.stamp < b.stamp) || (decide (a.stamp = b.stamp) && decide (a.record < b.record))

def insertRoster (e : RosterEntry) : List RosterEntry → List RosterEntry
  | [] => [e]
  | x :: xs => if e.before x then e :: x :: xs else x :: insertRoster e xs

/-- Moves the aboard tally of a category, and for a guest the station's count (R141). -/
def Landing.modAboard (l : Landing) (c : Category) (station : Fin 8) (f : Nat → Nat) : Landing :=
  match c with
  | .guest => { l with aboardGuest := f l.aboardGuest, stations := l.stations.set station (f l.stations[station]) }
  | .crew => { l with aboardCrew := f l.aboardCrew }

/-- Moves the ashore tally of a category (R141). -/
def Landing.modAshore (l : Landing) (c : Category) (f : Nat → Nat) : Landing :=
  match c with
  | .guest => { l with ashoreGuest := f l.ashoreGuest }
  | .crew => { l with ashoreCrew := f l.ashoreCrew }

/-- Moves a site's count (R141). -/
def Landing.modCount (l : Landing) (t : Fin 4) (f : Nat → Nat) : Landing :=
  { l with sites := l.sites.set t { l.sites[t] with count := f l.sites[t].count } }

/-- Moves the mustered count of a mustered record: its station's for a guest, the crew's for a crew member (R165). -/
def Muster.modMustered (m : Muster) (x : AboardEntry) (f : Nat → Nat) : Muster :=
  if x.mustered then
    match x.category with
    | .guest => { m with mustered := m.mustered.set x.station (f m.mustered[x.station]) }
    | .crew => { m with crewMustered := f m.crewMustered }
  else m

/-- How a record counted ABOARD stands once the mustered test is made again at a change that moves the counts: a holder the
test finds mustered moves them, though no count had it (R164, R165; log 32). -/
def AboardEntry.tested (x : AboardEntry) (mustered : Bool) : AboardEntry := { x with mustered := x.mustered || mustered }

/-- How a record counted ABOARD stands in the counts; none for another presence. -/
def Guest.aboardEntry (g : Guest) (n : Fin 2048) (mustered : Bool) : Option AboardEntry :=
  if g.presence = .aboard then some { record := n, category := g.category, station := g.station, mustered := mustered } else none

/-- The roster entry of a record counted ASHORE, which always carries a site (R140, R142); none for another presence. -/
def Guest.rosterEntry (g : Guest) (n : Fin 2048) : Option RosterEntry :=
  match g.presence, g.site with
  | .ashore, some t => some { record := n, category := g.category, site := t, stamp := g.stamp }
  | _, _ => none

/-- How a record stands counted ABOARD, and its roster entry. -/
def Landing.aboardOf (l : Landing) (n : Fin 2048) : Option AboardEntry := l.aboard.find? fun x => decide (x.record = n)
def Landing.rosterOf (l : Landing) (n : Fin 2048) : Option RosterEntry := l.roster.find? fun e => decide (e.record = n)

/-- A holder enters the counts of those aboard, and leaves them (R141, R143, R165). -/
def State.goAboard (s : State) (x : AboardEntry) : State :=
  { s with
    landing := { s.landing.modAboard x.category x.station (· + 1) with aboard := x :: s.landing.aboard }
    muster := s.muster.modMustered x (· + 1) }
def State.leaveAboard (s : State) (x : AboardEntry) : State :=
  { s with
    landing := { s.landing.modAboard x.category x.station (· - 1) with
      aboard := s.landing.aboard.filter fun y => decide (y.record ≠ x.record) }
    muster := s.muster.modMustered x (· - 1) }

/-- A holder enters the roster, its site's count and the ashore tallies, and leaves them (R141 to R143). -/
def State.goAshore (s : State) (e : RosterEntry) : State :=
  { s with landing := { (s.landing.modAshore e.category (· + 1)).modCount e.site (· + 1) with
      roster := insertRoster e s.landing.roster } }
def State.leaveRoster (s : State) (e : RosterEntry) : State :=
  { s with landing := { (s.landing.modAshore e.category (· - 1)).modCount e.site (· - 1) with
      roster := s.landing.roster.filter fun x => decide (x.record ≠ e.record) } }

/-- A record leaves every count it stands in; whether it is mustered is R164's test, made at the change (R143, R164). -/
def State.countOut (s : State) (n : Fin 2048) (mustered : Bool) : State :=
  let s := match s.landing.aboardOf n with | some x => s.leaveAboard (x.tested mustered) | none => s
  match s.landing.rosterOf n with | some e => s.leaveRoster e | none => s

/-- A record enters the counts its presence gives (R141, R142, R159). -/
def State.countIn (s : State) (n : Fin 2048) (g : Guest) (mustered : Bool) : State :=
  let s := match g.aboardEntry n mustered with | some x => s.goAboard x | none => s
  match g.rosterEntry n with | some e => s.goAshore e | none => s

/-- Whether a record's changes move the counts: in SERVICE, below the cursor of a running census, and not on the list
of skipped records (R156, R160, R161). -/
def State.counted (s : State) (n : Fin 2048) : Bool :=
  s.service && (!s.landing.census.running || decide (n.val < s.landing.census.cursor))
  && decide (n ∉ s.landing.census.skipped)

/-- A roster entry takes a new category in place, and its ashore tally follows (R11, R142). -/
def State.recastRoster (s : State) (e : RosterEntry) (c : Category) : State :=
  { s with landing := { (s.landing.modAshore e.category (· - 1)).modAshore c (· + 1) with
      roster := s.landing.roster.map fun x => if x.record = e.record then { x with category := c } else x } }

/-- A crew member counted ABOARD has a new station, which moves no count (R141, R165). -/
def State.restation (s : State) (n : Fin 2048) (station : Fin 8) : State :=
  { s with landing := { s.landing with
      aboard := s.landing.aboard.map fun x => if x.record = n then { x with station := station } else x } }

/-- A record's category or station has changed, its new fields those given: it moves among the counts, the mustered counts by
the test that R164 makes at the change (R11, R165; log 32). -/
def State.recount (s : State) (n : Fin 2048) (g : Guest) : State :=
  if s.counted n then
    match s.landing.aboardOf n, s.landing.rosterOf n with
    | some x, _ =>
      if x.category = g.category ∧ x.station = g.station then s
      else if x.category = .crew ∧ g.category = .crew then s.restation n g.station
      else
        let y := x.tested (s.muster.has g)
        (s.leaveAboard y).goAboard { y with category := g.category, station := g.station }
    | none, some e => if e.category = g.category then s else s.recastRoster e g.category
    | none, none => s
  else s

/-- A muster offer musters a holder counted aboard: the count it stands in rises by one (R165, R170). -/
def State.musterIn (s : State) (n : Fin 2048) : State :=
  match s.counted n, s.landing.aboardOf n with
  | true, some x => if x.mustered then s else (s.leaveAboard x).goAboard { x with mustered := true }
  | _, _ => s

/-- No one stands mustered any more: a muster begins or ends (R165 to R167). -/
def State.clearMustered (s : State) : State :=
  { s with
    landing := { s.landing with aboard := s.landing.aboard.map fun x => { x with mustered := false } }
    muster := { s.muster with mustered := Vector.replicate 8 0, crewMustered := 0 } }

/-! ## Presence changes and sites (R143, R147) -/

/-- The record after a presence change (R3, R143): a holder leaving ABOARD during a muster loses its muster stamp. -/
def State.movedGuest (s : State) (g : Guest) (p : Presence) (site : Option (Fin 4)) : Guest :=
  { g with
    presence := p, stamp := s.now, site := site
    musterStamp := if s.muster.active = true ∧ g.presence = .aboard ∧ p ≠ .aboard then none else g.musterStamp }

/-- A presence change of the record in slot i: the record, the counts and roster, the urgent write-back (R143). A holder
who leaves ABOARD leaves the mustered count when R164's test finds it mustered; one who enters is not mustered until
presented (R164, R165). -/
def State.presenceChange (s : State) (i : Fin 128) (n : Fin 2048) (g : Guest) (p : Presence) (site : Option (Fin 4)) : State :=
  let g' := s.movedGuest g p site
  let s := s.change i (.guest g')
  (if s.counted n then (s.countOut n (s.muster.has g)).countIn n g' false else s).urgentWrite i

/-- Whether a site is closing: LAST_CALL or OVERDUE. -/
def Site.closing (x : Site) : Bool := decide (x.state = .lastCall) || decide (x.state = .overdue)

/-- SITE_CLEAR for the site a counted holder has left, when its count is 0, it is closing and no census runs (R147). -/
def State.clearLeft (s : State) (n : Fin 2048) (g : Guest) : State :=
  match g.presence, g.site with
  | .ashore, some t =>
    if s.counted n ∧ s.landing.sites[t].count = 0 ∧ s.landing.sites[t].closing = true ∧ s.landing.census.running = false then
      s.notify (.siteClear t s.landing.sites[t].state s.now)
    else s
  | _, _ => s

/-- A site becomes OVERDUE: its state, the sites write and SITE_OVERDUE (R146, R159). -/
def State.overdue (s : State) (t : Fin 4) (deadline : Nat) : State :=
  let site := s.landing.sites[t]
  let sites := s.landing.sites.set t { site with state := .overdue, deadline := some deadline, due := false }
  ({ s with landing := { s.landing with sites := sites } }.unitWrite .sites).notify
    (.siteOverdue t deadline site.count s.landing.census.running)

/-! ## The census (R157 to R162) -/

/-- Queues census reads up to four, while places last; then waits for the next place (R158). The census reads only while
the power state is NORMAL (R44). -/
def State.censusReads : Nat → State → State
  | 0, s => s
  | fuel + 1, s =>
    let c := s.landing.census
    if h : c.running = true ∧ s.power.state = .normal ∧ c.next < 2048 ∧ c.next < c.cursor + 4 then
      if s.hasPlace then
        State.censusReads fuel
          ({ s with landing := { s.landing with census := { c with next := c.next + 1 } } }.enqueue (.censusRead ⟨c.next, h.2.2.1⟩))
      else s.awaitPlace .census
    else s

/-- A census begins, in one step (R157). -/
def State.beginCensus (s : State) (cause : CensusCause) : State :=
  let l := s.landing
  State.censusReads 4
    { s with
      index := []
      landing :=
        { l with aboardGuest := 0, aboardCrew := 0, ashoreGuest := 0, ashoreCrew := 0, stations := Vector.replicate 8 0,
                 aboard := [], roster := [], sites := l.sites.map fun x => { x with count := 0 },
                 census := { running := true, cursor := 0, next := 0, cause := cause, skipped := [], duplicates := 0 } }
      muster := { s.muster with mustered := Vector.replicate 8 0, crewMustered := 0 } }

/-- The census indexes one card; an identity already indexed is counted as a duplicate (R6). -/
def State.censusCard (s : State) (n : Fin 2048) (slot : Fin 2) (c : Option Card) : State :=
  match c with
  | none => s
  | some c =>
    if s.index.any fun x => decide (x.card = c.id) then
      { s with landing := { s.landing with census := { s.landing.census with duplicates := s.landing.census.duplicates + 1 } } }
    else s.indexCard c.id n slot

/-- The census counts a record it has read (R159, R172). -/
def State.censusCount (s : State) (n : Fin 2048) (g : Guest) : State :=
  if g.status = .vacant then s
  else
    let s := (s.censusCard n 0 g.card0).censusCard n 1 g.card1
    let s := match g.presence, g.site with
      | .ashore, some t =>
        if s.landing.sites[t].state = SiteState.closed then s.overdue t s.now else s
      | _, _ => s
    (s.countOut n false).countIn n g (s.muster.has g)

/-- The cursor passes a record (R158). -/
def State.passCursor (s : State) (n : Fin 2048) : State :=
  { s with landing := { s.landing with census := { s.landing.census with cursor := n.val + 1 } } }

/-- The census skips a record it could not read (R161). -/
def State.censusSkip (s : State) (n : Fin 2048) : State :=
  { s with landing := { s.landing with census := { s.landing.census with skipped := s.landing.census.skipped ++ [n] } } }

/-- SITE_CLEAR for each closing site that is empty (R147, R162). -/
def State.clearEmptySites (s : State) : State :=
  (List.finRange 4).foldl (fun s t =>
    if s.landing.sites[t].closing = true ∧ s.landing.sites[t].count = 0 then s.notify (.siteClear t s.landing.sites[t].state s.now)
    else s) s

/-- START_UP_DONE when the census and the four bring-ups have ended (R198). -/
def State.startUpReview (s : State) : State :=
  if s.startUp.phase = .bringingUp ∧ s.startUp.censusEnded = true ∧ s.startUp.bringUp.toList.all (·.isSome) = true then
    { s with startUp := { s.startUp with phase := .running } }.notify
      (.startUpDone false s.startUp.bringUp.toList
        (some (s.landing.aboardGuest, s.landing.aboardCrew, s.landing.ashoreGuest, s.landing.ashoreCrew,
          s.landing.census.skipped.length)) s.startUp.defaulted (s.journal.next - s.journal.head).toNat s.muster.active)
  else s

/-- The census ends when the cursor reaches 2,048 (R162). -/
def State.censusReview (s : State) : State :=
  let c := s.landing.census
  if c.running = true ∧ c.cursor = 2048 then
    let s := { s with landing := { s.landing with census := { c with running := false } } }.clearEmptySites
    let s := s.notify (.censusDone c.cause s.landing.aboardGuest s.landing.aboardCrew s.landing.ashoreGuest
      s.landing.ashoreCrew (s.landing.sites.toList.map (·.count)) c.skipped.length (c.skipped.take 16) c.duplicates)
    if c.cause = .startUp then { s with startUp := { s.startUp with censusEnded := true } }.startUpReview else s
  else s

/-- A census read has brought a record, or failed: it is counted or skipped, the cursor passes it, the next read is to be
queued, and the census may end (R158, R159, R161, R162). -/
def State.censusTaken (s : State) (n : Fin 2048) (got : Option Guest) : State :=
  if s.landing.census.running then
    let s := match got with | some g => s.censusCount n g | none => s.censusSkip n
    ((s.passCursor n).awaitPlace .census).censusReview
  else s

/-- A census read of a record that slot i holds: taken as the slot holds it, and over at once (R27, R158). -/
def State.censusInstant (s : State) (n : Fin 2048) (i : Fin 128) : State :=
  let s := (s.setQueue (s.port.queue.erase (.censusRead n))).touch i
  s.censusTaken n (match (s.slot i).content with | some (.guest g) => some g | _ => none)

/-- The census mark of replies: the cursor while a census runs (R154). -/
def State.censusMark (s : State) : Option Nat :=
  if s.landing.census.running then some s.landing.census.cursor else none

end Sys2Proof.Machine
end

