-- ==== Sys2Proof/Machine/Journal.lean ====
section
/-! DEFINITION. The folio and journal unit's shared operations: the untaken count, the commit list, folio totals. -/
namespace Sys2Proof.Machine

/-- The untaken count (R125, R131). -/
def Journal.untaken (j : Journal) : Nat := (j.next - j.head).toNat
/-- The committed count (R131). -/
def Journal.committed (j : Journal) : Nat := (j.tail - j.head).toNat

/-- Evaluates JOURNAL_HIGH and JOURNAL_FULL against the untaken count (R133). Where both begin at one evaluation, as when the
reloaded marks count 2,048, JOURNAL_HIGH begins first (DESIGN CHOICE, log 62). -/
def State.journalReview (s : State) : State :=
  (s.setCondition .journalHigh (decide (1792 ≤ s.journal.untaken))).setCondition .journalFull
    (decide (2048 ≤ s.journal.untaken))

/-- Marks the oldest unqueued entry of a commit list queued. -/
def markQueued : List CommitEntry → List CommitEntry
  | [] => []
  | c :: cs => if c.queued then c :: markQueued cs else { c with queued := true } :: cs

/-- Queues the oldest unqueued commits while places last (R126). -/
def State.queueCommits : Nat → State → State
  | 0, s => s
  | fuel + 1, s =>
    if s.hasPlace ∧ (s.journal.commits.any fun c => !c.queued) then
      State.queueCommits fuel
        ({ s with journal := { s.journal with commits := markQueued s.journal.commits } }.enqueue .commit)
    else s

/-- The sales on the commit list charged to a folio (R136). -/
def State.pendingSales (s : State) (n : Fin 1024) : List CommitEntry := s.journal.commits.filter fun c => decide (c.folio = n)
/-- The pending total of a folio (R136). -/
def State.pendingTotal (s : State) (n : Fin 1024) : Nat := ((s.pendingSales n).map (·.total)).sum

/-- Adjusts the commit-pending count of a record's slot (R40). -/
def State.modPending (s : State) (k : RecKey) (f : Nat → Nat) : State :=
  match s.find k with
  | .hit i => s.setSlot i { s.slot i with commitPending := f (s.slot i).commitPending }
  | _ => s

end Sys2Proof.Machine
end

