-- ==== Sys2Proof/Machine/Flags.lean ====
section
/-! DEFINITION. Sale flags and the standing: the flag bits of 12.3 and the one comparison of R124. -/
namespace Sys2Proof.Machine

/-- Sale flag bits (12.3, R120). -/
def flagPrice : SaleFlags := 1
def flagQty : SaleFlags := 2
def flagCoverPartial : SaleFlags := 4
def flagRounded : SaleFlags := 8
def flagFloor : SaleFlags := 16
def flagOffline : SaleFlags := 32

/-- A flag when its cause holds, no flag otherwise. -/
def SaleFlags.when (cause : Bool) (flag : SaleFlags) : SaleFlags := if cause then flag else 0

/-- The comparison of a balance with a limit (R124). -/
def standingOf (balance : Int) (limit : Nat) : Standing :=
  if balance < limit then .under else if balance = limit then .at else .over

/-- The folio with its standing recompared (R124). -/
def Folio.recompared (f : Folio) : Folio := { f with standing := standingOf f.balance f.limit }

end Sys2Proof.Machine
end

