-- ==== Sys2Proof/Machine/Sale.lean ====
section
/-! DEFINITION. Sale arithmetic (R102, R109 to R119): pure figures over a sale's lines, a profile and a plan. -/
namespace Sys2Proof.Machine

/-- One well-formed sale line (R102). -/
def saleLineOk (l : SaleLine) : Bool :=
  decide (l.cls ≤ 31) && decide (l.price ≤ 99999) && decide (1 ≤ l.qty ∧ l.qty ≤ 99)

/-- A well-formed list of sale lines (R102). -/
def saleOk (lines : List SaleLine) : Bool :=
  decide (1 ≤ lines.length ∧ lines.length ≤ 12) && lines.all saleLineOk

/-- Screening of one line: a flag with a clear mask refuses with the line's index, PRICE before QTY (R109). -/
def screenLine (p : Profile) (i : Nat) (l : SaleLine) : Except (Reason × Nat) SaleFlags :=
  let price := decide (p.priceCeiling ≠ 0) && decide (p.priceCeiling < l.price)
  let qty := decide (p.qtyLimit < l.qty)
  if price && !p.maskPrice then .error (.price, i)
  else if qty && !p.maskQty then .error (.qty, i)
  else .ok (SaleFlags.when price flagPrice ||| SaleFlags.when qty flagQty)

/-- Line screening in offer order, from line index i (R109). -/
def screen (p : Profile) : Nat → List SaleLine → Except (Reason × Nat) SaleFlags
  | _, [] => .ok 0
  | i, l :: ls =>
    match screenLine p i l with
    | .error r => .error r
    | .ok f =>
      match screen p (i + 1) ls with
      | .error r => .error r
      | .ok g => .ok (f ||| g)

/-- Running cover: the remaining allowance (none is unlimited), covered units, subtotal, COVER_PARTIAL (R111). -/
structure Cover where
  remaining : Option Nat
  covered : Nat
  subtotal : Nat
  cut : Bool
  deriving DecidableEq, Repr

/-- Whether a plan covers an item class. -/
def planCovers (plan : Option Plan) (cls : Nat) : Bool :=
  match plan with
  | none => false
  | some p => p.covered.getLsbD cls

/-- Cover per unit: the price, or the plan's cap when it is not 0 and smaller (R111). -/
def coverPerUnit (plan : Option Plan) (price : Nat) : Nat :=
  match plan with
  | none => 0
  | some p => if p.cap ≠ 0 ∧ p.cap < price then p.cap else price

/-- Coverable units of a line (R111). -/
def coverable (remaining : Option Nat) (qty : Nat) : Nat :=
  match remaining with
  | none => qty
  | some r => min qty r

/-- Cover of one line (R111). -/
def coverLine (plan : Option Plan) (c : Cover) (l : SaleLine) : Cover :=
  if planCovers plan l.cls then
    let units := coverable c.remaining l.qty
    { remaining := c.remaining.map (· - units)
      covered := c.covered + units
      subtotal := c.subtotal + (l.qty * l.price - units * coverPerUnit plan l.price)
      cut := c.cut || decide (units < l.qty) }
  else { c with subtotal := c.subtotal + l.qty * l.price }

/-- The used count that counts on a day (R2, R110). -/
def Guest.effectiveUsed (g : Guest) (day : Nat) : Nat := if g.allowDay = day then g.allowUsed else 0

/-- The remaining allowance before the sale; none is unlimited (R110). -/
def remainingAllowance (plan : Option Plan) (used : Nat) : Option Nat :=
  match plan with
  | none => some 0
  | some p => if p.allowance = 0 then none else some (p.allowance - used)

/-- The service charge (R113). -/
def serviceCharge (subtotal rate : Nat) : Nat := (subtotal * rate + 5000) / 10000

/-- Whether the charge at the rate is not a whole number of cents (R113). -/
def isRounded (subtotal rate : Nat) : Bool := decide (subtotal * rate % 10000 ≠ 0)

/-- The figures of a priced sale (R108). -/
structure SaleFigures where
  remaining : Option Nat
  covered : Nat
  subtotal : Nat
  service : Nat
  total : Nat
  flags : SaleFlags
  deriving DecidableEq, Repr

/-- Prices a screened sale (R110 to R114). -/
def priceSale (plan : Option Plan) (used rate : Nat) (lines : List SaleLine) : SaleFigures :=
  let c := lines.foldl (coverLine plan) { remaining := remainingAllowance plan used, covered := 0, subtotal := 0, cut := false }
  let service := serviceCharge c.subtotal rate
  { remaining := c.remaining, covered := c.covered, subtotal := c.subtotal, service := service,
    total := c.subtotal + service
    flags := SaleFlags.when c.cut flagCoverPartial ||| SaleFlags.when (isRounded c.subtotal rate) flagRounded }

/-- The four folio checks in order (R115 to R118): a refusal, or the flags they add. -/
def folioChecks (standalone : Bool) (ceiling : Nat) (f : Folio) (total untaken : Nat) : Except Reason SaleFlags :=
  if standalone ∧ (ceiling = 0 ∨ ceiling < total) then .error .offline
  else if 0 < total ∧ f.standing = .over then .error .over
  else if 0 < total ∧ f.balance + total > f.limit + f.floorAllowance then .error .limit
  else if 2048 ≤ untaken then .error .journalFull
  else .ok (SaleFlags.when standalone flagOffline
    ||| SaleFlags.when (decide (0 < total ∧ f.balance + total > f.limit)) flagFloor)

/-- The folio after an accepted sale (R119). -/
def Folio.charged (f : Folio) (total : Nat) (flags : SaleFlags) : Folio :=
  { f with balance := f.balance + total, sticky := f.sticky ||| flags }.recompared

/-- The guest record after an accepted sale (R119). -/
def Guest.covered (g : Guest) (day covered : Nat) : Guest :=
  { g with allowDay := day, allowUsed := min 250 (g.effectiveUsed day + covered) }

/-- The folio after the reversal of a sale (R129). -/
def Folio.reversed (f : Folio) (total : Nat) : Folio := { f with balance := f.balance - total }.recompared

/-- The guest record after the reversal of a sale (R2, R129). -/
def Guest.reversed (g : Guest) (day covered : Nat) : Guest :=
  if g.allowDay = day then { g with allowUsed := g.allowUsed - covered } else g

end Sys2Proof.Machine
end

