-- ==== Sys2Proof/Machine/Decide.lean ====
section
/-! DEFINITION. The four deciding blocks: lock decider, sale calculator, landing unit, muster unit. -/
namespace Sys2Proof.Machine

/-! ## Gathering the records of an offer (R89, R105, R148) -/

/-- The records an offer needs, when all are cached, or that it must wait. -/
inductive Gathered where
  | ready (i : Fin 128) (g : Guest) (folio : Option (Fin 128 × Fin 1024 × Folio))
  | wait
  deriving DecidableEq, Repr

/-- Looks up the folio a cached guest record names (R89, R105). The guest's hold is placed before the folio's miss claims a
slot, and holds no longer needed are released after it, so neither slot is the victim (log 13). -/
def State.gatherFolio (s : State) (e : Entry) (w : Waiter) (k : RecKey) (i : Fin 128) (g : Guest) (f : Fin 1024) :
    State × Gathered :=
  match s.find (.folio f) with
  | .hit j =>
    match (s.slot j).content with
    | some (.folio x) => (s.touch j, .ready i g (some (j, f, x)))
    | _ => (s, .wait)
  | _ =>
    match (s.placeHold e.line e.drop k i).ask (.folio f) w with
    | (s, .waiting j) => ((s.placeHold e.line e.drop (.folio f) j).prune e.line e.drop [k, .folio f], .wait)
    | (s, _) => (s.prune e.line e.drop [k], .wait)

/-- Looks up the records of an offer, placing or renewing holds when it must wait (R37, R89, R105, R148). -/
def State.gather (s : State) (e : Entry) (seq : Byte) (card : CardId) (x : IndexEntry) (withFolio : Bool) : State × Gathered :=
  let k : RecKey := .guest x.record
  let w : Waiter := .reader e.line e.drop seq card x.record
  match s.ask k w with
  | (s, .hit i) =>
    match (s.slot i).content with
    | some (.guest g) =>
      match withFolio, g.folio with
      | true, some f => s.gatherFolio e w k i g f
      | _, _ => (s, .ready i g none)
    | _ => (s, .wait)
  | (s, .waiting i) => ((s.placeHold e.line e.drop k i).prune e.line e.drop [k], .wait)
  | (s, .stuck) => (s.prune e.line e.drop [], .wait)

/-- Whether the card slot the index named is LOST (R7). -/
def Guest.lostAt (g : Guest) (slot : Fin 2) : Bool :=
  match g.card slot with
  | some c => decide (c.state = .lost)
  | none => false

/-- LOST_CARD_SEEN for a decision (R7, R90). -/
def State.lostSeen (s : State) (e : Entry) (card : CardId) (n : Fin 2048) : State := s.notify (.lostCardSeen e.line e.drop card n)

/-- PRESENCE_ANOMALY for a decision (R92). -/
def State.anomaly (s : State) (e : Entry) (cause : AnomalyCause) (card : CardId) (n : Fin 2048) (g : Guest) (corrected : Bool) :
    State :=
  s.notify (.presenceAnomaly e.line e.drop cause card n g.site g.stamp corrected)

/-- The reason a status refuses at locks and tills (R91, R106). -/
def Status.refusal : Status → Option Reason
  | .active => none
  | .suspended => some .suspended
  | _ => some .notActive

/-- The reason a window refuses (R4). -/
def Window.refusal : Window → Option Reason
  | .within => none
  | .notYet => some .notYet
  | .expired => some .expired

/-- The reason a presence refuses at locks and tills (R92, R106). -/
def Presence.refusal : Presence → Option Reason
  | .aboard => none
  | .ashore => some .ashore
  | _ => some .notAboard

/-- A refusal when a check does not pass. -/
def refuseUnless (passes : Bool) (r : Reason) : Option Reason := if passes then none else some r

/-- Denies with the notices a LOST card or an ASHORE holder leaves (R90, R92, R106). -/
def State.denyNoting (s : State) (e : Entry) (seq : Byte) (card : CardId) (n : Fin 2048) (g : Guest) (cause : AnomalyCause)
    (r : Reason) : State :=
  match r with
  | .lostCard => (s.lostSeen e card n).deny e seq card (some n) r
  | .ashore => (s.anomaly e cause card n g false).deny e seq card (some n) r
  | _ => s.deny e seq card (some n) r

/-- WAIT for a card the census has not reached: nothing is looked up, and holds of an earlier deferral end (R88, R104). -/
def State.deferUnindexed (s : State) (e : Entry) (seq : Byte) : State := (s.prune e.line e.drop []).defer e.line e.drop seq

/-! ## Lock decider (R86 to R95) -/

/-- The access step (R94). -/
def lockAccess (b : Binding) (p : Profile) (g : Guest) : Bool :=
  (decide (b.locus ≠ 0) && decide (b.locus ∈ g.cabins)) || decide (p.mask &&& g.privileges = p.mask)

/-- Steps 4 to 9: the first reason that refuses (R86). -/
def State.lockRefusal (s : State) (b : Binding) (p : Profile) (slot : Fin 2) (g : Guest) : Option Reason :=
  (refuseUnless (!g.lostAt slot) .lostCard).or <| g.status.refusal.or <| (g.window s.clock.day).refusal.or <|
    g.presence.refusal.or <| (refuseUnless (!(s.muster.active && decide (g.category = .guest))) .muster).or <|
      refuseUnless (lockAccess b p g) .noAccess

/-- A lock offer (R86). -/
def State.lockDecide (s : State) (e : Entry) (seq : Byte) (card : CardId) : State :=
  match s.bindingOf e with
  | none => s.deny e seq card none .unbound
  | some b =>
    let p := s.profiles[b.profile]
    match s.lookupCard card with
    | .unknown => s.deny e seq card none .unknownCard
    | .unknownInCensus => s.deferUnindexed e seq
    | .found x =>
      match s.gather e seq card x true with
      | (s, .wait) => s.defer e.line e.drop seq
      | (s, .ready _ g _) =>
        match s.lockRefusal b p x.slot g with
        | some r => s.denyNoting e seq card x.record g .lock r
        | none => s.decideLock e.line e.drop seq card (some x.record) (mkVerdict .grant .none (.openTime p.openTime))

/-! ## Sale calculator (R103 to R121) -/

/-- The folio's status check (R107). -/
def FolioStatus.refusal : FolioStatus → Option Reason
  | .open => none
  | .hold => some .hold
  | .closed => some .closed

/-- Steps 5 to 9: the first reason that refuses (R103). -/
def State.saleRefusal (s : State) (slot : Fin 2) (g : Guest) : Option Reason :=
  (refuseUnless (!g.lostAt slot) .lostCard).or <| g.status.refusal.or <| g.presence.refusal.or <|
    (refuseUnless (!s.muster.active) .muster).or (g.window s.clock.day).refusal

/-- The plan a guest record names: none for plan 0 (R15). -/
def State.planOf (s : State) (n : Fin 16) : Option Plan :=
  if h : n.val = 0 then none else some (s.plans[n.val - 1]'(by omega))

/-- The commit list entry of an accepted sale (R125). -/
def State.commitEntry (s : State) (e : Entry) (seq : Byte) (b : Binding) (n : Fin 2048) (f : Fin 1024) (v : SaleFigures) :
    CommitEntry :=
  { line := e.line, drop := e.drop, reader := .current, readerSerial := e.serial, seq := seq, serial := s.journal.next,
    queued := false, time := s.now, outlet := b.locus, guest := n, folio := f, subtotal := v.subtotal, service := v.service,
    total := v.total, covered := v.covered, flags := v.flags, day := s.clock.day, remaining := v.remaining }

/-- Acceptance (R119, R125, R126): both records changed, both slots kept, a serial taken, the commit queued, WAIT
outgoing. The guest's slot is changed first, so the folio's ends the most recent (DESIGN CHOICE, log 46). -/
def State.acceptSale (s : State) (e : Entry) (seq : Byte) (b : Binding) (n : Fin 2048) (i : Fin 128) (g : Guest)
    (j : Fin 128) (f : Fin 1024) (x : Folio) (v : SaleFigures) : State :=
  let c := s.commitEntry e seq b n f v
  let s := (s.change i (.guest (g.covered s.clock.day v.covered))).change j (.folio (x.charged v.total v.flags))
  let s := (s.setSlot i { s.slot i with commitPending := (s.slot i).commitPending + 1 })
  let s := (s.setSlot j { s.slot j with commitPending := (s.slot j).commitPending + 1 })
  let s := { s with journal := { s.journal with commits := s.journal.commits ++ [c], next := s.journal.next + 1 } }
  let s := (s.modEntry e.line e.drop fun e => { e with disposition := .committing }).prune e.line e.drop []
  ((s.defer e.line e.drop seq).queueCommits s.journal.commits.length).journalReview

/-- Evaluation of a sale past its pre-checks (R108 to R119). -/
def State.evaluateSale (s : State) (e : Entry) (seq : Byte) (b : Binding) (p : Profile) (lines : List SaleLine) (n : Fin 2048)
    (i : Fin 128) (g : Guest) (j : Fin 128) (f : Fin 1024) (x : Folio) : State :=
  match screen p 1 lines with
  | .error (r, k) => s.giveFinal e.line e.drop seq (mkVerdict .refuse r (.lineIndex k))
  | .ok flags =>
    let v := priceSale (s.planOf g.plan) (g.effectiveUsed s.clock.day) p.rate lines
    match folioChecks s.router.standalone p.offlineCeiling x v.total s.journal.untaken with
    | .error r => s.giveFinal e.line e.drop seq (mkVerdict .refuse r (.lineIndex 0))
    | .ok more => s.acceptSale e seq b n i g j f x { v with flags := flags ||| v.flags ||| more }

/-- A sale offer (R103). -/
def State.saleDecide (s : State) (e : Entry) (seq : Byte) (card : CardId) (lines : List SaleLine) : State :=
  match s.bindingOf e with
  | none => s.deny e seq card none .unbound
  | some b =>
    let p := s.profiles[b.profile]
    if saleOk lines = false then s.deny e seq card none .malformed
    else
      match s.lookupCard card with
      | .unknown => s.deny e seq card none .unknownCard
      | .unknownInCensus => s.deferUnindexed e seq
      | .found x =>
        match s.gather e seq card x true with
        | (s, .wait) => s.defer e.line e.drop seq
        | (s, .ready i g folio) =>
          match s.saleRefusal x.slot g with
          | some r => s.denyNoting e seq card x.record g .sale r
          | none =>
            match folio with
            | none => s.deny e seq card none .noFolio
            | some (j, f, y) =>
              match y.status.refusal with
              | some r => s.deny e seq card none r
              | none => s.evaluateSale e seq b p lines x.record i g j f y

/-! ## Landing unit (R148 to R151) -/

/-- Steps 4 and 5 of a lane offer (R148). -/
def laneRefusal (slot : Fin 2) (g : Guest) : Option Reason :=
  (refuseUnless (!g.lostAt slot) .lostCard).or (refuseUnless (decide (g.status = .active) || decide (g.status = .suspended)) .notActive)

/-- A lane verdict with its site and count (R151). -/
def laneVerdict (kind : VerdictKind) (site : Option (Fin 4)) (count : Option Nat) : Verdict :=
  mkVerdict kind .none (.lane site count)

/-- The site of a lane (R76, R144). -/
def State.laneSite (s : State) (b : Binding) : Option (Fin 4) :=
  match oneBased 4 b.locus with
  | none => none
  | some lane => s.landing.lanes[lane]

/-- REPEAT at a lane: nothing changes; the holder's site and its count (R149 to R151). -/
def State.laneRepeat (s : State) (e : Entry) (seq : Byte) (g : Guest) : State :=
  s.giveFinal e.line e.drop seq (laneVerdict .repeated g.site (g.site.map fun t => s.landing.sites[t].count))

/-- A LANE_OUT offer past the five checks (R149). -/
def State.laneOut (s : State) (e : Entry) (seq : Byte) (card : CardId) (b : Binding) (n : Fin 2048) (i : Fin 128) (g : Guest) :
    State :=
  match g.presence with
  | .ashore => s.laneRepeat e seq g
  | .aboard =>
    if s.muster.active then s.deny e seq card (some n) .muster
    else
      match s.laneSite b with
      | none => s.deny e seq card (some n) .noLanding
      | some t =>
        match s.landing.sites[t].state with
        | .closed => s.deny e seq card (some n) .noLanding
        | .lastCall | .overdue => s.deny e seq card (some n) .siteClosing
        | .open =>
          let s := s.presenceChange i n g .ashore (some t)
          s.giveFinal e.line e.drop seq (laneVerdict .pass (some t) (some s.landing.sites[t].count))
  | _ => s.deny e seq card (some n) .notAboard

/-- An inbound return from a site (R150, R151). -/
def State.laneReturn (s : State) (e : Entry) (seq : Byte) (b : Binding) (n : Fin 2048) (i : Fin 128) (g : Guest) (t : Fin 4) :
    State :=
  let late := decide (s.landing.sites[t].state = SiteState.overdue)
  let deadline := s.landing.sites[t].deadline
  let s := s.presenceChange i n g .aboard none
  let count := s.landing.sites[t].count
  let s := if late then s.notify (.lateReturn n g.category t b.locus s.now deadline count) else s
  (s.clearLeft n g).giveFinal e.line e.drop seq (laneVerdict (if late then .passLate else .pass) (some t) (some count))

/-- A LANE_IN offer past the five checks (R150). -/
def State.laneIn (s : State) (e : Entry) (seq : Byte) (card : CardId) (b : Binding) (n : Fin 2048) (i : Fin 128) (g : Guest) :
    State :=
  match g.presence with
  | .ashore =>
    match g.site with
    | some t => s.laneReturn e seq b n i g t
    | none => (s.presenceChange i n g .aboard none).giveFinal e.line e.drop seq (laneVerdict .pass none none)
  | .aboard => s.laneRepeat e seq g
  | .notEmbarked =>
    match (g.window s.clock.day).refusal with
    | some r => s.deny e seq card (some n) r
    | none => (s.presenceChange i n g .aboard none).giveFinal e.line e.drop seq (laneVerdict .passEmbark none none)
  | .landed => s.deny e seq card (some n) .landed

/-- A lane offer (R148). -/
def State.laneDecide (s : State) (e : Entry) (seq : Byte) (card : CardId) : State :=
  match s.bindingOf e with
  | none => s.deny e seq card none .unbound
  | some b =>
    match s.lookupCard card with
    | .unknown => s.deny e seq card none .unknownCard
    | .unknownInCensus => s.deferUnindexed e seq
    | .found x =>
      match s.gather e seq card x false with
      | (s, .wait) => s.defer e.line e.drop seq
      | (s, .ready i g _) =>
        match laneRefusal x.slot g with
        | some r => s.denyNoting e seq card x.record g .lock r
        | none =>
          if e.kind = .laneOut then s.laneOut e seq card b x.record i g else s.laneIn e seq card b x.record i g

/-! ## Muster unit (R169 to R171) -/

/-- Steps 4 to 6 of a muster offer (R169). -/
def State.musterRefusal (s : State) (g : Guest) : Option Reason :=
  (refuseUnless (decide (g.status = .active) || decide (g.status = .suspended)) .notActive).or <|
    (refuseUnless s.muster.active .noMuster).or
      (refuseUnless (decide (g.presence = .aboard) || decide (g.presence = .ashore)) .notAboard)

/-- A muster verdict with the figures after the decision (R170). -/
def State.musterVerdict (s : State) (kind : VerdictKind) (g : Guest) : Verdict :=
  mkVerdict kind .none
    (match g.category with
     | .guest => .muster (some g.station) s.muster.mustered[g.station] s.landing.stations[g.station]
     | .crew => .muster none s.muster.crewMustered s.landing.aboardCrew)

/-- Counts a holder aboard who is not yet mustered (R164, R170). -/
def State.musterHolder (s : State) (e : Entry) (seq : Byte) (b : Binding) (n : Fin 2048) (i : Fin 128) (g : Guest) : State :=
  let stamp := max s.now s.muster.beginStamp
  let g' := { g with musterStamp := some stamp }
  let s := ((s.change i (.guest g')).musterIn n).urgentWrite i
  if g.station.val + 1 = b.locus then s.giveFinal e.line e.drop seq (s.musterVerdict .mustered g')
  else
    (s.notify (.wrongStation e.line e.drop n g.category g.station b.locus stamp)).giveFinal e.line e.drop seq
      (s.musterVerdict .musteredElsewhere g')

/-- A muster offer past the six checks: an ASHORE holder is corrected first (R170, R171). -/
def State.musterCount (s : State) (e : Entry) (seq : Byte) (card : CardId) (b : Binding) (n : Fin 2048) (i : Fin 128)
    (g : Guest) : State :=
  match g.presence with
  | .ashore =>
    let g' := s.movedGuest g .aboard none
    let s := ((s.anomaly e .muster card n g true).presenceChange i n g .aboard none).clearLeft n g
    if s.muster.has g' then s.giveFinal e.line e.drop seq (s.musterVerdict .repeated g') else s.musterHolder e seq b n i g'
  | _ =>
    if s.muster.has g then s.giveFinal e.line e.drop seq (s.musterVerdict .repeated g) else s.musterHolder e seq b n i g

/-- A muster offer (R169). -/
def State.musterDecide (s : State) (e : Entry) (seq : Byte) (card : CardId) : State :=
  match s.bindingOf e with
  | none => s.deny e seq card none .unbound
  | some b =>
    match s.lookupCard card with
    | .unknown => s.deny e seq card none .unknownCard
    | .unknownInCensus => s.deferUnindexed e seq
    | .found x =>
      match s.gather e seq card x false with
      | (s, .wait) => s.defer e.line e.drop seq
      | (s, .ready i g _) =>
        match s.musterRefusal g with
        | some r => s.deny e seq card (some x.record) r
        | none =>
          let s := if g.lostAt x.slot then s.lostSeen e card x.record else s
          s.musterCount e seq card b x.record i g

/-- An offer handed to the owner of its reader's kind (R56). -/
def State.ownerDecide (s : State) (e : Entry) (seq : Byte) (card : CardId) (lines : List SaleLine) : State :=
  match e.kind with
  | .lock => s.lockDecide e seq card
  | .bar => s.saleDecide e seq card lines
  | .laneOut | .laneIn => s.laneDecide e seq card
  | .muster => s.musterDecide e seq card

end Sys2Proof.Machine
end

