-- ==== Sys2Proof/Machine/Operands.lean ====
section
/-! DEFINITION. The operand forms of the host requests: each answers the fields in range, or none, which R189 test 4
answers BAD_FIELD. -/
namespace Sys2Proof.Machine

/-- A two-valued choice: 0 or 1 (R203). -/
def choice : Nat → Option Bool
  | 0 => some false | 1 => some true | _ => none

/-- An optional number below n: absent stays absent, out of range is refused. -/
def optBelow (n : Nat) : Option Nat → Option (Option (Fin n))
  | none => some none
  | some v => (below n v).map some

/-- GUEST_PUT (R10). -/
def parseGuestPut (f : GuestPut) : Option (Fin 2048 × GuestFields) := do
  let n ← below 2048 f.record
  let status ← Status.ofCode f.status
  let category ← Category.ofCode f.category
  let folio ← optBelow 1024 f.folio
  let plan ← below 16 f.plan
  let station ← oneBased 8 f.station
  let resetAllowance ← choice f.resetAllowance
  if f.cabins.length ≤ 3 ∧ (∀ c ∈ f.cabins, 1 ≤ c ∧ c ≤ 9999) ∧ f.cabins.Nodup ∧ f.firstDay ≤ f.lastDay ∧ f.lastDay ≤ 65535 then
    some (n, { status, category, privileges := f.privileges, cabins := f.cabins, firstDay := f.firstDay,
               lastDay := f.lastDay, folio, plan, station, resetAllowance })
  else none

/-- CARD_ADD, CARD_MARK_LOST, CARD_REMOVE (R12 to R14). -/
def parseCardRef (f : CardRef) : Option (Fin 2048 × Fin 2 × CardId) := do
  let n ← below 2048 f.record
  let slot ← below 2 f.slot
  if f.card = 0 then none else some (n, slot, f.card)

/-- The set of classes a list names (R15); one named twice is in the set once (DESIGN CHOICE, log 54). -/
def classSet (classes : List Nat) : BitVec 32 := classes.foldl (fun m c => m ||| BitVec.twoPow 32 c) 0

/-- PLAN_PUT (R15); its covered set comes as a list of class numbers (DESIGN CHOICE, log 54). -/
def parsePlanPut (f : PlanPut) : Option (Fin 15 × Plan) := do
  let p ← oneBased 15 f.plan
  let plan : Plan := { covered := classSet f.classes, cap := f.cap, allowance := f.allowance }
  if (∀ c ∈ f.classes, c ≤ 31) ∧ plan.inRange = true then some (p, plan) else none

/-- FOLIO_PUT (R137). -/
def parseFolioPut (f : FolioPut) : Option RecordReq := do
  let n ← below 1024 f.folio
  let status ← FolioStatus.ofCode f.status
  let clear := f.clear.getD 0
  let balance := f.balance.getD 0
  if f.limit ≤ 98999999 ∧ f.floorAllowance ≤ 999999 ∧ -99999999 ≤ balance ∧ balance ≤ 99999999 ∧ clear < 64 then
    some (.folioPut n status f.limit f.floorAllowance f.balance (BitVec.ofNat 6 clear))
  else none

/-- FOLIO_SETTLE (R138). -/
def parseFolioSettle (f : FolioSettle) : Option RecordReq := do
  let n ← below 1024 f.folio
  if -199999998 ≤ f.amount ∧ f.amount ≤ 199999998 then some (.folioSettle n f.amount) else none

/-- SET_CLOCK (R20): at least one field, the offset in range. That the seconds are not below the count is judged
against the clock. -/
def parseSetClock (f : SetClock) : Option ConfReq :=
  if (f.seconds.isSome ∨ f.offset.isSome) ∧ f.seconds.getD 0 ≤ 4294967295 ∧ offsetInRange (f.offset.getD 0) then
    some (.setClock f.seconds f.offset)
  else none

/-- The settings with the carried values in place (R22). -/
def SettingsPut.over (f : SettingsPut) (v : Settings) : Settings :=
  { rollover := f.rollover.getD v.rollover, flushAge := f.flushAge.getD v.flushAge,
    roundLimit := f.roundLimit.getD v.roundLimit, linkSilence := f.linkSilence.getD v.linkSilence,
    escalation := f.escalation.getD v.escalation }

/-- SETTINGS_PUT (R22): not empty, every carried value in range. -/
def parseSettingsPut (f : SettingsPut) : Option ConfReq :=
  if (f.rollover.isSome ∨ f.flushAge.isSome ∨ f.roundLimit.isSome ∨ f.linkSilence.isSome ∨ f.escalation.isSome)
      ∧ (SettingsPut.over f Settings.blank).inRange = true then some (.settingsPut f)
  else none

/-- BIND_PUT (R79). -/
def parseBindPut (f : BindPut) : Option ConfReq := do
  let kind ← readerKindOfCode f.kind
  let profile ← below 16 f.profile
  if f.serial ≠ 0 ∧ locusInRange kind f.locus = true then some (.bindPut { serial := f.serial, kind, profile, locus := f.locus })
  else none

/-- BIND_REMOVE (R80). -/
def parseBindRemove (serial : ReaderSerial) : Option ConfReq := if serial = 0 then none else some (.bindRemove serial)

/-- PROFILE_PUT (R83). -/
def parseProfilePut (f : ProfilePut) : Option ConfReq := do
  let n ← below 16 f.profile
  let maskPrice ← choice f.maskPrice
  let maskQty ← choice f.maskQty
  let p : Profile :=
    { openTime := f.openTime, mask := f.mask, rate := f.rate, priceCeiling := f.priceCeiling, qtyLimit := f.qtyLimit,
      offlineCeiling := f.offlineCeiling, maskPrice, maskQty }
  if p.inRange then some (.profilePut n p) else none

/-- PRESENCE_SET (R153): a site with ASHORE and only with ASHORE. -/
def parsePresenceSet (f : PresenceSet) : Option RecordReq := do
  let n ← below 2048 f.record
  let p ← Presence.ofCode f.presence
  let site ← match f.site with | none => some none | some v => (oneBased 4 v).map some
  if site.isSome = decide (p = .ashore) then some (.presenceSet n p site) else none

/-- SITE_OPEN (R145). -/
def parseSiteOpen (f : SiteOpen) : Option ConfReq := do
  let site ← oneBased 4 f.site
  let lanes ← f.lanes.mapM (oneBased 4)
  if 1 ≤ lanes.length ∧ lanes.length ≤ 4 ∧ lanes.Nodup then some (.siteOpen site lanes) else none

/-- SITE_LASTCALL (R146). -/
def parseSiteLastCall (f : SiteLastCall) : Option ConfReq := do
  let site ← oneBased 4 f.site
  if f.deadline ≤ 4294967295 then some (.siteLastCall site f.deadline) else none

/-- SITE_CLOSE (R147). -/
def parseSiteClose (site : Nat) : Option ConfReq := (oneBased 4 site).map .siteClose

/-- The source of a code 1 to 16 (R203). -/
def sourceOfCode (v : Nat) : Option FaultSource := if v = 0 then none else FaultSource.all[v - 1]?

/-- FAULT_PLAN_PUT (R182). -/
def parseFaultPlanPut (pairs : List (Nat × Nat)) : Option ConfReq := do
  let plans ← pairs.mapM fun (c, a) => do
    let src ← sourceOfCode c
    let plan ← planOfByte src a
    some (src, plan)
  if 1 ≤ plans.length ∧ plans.length ≤ 16 ∧ (plans.map (·.1)).Nodup then some (.faultPlanPut plans) else none

/-- FAULT_CLEAR (R183): ALL is 0; the outer option is BAD_FIELD. -/
def parseFaultClear (v : Nat) : Option (Option FaultSource) := if v = 0 then some none else (sourceOfCode v).map some

/-- TAKE_POSTINGS (R134). -/
def parseTake (v : Nat) : Option Nat := if 1 ≤ v ∧ v ≤ 16 then some v else none

/-- ROSTER_GET (R155). -/
def parseStart (v : Nat) : Option Nat := if v ≤ 2047 then some v else none

end Sys2Proof.Machine
end

