-- ==== Sys2Proof/Machine/Requests.lean ====
section
/-! DEFINITION. What the host's requests do once judged: record requests (R8), configuration requests (R21), the longer
works of TAKE_POSTINGS and FORMAT, and the service of requesters waiting for a queue place (R28). -/
namespace Sys2Proof.Machine

/-! ## Record requests (R8 to R14, R136 to R138, R153) -/

def RecordReq.key : RecordReq → RecKey
  | .guestGet n | .guestPut n _ | .cardAdd n _ _ | .cardMarkLost n _ _ | .cardRemove n _ _ | .presenceSet n _ _ => .guest n
  | .folioGet n | .folioPut n _ _ _ _ _ | .folioSettle n _ => .folio n

/-- A changed guest record: the counts follow, an urgent write-back is queued, and the reply is DONE (R8). -/
def State.putGuest (s : State) (i : Fin 128) (n : Fin 2048) (new : Guest) : State :=
  (((s.change i (.guest new)).recount n new).urgentWrite i).finish .done

/-- The guest record GUEST_PUT leaves (R10). -/
def State.putFields (s : State) (g : Guest) (f : GuestFields) : Guest :=
  let g' : Guest :=
    { g with
      status := f.status, category := f.category, privileges := f.privileges, cabins := f.cabins
      firstDay := f.firstDay, lastDay := f.lastDay, folio := f.folio, plan := f.plan, station := f.station
      allowUsed := if f.resetAllowance then 0 else g.allowUsed
      allowDay := if f.resetAllowance then s.clock.day else g.allowDay }
  if f.status = .vacant ∧ g.status ≠ .vacant then
    { g' with card0 := none, card1 := none, presence := .notEmbarked, stamp := s.now, site := none, musterStamp := none }
  else g'

/-- Removes the index entries of a vacated record's cards (R10). -/
def State.unindexAll (s : State) (n : Fin 2048) (g : Guest) : State :=
  let drop (s : State) (slot : Fin 2) : State :=
    match g.card slot with
    | some c => s.unindexCard c.id n slot
    | none => s
  drop (drop s 0) 1

/-- GUEST_PUT after the fill (R10, R11). -/
def State.guestPut (s : State) (i : Fin 128) (n : Fin 2048) (g : Guest) (f : GuestFields) : State :=
  if f.status = .vacant ∧ g.presence ≠ .notEmbarked ∧ g.presence ≠ .landed then s.finish .state
  else
    (if f.status = .vacant ∧ g.status ≠ .vacant then s.unindexAll n g else s).putGuest i n (s.putFields g f)

/-- Where an identity is indexed (R12). -/
def State.indexedAt (s : State) (card : CardId) : Option IndexEntry := s.index.find? fun x => decide (x.card = card)

/-- Adds an index entry, which MAINTENANCE does not hold (R12, R156; log 19). -/
def State.indexIfService (s : State) (card : CardId) (n : Fin 2048) (slot : Fin 2) : State :=
  if s.service then s.indexCard card n slot else s

/-- A STATE reply of CARD_ADD, carrying where the identity is indexed elsewhere (R12). -/
def State.refuseCard (s : State) (card : CardId) (n : Fin 2048) (slot : Fin 2) : State :=
  match s.indexedAt card with
  | some x => if x.record = n ∧ x.slot = slot then s.finish .state else s.finish .state (.indexedAt x.record x.slot)
  | none => s.finish .state

/-- CARD_ADD after the fill (R12). An identity that its slot holds ACTIVE and the index does not has its index entry added and
the record left as it is, unwritten (DESIGN CHOICE, log 56). -/
def State.cardAdd (s : State) (i : Fin 128) (n : Fin 2048) (g : Guest) (slot : Fin 2) (card : CardId) : State :=
  if g.status = .vacant then s.refuseCard card n slot
  else
    match g.card slot, s.indexedAt card with
    | none, none =>
      (s.indexIfService card n slot).putGuest i n (g.setCard slot (some { id := card, state := .active }))
    | none, some _ => s.refuseCard card n slot
    | some c, at? =>
      if c.id ≠ card then s.refuseCard card n slot
      else
        match at? with
        | some x =>
          if x.record = n ∧ x.slot = slot then
            if c.state = .active then s.finish .done
            else s.putGuest i n (g.setCard slot (some { c with state := .active }))
          else s.refuseCard card n slot
        | none =>
          if c.state = .active then (s.indexIfService card n slot).finish .done
          else (s.indexIfService card n slot).putGuest i n (g.setCard slot (some { c with state := .active }))

/-- CARD_MARK_LOST after the fill (R13). -/
def State.cardMarkLost (s : State) (i : Fin 128) (n : Fin 2048) (g : Guest) (slot : Fin 2) (card : CardId) : State :=
  match g.card slot with
  | none => s.finish .state
  | some c =>
    if c.id ≠ card then s.finish .state
    else if c.state = .lost then s.finish .done
    else s.putGuest i n (g.setCard slot (some { c with state := .lost }))

/-- CARD_REMOVE after the fill (R14). -/
def State.cardRemove (s : State) (i : Fin 128) (n : Fin 2048) (g : Guest) (slot : Fin 2) (card : CardId) : State :=
  match g.card slot with
  | none => s.finish .state
  | some c => if c.id ≠ card then s.finish .state else (s.unindexCard card n slot).putGuest i n (g.setCard slot none)

/-- PRESENCE_SET after the fill (R153). -/
def State.presenceSet (s : State) (i : Fin 128) (n : Fin 2048) (g : Guest) (p : Presence) (site : Option (Fin 4)) : State :=
  if g.status = .vacant then s.finish .state
  else if (match site with | some t => decide (s.landing.sites[t].state = SiteState.closed) | none => false) = true then s.finish .state
  else if g.presence = p ∧ g.site = site then s.finish .done
  else ((s.presenceChange i n g p site).clearLeft n g).finish .done

/-- A changed folio record (R8, 7.5). -/
def State.putFolio (s : State) (i : Fin 128) (f : Folio) : State := ((s.change i (.folio f)).urgentWrite i).finish .done

/-- FOLIO_PUT after the fill (R137). -/
def State.folioPut (s : State) (i : Fin 128) (f : Folio) (status : FolioStatus) (limit floorAllowance : Nat)
    (balance : Option Int) (clear : SaleFlags) : State :=
  if balance.isSome ∧ 0 < (s.slot i).commitPending then s.finish .state
  else
    s.putFolio i
      { f with status := status, limit := limit, floorAllowance := floorAllowance, balance := balance.getD f.balance,
               sticky := f.sticky &&& ~~~clear }.recompared

/-- FOLIO_SETTLE after the fill (R138). -/
def State.folioSettle (s : State) (i : Fin 128) (n : Fin 1024) (f : Folio) (amount : Int) : State :=
  let b := f.balance + amount
  if b < -99999999 ∨ 99999999 < b ∨ b - s.pendingTotal n < -99999999 then s.finish .badField
  else s.putFolio i { f with balance := b }.recompared

/-- A record request whose record is cached in slot i (R8). -/
def State.applyRecord (s : State) (req : RecordReq) (i : Fin 128) : State :=
  match req, (s.slot i).content with
  | .guestGet n, some (.guest g) =>
    s.finish .done (.guest g (s.landing.census.running && decide (s.landing.census.cursor ≤ n.val)))
  | .guestPut n f, some (.guest g) => s.guestPut i n g f
  | .cardAdd n slot card, some (.guest g) => s.cardAdd i n g slot card
  | .cardMarkLost n slot card, some (.guest g) => s.cardMarkLost i n g slot card
  | .cardRemove n slot card, some (.guest g) => s.cardRemove i n g slot card
  | .presenceSet n p site, some (.guest g) => s.presenceSet i n g p site
  | .folioGet n, some (.folio f) => s.finish .done (.folio f (s.pendingSales n).length (s.pendingTotal n))
  | .folioPut _ status limit floorAllowance balance clear, some (.folio f) =>
    s.folioPut i f status limit floorAllowance balance clear
  | .folioSettle n amount, some (.folio f) => s.folioSettle i n f amount
  | _, _ => s

/-- CARD_ADD is refused before any lookup while a census runs (R12), and so it is for a skipped record (R161; the moment, and
the reply without a place, are a DESIGN CHOICE, log 57). -/
def State.refusedEarly (s : State) : RecordReq → Bool
  | .cardAdd n _ _ => s.landing.census.running || decide (n ∈ s.landing.census.skipped)
  | _ => false

/-- A record request looks its record up: it proceeds on a hit, and waits in hand otherwise (R8, R34). -/
def State.startRecord (s : State) (req : RecordReq) : State :=
  if s.refusedEarly req then s.finish .state
  else
    match s.ask req.key .host with
    | (s, .hit i) => s.applyRecord req i
    | (s, .waiting _) => s.setWork (.record req)
    | (s, .stuck) => (s.setWork (.record req)).awaitPlace .handMiss

/-! ## Configuration requests (R20 to R22, R79 to R83, R145 to R147, R166, R167, R182) -/

/-- The slot a binding goes into: the one holding its serial, or the lowest empty (R79). -/
def State.bindTarget (s : State) (serial : ReaderSerial) : Option (Fin 192) :=
  (s.bindingSlot serial).or ((List.finRange 192).find? fun b => decide (s.bindings[b] = none))

/-- The binding block of a slot (R77). -/
def bindBlock (b : Fin 192) : ConfBlock := .bindings ⟨b.val / 16, by omega⟩

/-- The configuration block a request writes. -/
def State.confBlock (s : State) : ConfReq → ConfBlock
  | .planPut p _ => .plan p
  | .setClock _ _ => .clockMark
  | .settingsPut _ => .settings
  | .bindPut b => match s.bindTarget b.serial with | some i => bindBlock i | none => .bindings 0
  | .bindRemove serial => match s.bindingSlot serial with | some i => bindBlock i | none => .bindings 0
  | .profilePut p _ => .profile p
  | .siteOpen _ _ | .siteLastCall _ _ | .siteClose _ => .sites
  | .musterBegin | .musterEnd => .muster
  | .faultPlanPut _ => .faultPlan

/-- The owner's own conditions (R189 test 5): none when the request may be accepted. A SITE_CLOSE while a census runs is
refused for the census and carries no count (R147; DESIGN CHOICE, log 43). -/
def State.confRefusal (s : State) : ConfReq → Option (Result × ReplyBody)
  | .setClock (some t) _ => if t < s.now then some (.badField, .empty) else none
  | .bindPut b => if (s.bindTarget b.serial).isNone then some (.state, .empty) else none
  | .bindRemove serial => if (s.bindingSlot serial).isNone then some (.state, .empty) else none
  | .siteOpen t lanes =>
    if s.landing.sites[t].state ≠ .closed ∨ (lanes.any fun l => match s.landing.lanes[l] with | some u => decide (u ≠ t) | none => false) then
      some (.state, .empty)
    else none
  | .siteLastCall t _ =>
    if s.clock.isSet = false ∨ s.landing.sites[t].state = .closed ∨ s.landing.sites[t].state = .overdue then some (.state, .empty)
    else none
  | .siteClose t =>
    if s.landing.census.running then some (.state, .empty)
    else if 0 < s.landing.sites[t].count then some (.state, .siteCount s.landing.sites[t].count)
    else none
  | .musterBegin =>
    if s.clock.isSet = false ∨ s.landing.census.running = true ∨ s.muster.active = true ∨ s.now < s.muster.beginStamp ∨ s.now = voyageMax then
      some (.state, .empty)
    else none
  | .musterEnd => if s.muster.active then none else some (.state, .empty)
  | _ => none

/-- The figures frozen at MUSTER_END: none in MAINTENANCE (R167). -/
def State.frozenFigures (s : State) : Option Frozen :=
  if s.service then
    some { beginStamp := s.muster.beginStamp, endStamp := s.now,
           stations := s.landing.stations.toList.zip s.muster.mustered.toList,
           crewAboard := s.landing.aboardCrew, crewMustered := s.muster.crewMustered, partialAt := s.censusMark }
  else none

/-- Changes the sites. -/
def State.setSite (s : State) (t : Fin 4) (x : Site) : State :=
  { s with landing := { s.landing with sites := s.landing.sites.set t x } }

/-- A configuration request's values go in force on chip (R21). -/
def State.putInForce (s : State) : ConfReq → State
  | .planPut p plan => { s with plans := s.plans.set p plan }
  | .setClock seconds offset =>
    let s := { s with clock := { s.clock with
      seconds := seconds.getD s.clock.seconds, isSet := s.clock.isSet || seconds.isSome,
      offset := offset.getD s.clock.offset, sinceMark := 0 } }
    let s := { s with clock := { s.clock with day := max s.clock.day s.computedDay } }
    if seconds.isSome then s.endCondition .clockUnset else s
  | .settingsPut f => { s with settings := SettingsPut.over f s.settings }
  | .bindPut b =>
    match s.bindTarget b.serial with
    | some i => { s with bindings := s.bindings.set i (some b) }.rebind b.serial
    | none => s
  | .bindRemove serial =>
    match s.bindingSlot serial with
    | some i => { s with bindings := s.bindings.set i none }.rebind serial
    | none => s
  | .profilePut p profile => { s with profiles := s.profiles.set p profile }
  | .siteOpen t lanes =>
    let s := s.setSite t { s.landing.sites[t] with state := .open, deadline := none, due := false }
    { s with landing := { s.landing with lanes := lanes.foldl (fun (v : Vector (Option (Fin 4)) 4) (l : Fin 4) => v.set l (some t)) s.landing.lanes } }
  | .siteLastCall t deadline =>
    s.setSite t { s.landing.sites[t] with
      state := if deadline ≤ s.now then .overdue else .lastCall, deadline := some deadline, due := false }
  | .siteClose t =>
    let s := s.setSite t { s.landing.sites[t] with state := .closed, deadline := none, due := false }
    { s with landing := { s.landing with lanes := s.landing.lanes.map fun (l : Option (Fin 4)) => if l = some t then none else l } }
  | .musterBegin =>
    { s.clearMustered with muster := { s.clearMustered.muster with active := true, beginStamp := s.now + 1 } }
  | .musterEnd =>
    { s.clearMustered with muster := { s.clearMustered.muster with active := false, frozen := s.frozenFigures } }
  | .faultPlanPut plans =>
    { s with router := plans.foldl (fun r x => r.setEntry x.1 { r.entry x.1 with plan := x.2 }) s.router }

/-- What acceptance brings about besides: clock marks, timers compared with new lengths, SITE_OVERDUE, the router's
review (R17, R18, R22, R146, R182). When both timers reach their new lengths at once, LINK_SILENT begins before the escalation
timer expires (DESIGN CHOICE, log 48). -/
def State.afterForce (s : State) (old : State) : ConfReq → State
  | .settingsPut _ =>
    let s := if s.settings.rollover ≠ old.settings.rollover then s.evaluateDay else s
    let s := if s.settings.linkSilence ≠ old.settings.linkSilence ∧ s.settings.linkSilence ≤ s.link.silence then s.beginCondition .linkSilent else s
    if s.router.timer = .running ∧ s.settings.escalation ≤ s.router.run then s.escalate else s
  | .siteLastCall t deadline =>
    if deadline ≤ s.now then s.notify (.siteOverdue t deadline s.landing.sites[t].count s.landing.census.running) else s
  | .musterBegin | .musterEnd => s.markClock
  | .faultPlanPut _ => s.reviewRouter true
  | _ => s

/-- A configuration request is accepted, refused, or waits in hand for a queue place (R21). Its own write is queued before the
clock mark write of a day it advances (DESIGN CHOICE, log 58). -/
def State.startConf (s : State) (req : ConfReq) : State :=
  match s.confRefusal req with
  | some (r, body) => s.finish r body
  | none =>
    if s.hasPlace then
      ((((s.putInForce req).setWork .confWrite).enqueue (.confWrite (.conf (s.confBlock req)) .hand)).afterForce s req)
    else (s.setWork (.confPlace req)).awaitPlace .handConf

/-! ## TAKE_POSTINGS (R134) -/

/-- Queues the journal reads of a TAKE_POSTINGS while places last. -/
def State.queueReads : Nat → State → State
  | 0, s => s
  | fuel + 1, s =>
    match s.work with
    | some (.postings run) =>
      if run.queued < run.count ∧ run.withdrawn = false then
        if s.hasPlace then
          State.queueReads fuel
            ((s.setWork (.postings { run with queued := run.queued + 1 })).enqueue
              (.journalRead (run.first + BitVec.ofNat 32 run.queued)))
        else s.awaitPlace .postings
      else s
    | _ => s

/-- TAKE_POSTINGS accepted (R134). -/
def State.startTake (s : State) (most : Nat) : State :=
  let n := min most s.journal.committed
  if n = 0 then s.finish .done (.postings [] s.journal.head s.journal.untaken)
  else
    State.queueReads 16
      (s.setWork (.postings { first := s.journal.head, count := n, queued := 0, read := [], silent := false, withdrawn := false }))

/-- After a journal read: the reply when the last is in, or STATE when the emergency flush has withdrawn the rest. -/
def State.takeReview (s : State) : State :=
  match s.work with
  | some (.postings run) =>
    if run.withdrawn then s.finish .state
    else if run.read.length < run.count then s
    else if run.silent then s.finish .memoryFault
    else
      let s := { s with journal := { s.journal with head := s.journal.head + BitVec.ofNat 32 run.count } }.unitWrite .journalMarks
      (s.journalReview).finish .done (.postings run.read s.journal.head s.journal.untaken)
  | _ => s

/-! ## FORMAT (R195) -/

/-- The block FORMAT writes in place i of its order. -/
def formatTarget (i : Nat) : Option WriteTarget :=
  if h : i < 49 then some (.conf (ConfBlock.ofNumber ⟨i, h⟩))
  else if h : i < 2097 then some (.record (.guest ⟨i - 49, by omega⟩))
  else if h : i < 3121 then some (.record (.folio ⟨i - 2097, by omega⟩))
  else none

/-- Queues FORMAT's writes while places last. -/
def State.queueFormat : Nat → State → State
  | 0, s => s
  | fuel + 1, s =>
    match s.work with
    | some (.format run) =>
      if run.stopped then s
      else
        match formatTarget run.next with
        | none => s
        | some t =>
          if s.hasPlace then
            State.queueFormat fuel
              ((s.setWork (.format { run with next := run.next + 1, outstanding := run.outstanding + 1 })).enqueue (.confWrite t .format))
          else s.awaitPlace .format
    | _ => s

/-- FORMAT's reply when no write is outstanding and none is left to queue (R195). -/
def State.formatReview (s : State) : State :=
  match s.work with
  | some (.format run) =>
    if run.outstanding = 0 then
      if run.stopped then s.finish .memoryFault (.formatIncomplete run.written)
      else if run.next < 3121 then s
      else
        match run.first with
        | some t => s.finish .memoryFault (.formatFailed run.failed t)
        | none => s.finish .done
    else s
  | _ => s

/-- One of FORMAT's writes has completed. -/
def State.formatWritten (s : State) (t : WriteTarget) (ok : Bool) : State :=
  match s.work with
  | some (.format run) =>
    (s.setWork (.format
      { run with
        outstanding := run.outstanding - 1, written := run.written + ok.toNat, failed := run.failed + (!ok).toNat
        first := run.first.or (if ok then none else some t) })).formatReview
  | _ => s

/-- FORMAT accepted: every durable value on chip at its FORMAT value, the cache discarded, the writes begun (R195).
CLOCK_UNSET's condition begins as any other does, with its mark, count and actions (DESIGN CHOICE, log 52). The places that
withdrawn jobs free go to FORMAT's writes (DESIGN CHOICE, log 50). -/
def State.startFormat (s : State) : State :=
  let s :=
    { s with
      settings := Settings.blank
      plans := Vector.replicate 15 Plan.blank
      profiles := Vector.replicate 16 Profile.blank
      bindings := Vector.replicate 192 none
      entries := s.entries.map fun (e : Entry) => if e.binding = BindState.duplicate then e else { e with binding := BindState.noBinding }
      landing := { s.landing with
        sites := s.landing.sites.map fun (x : Site) => { Site.blank with count := x.count }, lanes := Vector.replicate 4 none }
      muster := { s.muster with active := false, beginStamp := 0 }
      journal := { s.journal with head := 1, tail := 1, next := 1 }
      clock := { s.clock with seconds := 0, isSet := false, offset := 0, day := 0, sinceMark := 0 }
      cache := { s.cache with slots := Vector.replicate 128 Slot.blank }
      router := { s.router with entries := Vector.zipWith (fun (e : FaultEntry) (p : FaultPlan) => { e with plan := p }) s.router.entries FaultPlan.defaults }
      port := { s.port with queue := s.port.queue.filter fun j => !(j.isWriteBack || match j with | .fill _ | .pair _ => true | _ => false) } }
  let s := ((s.beginCondition .clockUnset).reviewRouter true).journalReview
  State.queueFormat 18
    (s.setWork (.format { next := 0, outstanding := 0, written := 0, failed := 0, first := none, stopped := false }))

/-! ## Requesters waiting for a place (R28) -/

/-- One waiting requester tries again; what still cannot be had waits again. A configuration request in hand is checked again
only once a place is free (R21). -/
def State.serve (s : State) : PlaceWaiter → State
  | .block b => s.unitWrite b
  | .handConf =>
    match s.work with
    | some (.confPlace req) => if s.hasPlace then s.startConf req else s.awaitPlace .handConf
    | _ => s
  | .handMiss =>
    match s.work with
    | some (.record req) => s.startRecord req
    | _ => s
  | .flush => s.sweepFlush
  | .emergency => s.sweepEmergency
  | .postings => State.queueReads 16 s
  | .format => State.queueFormat 18 s
  | .census => State.censusReads 4 s

/-- The waiting requesters are served in the order they began to wait; each waits until its turn comes (R28). A host request
whose miss could not start asks again only when a job has completed or a hold has ended (R34). -/
def State.servePlaces (s : State) (asks : Bool) : State :=
  s.port.waiting.foldl (fun s w =>
    let s := s.setWaiting (s.port.waiting.erase w)
    if w = .handMiss ∧ asks = false then s.awaitPlace w else s.serve w) s

/-- After places or slots may have become free: commits first, then the waiting requesters, the emergency flush's and
FLUSH's write-backs, and the arbiter (R28, R126, R43, R45). R126 speaks of places that a completed job frees. Places that stand
free beside commits not yet queued, since an emergency withdrew their jobs, go to commits wherever places are given out, with a
job completed or with none: at a good answer, a hold's expiry, an enumeration's start too (DESIGN CHOICE, log 50). The operand
says whether a job has completed or a hold has ended (R34). -/
def State.settle (s : State) (asks : Bool) : State :=
  (((State.queueCommits s.journal.commits.length s).servePlaces asks).sweepEmergency.sweepFlush).pump

/-- While the port is idle and its best job is a census read of a record that a slot holds, that read is taken and is over
at once (R27, R158). Each one passes the cursor, so there are at most 2,048. -/
def State.censusRun : Nat → State → State
  | 0, s => s
  | fuel + 1, s =>
    match s.port.job, s.bestJob with
    | none, some (.censusRead n) =>
      match s.holder (.guest n) with
      | some i => State.censusRun fuel ((s.censusInstant n i).settle true)
      | none => s
    | _, _ => s

/-- The job in progress is over: the arbiter takes the next, and the freed places are given out (R28, R29). A census read
that needs no transfer is over after the requesters that waited have acted (DESIGN CHOICE, log 16). -/
def State.jobOver (s : State) : State :=
  State.censusRun 2048 ({ s with port := { s.port with job := none, record := none, data := [], silent := false } }.pump.settle true)

end Sys2Proof.Machine
end

