-- ==== Sys2Proof/Machine/Power.lean ====
section
/-! DEFINITION. Power warning, the emergency flush, RESTART's write-out and power-on resets (R44 to R47, R196, R197, R200). -/
namespace Sys2Proof.Machine

/-! ## Entry into EMERGENCY_FLUSH (R44) -/

/-- A waiter that is not the host request in hand. -/
def Waiter.isReader : Waiter → Bool
  | .host => false
  | .reader _ _ _ _ _ => true

/-- The slot after the entry: a queued fill's is emptied, a queued pair's keeps its victim for a plain write-back, and the
host request no longer waits on any (R44). -/
def Slot.atEmergency (x : Slot) (fillQueued pairQueued : Bool) : Slot :=
  if fillQueued then Slot.blank
  else if pairQueued = true ∧ x.incoming.isSome = true then
    { x with
      state := .dirty, wbQueued := true, incoming := none, waiters := [], dirtyAgain := none, emergencyFailed := false
      holds := x.holds.filter fun h => decide (x.key = some h.key) }
  else { x with waiters := x.waiters.filter Waiter.isReader, emergencyFailed := false }

/-- The queue after the entry: fills withdrawn, pairs turned into write-backs in their places (R44). -/
def emergencyQueue (q : List Job) : List Job :=
  q.filterMap fun j =>
    match j with
    | .fill _ => none
    | .pair i => some (.writeBack i)
    | j => some j

/-- Whether a requester goes on waiting for a place. -/
def PlaceWaiter.outlivesWarning : PlaceWaiter → Bool
  | .block _ | .handConf | .flush | .emergency => true
  | .handMiss | .postings | .format | .census => false

def Job.isJournal : Job → Bool
  | .journalRead _ => true
  | _ => false

/-- What the entry does to the request in hand (R44, R195). -/
def State.interruptHand (s : State) : State :=
  match s.work with
  | some (.record _) => s.finish .state
  | some (.postings run) =>
    let s := s.setQueue (s.port.queue.filter fun j => !j.isJournal)
    if (s.port.job.map Job.isJournal).getD false then s.setWork (.postings { run with withdrawn := true })
    else s.finish .state
  | some (.format run) => (s.setWork (.format { run with stopped := true })).formatReview
  | _ => s

/-- The power state becomes EMERGENCY_FLUSH (R44, R45, R200). The places that withdrawn jobs free go to the flush's own
write-backs, before commits not yet queued (DESIGN CHOICE, log 50). -/
def State.enterEmergency (s : State) : State :=
  let s := { s with
    power := { s.power with state := .emergencyFlush, marks := none }
    clock := { s.clock with flusherDue := false } }
  let s := s.interruptHand
  let q := s.port.queue
  let s := { s with
    cache := { s.cache with slots := Vector.ofFn fun i =>
      (s.slot i).atEmergency (decide (Job.fill i ∈ q)) (decide (Job.pair i ∈ q)) }
    port := { s.port with queue := emergencyQueue q, waiting := s.port.waiting.filter PlaceWaiter.outlivesWarning } }
  s.sweepEmergency.pump

/-- The return to NORMAL: what was held pending is queued, and the census goes on (R46). -/
def State.returnNormal (s : State) : State :=
  State.censusRun 2048
    (State.censusReads 4 ({ s with power := { s.power with state := .normal, marks := none } }.settle false))

/-! ## PWRWARN (R44, R46) -/

/-- PWRWARN asserted (R44). While the configuration area is read it is not acted on (R197). -/
def execPwrwarnAsserted (s : State) : Host.Outcome State Fault Refusal :=
  let s := { s with pins := { s.pins with pwrwarn := true } }
  s.awake fun s =>
    let s := s.beginCondition .powerWarn
    if s.power.state = .normal ∧ s.startUp.phase ≠ .readingConfig then s.enterEmergency else s

/-- PWRWARN withdrawn: POWER_WARN's condition ends, and HALTED_SAFE ends with SAFE dropped (R44, R46). -/
def execPwrwarnWithdrawn (s : State) : Host.Outcome State Fault Refusal :=
  let s := { s with pins := { s.pins with pwrwarn := false } }
  s.awake fun s =>
    let s := s.endCondition .powerWarn
    if s.power.state = .haltedSafe then { s with pins := { s.pins with safe := false } }.returnNormal else s

/-! ## The end of the flush (R45) -/

/-- A job the flush waits on before the mark writes. -/
def Job.holdsMarks : Job → Bool
  | .commit | .writeBack _ | .pair _ | .confWrite _ _ => true
  | _ => false

/-- Whether the emergency flush has drained: the mark writes are due (R45). -/
def State.drained (s : State) : Bool :=
  decide (s.power.state = .emergencyFlush) && decide (s.power.marks = none) && s.journal.commits.isEmpty
  && !(s.port.queue.any Job.holdsMarks) && !((s.port.job.map Job.holdsMarks).getD false)
  && (List.finRange 128).all fun i => !s.emergencyWants i

/-- The port writes the journal marks block and then the clock mark block (R45, R18). -/
def execEmergencyMarkWrites (s : State) : Host.Outcome State Fault Refusal :=
  s.awake fun s =>
    if s.drained then
      ({ s with power := { s.power with marks := some 2 }, clock := { s.clock with sinceMark := 0 } }.setQueue
        (s.port.queue ++ [Job.confWrite (.conf .journalMarks) .flush, Job.confWrite (.conf .clockMark) .flush])).pump
    else s

/-- Both mark writes have completed: SAFE and HALTED_SAFE, or NORMAL when PWRWARN has been withdrawn (R45, R46). A
configuration write that arose after the mark writes were queued does not hold SAFE back (DESIGN CHOICE, log 44). -/
def execSafe (s : State) : Host.Outcome State Fault Refusal :=
  s.awake fun s =>
    if s.power.state = .emergencyFlush ∧ s.power.marks = some 0 ∧ s.power.restart = false then
      if s.pins.pwrwarn then
        { s with power := { s.power with state := .haltedSafe, marks := none }, pins := { s.pins with safe := true } }
      else s.returnNormal
    else s

/-! ## Power-on reset (R47, R196, R197) -/

/-- The part right after reset release: the reset values of every block, the straps as sampled, the record memory and
the power warning input as they stand (R194, R196, R197). CLOCK_UNSET's condition has begun before POWER_WARN's (DESIGN CHOICE,
log 60). -/
def State.powerOn (s : State) (straps : Straps) : State :=
  let t := { State.reset with
    pending := s.pending, mem := s.mem, straps := straps, pins := { State.reset.pins with pwrwarn := s.pins.pwrwarn } }
  if s.pins.pwrwarn then t.beginCondition .powerWarn else t

/-- The part while RESET is held low: outputs at their reset levels, every operation abandoned (R196). -/
def State.held (s : State) : State :=
  { State.reset with
    pending := s.pending, inReset := true, mem := s.mem, straps := s.straps
    pins := { State.reset.pins with pwrwarn := s.pins.pwrwarn }
    port := { State.reset.port with job := none }
    router := { State.reset.router with
      entries := FaultPlan.defaults.map fun p => { present := false, raised := false, count := 0, plan := p }
      deferred := [] } }

/-- RESET held low: the job in progress is abandoned where it had reached (R47, R196). -/
def execResetAsserted (cut : CutAt) (s : State) : Host.Outcome State Fault Refusal :=
  s.awake fun s => { s with mem := s.cutMemory cut }.held

/-- RESET released (R194, R197). -/
def execResetRelease (straps : Straps) (s : State) : Host.Outcome State Fault Refusal :=
  .next (if s.inReset then s.powerOn straps else s)

/-- Whether a reply is RESTART's DONE. -/
def Reply.isRestart (r : Reply) : Bool := decide (r.kind = 0x03) && decide (r.result = .done)

/-- Whether RESTART's DONE is still to be sent (R200). -/
def State.restartUnsent (s : State) : Bool :=
  s.link.tx.any Reply.isRestart
  || match s.work with
     | some (.formed r) => r.isRestart
     | _ => false

/-- The reset that ends RESTART (R200). A job still in progress is abandoned where it had reached (R47, R196; log 30). -/
def execRestartReset (found : ResetFound) (s : State) : Host.Outcome State Fault Refusal :=
  s.awake fun s =>
    if s.power.restart = true ∧ s.power.marks = some 0 ∧ s.restartUnsent = false then
      { s with mem := s.cutMemory found.cut }.powerOn found.straps
    else s

end Sys2Proof.Machine
end

