-- ==== Sys2Proof/Machine/Replies.lean ====
section
/-! DEFINITION. The bytes of host replies and notices (12.2, R201, R203): the codes of their fields, their bodies, and the
frame sent. The sizes and orders that no table gives are in log 29. -/
namespace Sys2Proof.Machine

/-! ## Codes by place in the defining rule's list (R203) -/

/-- Line states, in R50's order. -/
def LineState.code : LineState → Nat
  | .isolated => 1 | .checking => 2 | .enumerating => 3 | .serving => 4
/-- Check results, in R69's order. -/
def CheckResult.code : CheckResult → Nat
  | .good => 1 | .shorted => 2 | .broken => 3
/-- Check causes, in R69's order. -/
def CheckCause.code : CheckCause → Nat
  | .startUp => 1 | .request => 2 | .automatic => 3 | .restore => 4
/-- Isolation causes, in R71's order. -/
def IsolateCause.code : IsolateCause → Nat
  | .request => 1 | .plan => 2
/-- Enumeration results, in R68's order. -/
def EnumResult.code : EnumResult → Nat
  | .complete => 1 | .chainFault => 2 | .overfull => 3 | .abandoned => 4
/-- Causes of VERDICT_UNDELIVERED, in R64's order. -/
def UndeliveredCause.code : UndeliveredCause → Nat
  | .expired => 1 | .superseded => 2 | .removed => 3
/-- Causes of PRESENCE_ANOMALY, in R92's order. -/
def AnomalyCause.code : AnomalyCause → Nat
  | .lock => 1 | .sale => 2 | .muster => 3
/-- Poll states, in R53's order. -/
def Poll.code : Poll → Nat
  | .fast => 1 | .slow => 2 | .lost => 3
/-- Binding states, in R74's order. -/
def BindState.code : BindState → Nat
  | .bound _ => 1 | .noBinding | .kindMismatch => 2 | .duplicate => 3
/-- Unbound causes, in R74's order; none but in UNBOUND. -/
def BindState.causeCode : BindState → Option Nat
  | .noBinding => some 1 | .kindMismatch => some 2 | .bound _ | .duplicate => none
/-- The binding slot, present in BOUND alone (R74). -/
def BindState.slot : BindState → Option (Fin 192)
  | .bound b => some b | .noBinding | .kindMismatch | .duplicate => none
/-- Dispositions, in R74's order; none before the first offer. -/
def Disposition.code : Disposition → Option Nat
  | .nothing => none | .deferred | .committing => some 1 | .cancelAsked => some 2 | .decided => some 3
/-- The stage of a PENDING offer, in R74's order. -/
def Disposition.stageCode : Disposition → Option Nat
  | .deferred => some 1 | .committing => some 2 | .nothing | .cancelAsked | .decided => none
/-- Card slot states, in R1's order. -/
def CardState.code : CardState → Nat
  | .active => 1 | .lost => 2
/-- Modes, in R194's order. -/
def modeCode (maintenance : Bool) : Nat := if maintenance then 2 else 1
/-- Start-up states, in R193's order. -/
def startUpCode (running : Bool) : Nat := if running then 2 else 1
/-- Power states, in R44's order. -/
def PowerState.code : PowerState → Nat
  | .normal => 1 | .emergencyFlush => 2 | .haltedSafe => 3
/-- Service states, in R184's order. -/
def serviceCode (standalone : Bool) : Nat := if standalone then 2 else 1
/-- A fault source's place in the fault sources table. -/
def FaultSource.code (s : FaultSource) : Nat := s.index.val + 1
/-- The cause of an entry into standalone service: the source's code, and 17 for ESCALATION, named after the sixteen. -/
def StandaloneCause.code : StandaloneCause → Nat
  | .source s => s.code | .escalation => 17
/-- Escalation timer states, in R179's order. -/
def EscalationState.code : EscalationState → Nat
  | .stopped => 1 | .running => 2 | .expired => 3
/-- Kinds of job, in R27's order. -/
def JobKind.code : JobKind → Nat
  | .fill => 1 | .writeBack => 2 | .pair => 3 | .commit => 4 | .confWrite => 5 | .censusRead => 6 | .journalRead => 7
  | .confRead => 8
/-- Census causes, in R162's order. -/
def CensusCause.code : CensusCause → Nat
  | .startUp => 1 | .request => 2
/-- Muster states (12.7). -/
def musterCode (active : Bool) : Nat := active.toNat
/-- The forms of READER_LIST, in R84's order. -/
def listFormCode : ListForm → Nat
  | .entries _ => 1 | .bindings _ => 2 | .profiles => 3 | .other code => code
/-- A block FORMAT names: its place in the order of R195. -/
def WriteTarget.place : WriteTarget → Nat
  | .conf b => b.number.val
  | .record (.guest n) => 49 + n.val
  | .record (.folio n) => 2097 + n.val

/-! ## Fields -/

/-- A two-valued mark (R203). -/
def markByte (b : Bool) : List Byte := be 1 b.toNat
/-- A list behind its count byte (12.2). -/
def listBytes {α : Type} (f : α → List Byte) (l : List α) : List Byte := be 1 l.length ++ (l.map f).flatten
/-- A field of n bytes that may be absent: its presence byte, and zeros in its place when it is (chapter 12). -/
def absentOr {α : Type} (n : Nat) (f : α → List Byte) (o : Option α) : List Byte :=
  match o with
  | none => 0 :: List.replicate n 0
  | some x => 1 :: f x
/-- The census mark: 1 and the cursor for PARTIAL, 0 for COMPLETE (R154; one byte is the mark and the cursor's presence
byte, DESIGN CHOICE, log 29). -/
def censusBytes (c : Option Nat) : List Byte := optBytes 2 c

/-- A card slot: empty, or its identity and slot state (R9). -/
def cardBytes (c : Option Card) : List Byte := absentOr 9 (fun c => be 8 c.id.toNat ++ be 1 c.state.code) c

/-- Every field of a guest record, in R1's order (R9), its privileges two bytes of bits (DESIGN CHOICE, log 59). -/
def guestReply (g : Guest) : List Byte :=
  be 1 g.status.code ++ be 1 g.category.code ++ be 2 g.privileges.toNat ++ listBytes (be 2) g.cabins ++ be 2 g.firstDay
  ++ be 2 g.lastDay ++ cardBytes g.card0 ++ cardBytes g.card1 ++ optBytes 2 (g.folio.map Fin.val) ++ be 1 g.plan.val
  ++ be 2 g.allowDay ++ be 1 g.allowUsed ++ be 1 g.presence.code ++ be 4 g.stamp
  ++ optBytes 1 (g.site.map fun t => t.val + 1) ++ be 1 (g.station.val + 1) ++ optBytes 4 g.musterStamp

/-- Every field of a folio record, in R123's order (R136), its sticky flags one byte of bits (DESIGN CHOICE, log 59). -/
def folioReply (f : Folio) : List Byte :=
  be 1 f.status.code ++ be 4 (signed 4 f.balance) ++ be 4 f.limit ++ be 4 f.floorAllowance ++ be 1 f.standing.code
  ++ be 1 f.sticky.toNat ++ optBytes 4 (f.lastSerial.map BitVec.toNat)

/-- A posting TAKE_POSTINGS returns: a damaged byte and its 30 bytes, or its serial and zeros (12.6). -/
def postingReply (p : PostingRead) : List Byte :=
  match p.content with
  | some x => markByte false ++ postingBytes x
  | none => markByte true ++ be 4 p.serial.toNat ++ List.replicate 26 0

def bindingFields (b : Binding) : List Byte :=
  be 4 b.serial.toNat ++ be 1 (readerKindCode b.kind) ++ be 1 b.profile.val ++ be 2 b.locus

def slotBinding (x : Fin 192 × Binding) : List Byte := be 2 x.1.val ++ bindingFields x.2

/-- Every field of a profile, in R82's order, its requirement mask two bytes of bits (DESIGN CHOICE, log 59). -/
def profileFields (p : Profile) : List Byte :=
  be 1 p.openTime ++ be 2 p.mask.toNat ++ be 2 p.rate ++ be 4 p.priceCeiling ++ be 1 p.qtyLimit ++ be 4 p.offlineCeiling
  ++ markByte p.maskPrice ++ markByte p.maskQty

def bindStateBytes (b : BindState) : List Byte :=
  be 1 b.code ++ optBytes 1 b.causeCode ++ optBytes 2 (b.slot.map Fin.val)

def dispositionBytes (d : Disposition) : List Byte := optBytes 1 d.code ++ optBytes 1 d.stageCode

def summaryBytes (e : EntrySummary) : List Byte :=
  be 1 e.drop ++ be 1 (readerKindCode e.kind) ++ be 4 e.serial.toNat ++ bindStateBytes e.binding ++ be 1 e.poll.code
  ++ markByte e.outgoing ++ dispositionBytes e.disposition

/-- A verdict: kind, reason, and its result fields behind a length byte. -/
def verdictBytes (v : Verdict) : List Byte :=
  be 1 v.kind.code ++ be 1 v.reason.code ++ be 1 v.result.bytes.length ++ v.result.bytes

/-- An outgoing verdict: sequence number, delivery count and life expiry (R61). A delivery count above 65,535 shows its lower 16
bits (DESIGN CHOICE, log 29). -/
def outgoingBytes (o : Outgoing) : List Byte :=
  verdictBytes o.verdict ++ be 1 o.seq.toNat ++ be 2 o.deliveries ++ be 4 o.expiry

/-- A trail entry (R97). Its delivery mark is 1 for DELIVERED and 0 for UNDELIVERED (DESIGN CHOICE, log 29). -/
def trailBytes (x : TrailEntry) : List Byte :=
  optBytes 2 (x.record.map Fin.val) ++ be 8 x.card.toNat ++ be 1 x.verdict.code ++ be 1 x.reason.code ++ be 4 x.time
  ++ markByte x.delivered

/-- A whole reader entry, in the order of R74 and then R85. What both rules name goes once, the two verdicts at R74's place and
the trail at R85's (DESIGN CHOICE, log 29). An absent remembered verdict is three zeros behind its presence byte and an absent
outgoing one ten, their sizes with no result fields (DESIGN CHOICE, log 29). A silent count above 65,535 shows its lower 16 bits (DESIGN
CHOICE, log 29). -/
def entryBytes (e : Entry) (b : Option Binding) (holds : List (Fin 128)) (count : Nat)
    (trail : Option (List (Option TrailEntry))) : List Byte :=
  be 1 e.line.val ++ be 1 e.drop ++ be 1 (readerKindCode e.kind) ++ be 4 e.serial.toNat ++ bindStateBytes e.binding
  ++ be 1 e.poll.code ++ be 2 e.quiet ++ be 2 e.silent ++ optBytes 1 (e.lastSeq.map BitVec.toNat)
  ++ dispositionBytes e.disposition ++ absentOr 3 verdictBytes e.remembered ++ absentOr 10 outgoingBytes e.outgoing
  ++ listBytes (fun i => be 1 i.val) holds ++ absentOr 8 bindingFields b ++ be 2 count
  ++ absentOr 304 (fun t => (t.map (absentOr 18 trailBytes)).flatten) trail

def sourcesBytes (l : List FaultSource) : List Byte := listBytes (fun s => be 1 s.code) l

/-- A line as STATUS reports it (R193). A round period capture that outgrows its four bytes is sent in its lower 32 bits (DESIGN
CHOICE, log 29). -/
def lineStatusBytes (l : LineStatus) : List Byte :=
  be 1 l.state.code ++ optBytes 1 (l.check.map CheckResult.code) ++ markByte l.enumerated ++ be 2 l.round.toNat
  ++ be 4 l.capture ++ be 2 l.entries

/-- A source's condition, mark, count and plan (R193); the plan's set is one byte of bits (DESIGN CHOICE, log 59). -/
def faultBytes (e : FaultEntry) : List Byte :=
  markByte e.present ++ markByte e.raised ++ be 2 e.count ++ be 1 e.plan.code

/-- The figures of STATUS, group by group (R193). While no census runs, the cursor's bytes are zeros behind the mark 0 (DESIGN
CHOICE, log 29). -/
def statusBytes (f : StatusFigures) : List Byte :=
  be 1 (modeCode f.maintenance) ++ be 1 (startUpCode f.running) ++ be 1 f.power.code ++ be 1 (serviceCode f.standalone)
  ++ optBytes 1 (f.cause.map StandaloneCause.code) ++ optBytes 4 f.since
  ++ be 4 f.seconds ++ markByte f.isSet ++ be 2 (signed 2 f.offset) ++ be 1 f.rollover ++ be 2 f.day
  ++ (f.faults.map faultBytes).flatten ++ be 1 f.timer.code ++ be 2 f.timerRun
  ++ be 2 f.silence ++ be 2 f.nextNotice.toNat ++ be 2 f.notices ++ markByte f.newsLost
  ++ (f.lines.map lineStatusBytes).flatten
  ++ censusBytes f.census ++ be 2 f.skipped ++ be 1 (musterCode f.muster) ++ be 4 f.beginStamp
  ++ be 4 f.head.toNat ++ be 4 f.tail.toNat ++ be 4 f.next.toNat ++ be 2 f.untaken
  ++ (f.slots.map (be 2)).flatten ++ be 2 f.queued ++ optBytes 1 (f.job.map JobKind.code) ++ markByte f.stalling

def siteBytes (x : SiteFigures) : List Byte :=
  be 1 x.state.code ++ optBytes 4 x.deadline ++ be 2 x.count ++ listBytes (fun l => be 1 (l.val + 1)) x.lanes

def rosterBytes (e : RosterEntry) : List Byte :=
  be 2 e.record.val ++ be 1 e.category.code ++ be 1 (e.site.val + 1) ++ be 4 e.stamp

def stationBytes (l : List (Nat × Nat)) : List Byte := (l.map fun x => be 2 x.1 ++ be 2 x.2).flatten

/-- The frozen figures of a muster (R167). -/
def frozenBytes (f : Frozen) : List Byte :=
  be 4 f.beginStamp ++ be 4 f.endStamp ++ stationBytes f.stations ++ be 2 f.crewAboard ++ be 2 f.crewMustered
  ++ censusBytes f.partialAt

/-! ## Notices (R191, R203) -/

/-- How a line's bring-up ended (R198): code 1 with the entry count and the result, or code 2 with the check result behind its
presence byte. A line carries the fields of its own form alone, so its length varies (DESIGN CHOICE, log 29). -/
def bringUpBytes : Option BringUp → List Byte
  | some (.enumerated count result) => be 1 1 ++ be 2 count ++ be 1 result.code
  | some (.isolated check) => be 1 2 ++ optBytes 1 (check.map CheckResult.code)
  | none => be 1 2 ++ optBytes 1 none

/-- The kind code of a notice: its place in the notice kinds table. -/
def NoticeBody.code : NoticeBody → Nat
  | .startUpDone .. => 1 | .censusDone .. => 2 | .flushDone .. => 3 | .lineEnumerated .. => 4 | .lineChecked .. => 5
  | .lineIsolated .. => 6 | .readerLost .. => 7 | .readerBack .. => 8 | .presenceAnomaly .. => 9 | .lostCardSeen .. => 10
  | .verdictUndelivered .. => 11 | .siteOverdue .. => 12 | .lateReturn .. => 13 | .siteClear .. => 14
  | .wrongStation .. => 15 | .faultRaised .. => 16 | .escalated .. => 17 | .standaloneEntered .. => 18

/-- A line and drop, as they stand in notices. -/
def placeBytes (line : Fin 4) (drop : Nat) : List Byte := be 1 line.val ++ be 1 drop

/-- The fields of a notice, in its owning rule's order. LATE_RETURN from a site with no deadline carries 0, and a
delivery count above 65,535 shows its lower 16 bits (DESIGN CHOICE, log 29). -/
def NoticeBody.fields : NoticeBody → List Byte
  | .startUpDone maintenance lines census defaulted untaken muster =>
    be 1 (modeCode maintenance) ++ (lines.map bringUpBytes).flatten
    ++ absentOr 10 (fun (c : Nat × Nat × Nat × Nat × Nat) =>
        be 2 c.1 ++ be 2 c.2.1 ++ be 2 c.2.2.1 ++ be 2 c.2.2.2.1 ++ be 2 c.2.2.2.2) census
    ++ be 2 defaulted ++ be 2 untaken ++ be 1 (musterCode muster)
  | .censusDone cause aboardGuest aboardCrew ashoreGuest ashoreCrew sites skipped lowest duplicates =>
    be 1 cause.code ++ be 2 aboardGuest ++ be 2 aboardCrew ++ be 2 ashoreGuest ++ be 2 ashoreCrew
    ++ (sites.map (be 2)).flatten ++ be 2 skipped ++ listBytes (fun n => be 2 n.val) lowest ++ be 2 duplicates
  | .flushDone ok failed => be 2 ok ++ be 2 failed
  | .lineEnumerated line result entries duplicates unbound =>
    be 1 line.val ++ be 1 result.code ++ be 2 entries ++ be 2 duplicates ++ be 2 unbound
  | .lineChecked line result cause => be 1 line.val ++ be 1 result.code ++ be 1 cause.code
  | .lineIsolated line cause => be 1 line.val ++ be 1 cause.code
  | .readerLost line drop serial outgoing => placeBytes line drop ++ be 4 serial.toNat ++ markByte outgoing
  | .readerBack line drop serial => placeBytes line drop ++ be 4 serial.toNat
  | .presenceAnomaly line drop cause card record site stamp corrected =>
    placeBytes line drop ++ be 1 cause.code ++ be 8 card.toNat ++ be 2 record.val ++ be 1 (zeroNone site) ++ be 4 stamp
    ++ markByte corrected
  | .lostCardSeen line drop card record => placeBytes line drop ++ be 8 card.toNat ++ be 2 record.val
  | .verdictUndelivered line drop serial seq verdict reason posting deliveries cause =>
    placeBytes line drop ++ be 4 serial.toNat ++ be 1 seq.toNat ++ be 1 verdict.code ++ be 1 reason.code
    ++ optBytes 4 (posting.map BitVec.toNat) ++ be 2 deliveries ++ be 1 cause.code
  | .siteOverdue site deadline count partialMark =>
    be 1 (site.val + 1) ++ be 4 deadline ++ be 2 count ++ markByte partialMark
  | .lateReturn record category site lane time deadline count =>
    be 2 record.val ++ be 1 category.code ++ be 1 (site.val + 1) ++ be 1 lane ++ be 4 time ++ be 4 (deadline.getD 0)
    ++ be 2 count
  | .siteClear site state time => be 1 (site.val + 1) ++ be 1 state.code ++ be 4 time
  | .wrongStation line drop record category assigned reader time =>
    placeBytes line drop ++ be 2 record.val ++ be 1 category.code ++ be 1 (assigned.val + 1) ++ be 1 reader ++ be 4 time
  | .faultRaised source time count plan => be 1 source.code ++ be 4 time ++ be 2 count ++ be 1 plan.code
  | .escalated time length sources entered => be 4 time ++ be 2 length ++ sourcesBytes sources ++ markByte entered
  | .standaloneEntered cause time => be 1 cause.code ++ be 4 time

/-- A notice as NEWS returns it: number, kind, voyage seconds, a length byte and its fields (R203). -/
def Notice.bytes (n : Notice) : List Byte :=
  be 2 n.number.toNat ++ be 1 n.body.code ++ be 4 n.time ++ be 1 n.body.fields.length ++ n.body.fields

/-! ## Replies (R189, R203) -/

/-- What follows the result byte, in the owning rule's order. Groups of a fixed length have no count byte, but for the 16
profiles of PROFILES. A MEMORY_FAULT of FORMAT carries the fields of its own form alone (DESIGN CHOICE, log 29). -/
def ReplyBody.bytes : ReplyBody → List Byte
  | .empty => []
  | .status f => statusBytes f
  | .news taken lost remaining => listBytes Notice.bytes taken ++ markByte lost ++ be 2 remaining
  | .guest g censusMark => guestReply g ++ markByte censusMark
  | .indexedAt record slot => be 2 record.val ++ be 1 slot.val
  | .folio f sales pendingTotal => folioReply f ++ be 2 sales ++ be 4 pendingTotal
  | .postings list head untaken => listBytes postingReply list ++ be 4 head.toNat ++ be 2 untaken
  | .entries state list => be 1 state.code ++ listBytes summaryBytes list
  | .bindings list next => listBytes slotBinding list ++ optBytes 2 (next.map Fin.val)
  | .profiles list => listBytes profileFields list
  | .entry e binding holds holdCount trail => entryBytes e binding holds holdCount trail
  | .serialHeld binding places => absentOr 10 slotBinding binding ++ listBytes (fun x => placeBytes x.1 x.2) places
  | .checkResult r => be 1 r.code
  | .tally aboardGuest aboardCrew ashoreGuest ashoreCrew sites stations length census skipped =>
    be 2 aboardGuest ++ be 2 aboardCrew ++ be 2 ashoreGuest ++ be 2 ashoreCrew ++ (sites.map siteBytes).flatten
    ++ (stations.map (be 2)).flatten ++ be 2 length ++ censusBytes census ++ be 2 skipped
  | .roster list length census => listBytes rosterBytes list ++ be 2 length ++ censusBytes census
  | .siteCount count => be 2 count
  | .musterLive beginStamp stations crewAboard crewMustered census =>
    be 1 (musterCode true) ++ be 4 beginStamp ++ stationBytes stations ++ be 2 crewAboard ++ be 2 crewMustered
    ++ censusBytes census
  | .musterHeld active beginStamp frozen => be 1 (musterCode active) ++ be 4 beginStamp ++ absentOr 47 frozenBytes frozen
  | .source src => be 1 src.code
  | .sources list => sourcesBytes list
  | .formatFailed count first => be 2 count ++ be 2 first.place
  | .formatIncomplete written => markByte true ++ be 2 written

/-- The frame a reply is sent as: its tag and kind, the result byte and what follows it, and the check word (12.2, R201). -/
def Reply.bytes (r : Reply) : List Byte := hostFrame r.tag r.kind (be 1 r.result.code ++ r.body.bytes)

end Sys2Proof.Machine
end

