-- ==== Sys2Proof/Machine/HostLink.lean ====
section
/-! DEFINITION. The host link port: frames, the tests of a request, STATUS, NEWS, RESTART, FORMAT (R188 to R195, R200). -/
namespace Sys2Proof.Machine

/-! ## Frames and tests (R188 to R190) -/

/-- A valid frame of a kind arrives: BUSY while a request is in hand or the configuration area is read, or else the frame
is in hand and judged (R175, R189, R190, R197). -/
def State.receive (s : State) (tag : Tag) (kind : Byte) (judge : State → State) : State :=
  let s := s.frameArrived
  if s.link.inHand.isSome = true ∨ s.startUp.phase = .readingConfig then s.replyBusy tag kind
  else judge { s with link := { s.link with inHand := some { tag := tag, kind := kind, work := .judging } } }

/-- Test 2, for kinds other than STATUS and NEWS (R189). -/
def State.inNormal (s : State) (rest : State → State) : State :=
  if s.power.state = .normal then rest s else s.finish .state

/-- Test 3 for a kind admitted in SERVICE alone (R189, R194). -/
def State.inService (s : State) (rest : State → State) : State := if s.service then rest s else s.finish .mode

/-- Test 4: the fields in range, or BAD_FIELD (R189). -/
def State.withFields {α : Type} (s : State) (fields : Option α) (rest : State → α → State) : State :=
  match fields with
  | some x => rest s x
  | none => s.finish .badField

/-- Test 4 for a kind without fields. -/
def State.withForm (s : State) (form : Bool) (rest : State → State) : State :=
  if form then rest s else s.finish .badField

/-- A request kind admitted in both modes (Request kinds). -/
def State.request {α : Type} (s : State) (tag : Tag) (kind : Byte) (fields : Option α) (owner : State → α → State) :
    Host.Outcome State Fault Refusal :=
  s.awake fun s => s.receive tag kind fun s => s.inNormal fun s => s.withFields fields owner

/-- A request kind refused MODE in MAINTENANCE (Request kinds). -/
def State.serviceRequest {α : Type} (s : State) (tag : Tag) (kind : Byte) (fields : Option α) (owner : State → α → State) :
    Host.Outcome State Fault Refusal :=
  s.awake fun s => s.receive tag kind fun s => s.inNormal fun s => s.inService fun s => s.withFields fields owner

/-- The fields of a kind that has none: present when the body has its form. -/
def noFields (form : Bool) : Option Unit := if form then some () else none

/-- A frame arriving while a request is in hand (R190). With none in hand it is not BUSY's to take (log 4). -/
def execBusy (tag : Tag) (kind : Byte) (s : State) : Host.Outcome State Fault Refusal :=
  s.awake fun s =>
    if s.link.inHand.isSome = true ∨ s.startUp.phase = .readingConfig then s.frameArrived.replyBusy tag kind else s

/-- A frame whose kind is no request kind (R189). -/
def execBadKind (tag : Tag) (kind : Byte) (s : State) : Host.Outcome State Fault Refusal :=
  s.awake fun s => if kind ∈ requestKinds then s else s.receive tag kind fun s => s.finish .badKind

/-- Whether a reason to discard a frame holds (R188). -/
def DiscardReasonHolds : DiscardReason → Bool
  | .oversize n => decide (1024 < n)
  | .checkWord => true

/-- A frame discarded: the receiver hunts again (R188). -/
def execHostFrameDiscard (why : DiscardReason) (s : State) : Host.Outcome State Fault Refusal :=
  s.awake fun s => if DiscardReasonHolds why then { s with link := { s.link with receiver := .hunting } } else s

/-- More than 5 ms between two bytes of a frame (R188). -/
def execFrameGap (s : State) : Host.Outcome State Fault Refusal :=
  s.awake fun s => { s with link := { s.link with receiver := .hunting } }

/-- A 0xA5 received while hunting starts a frame; while assembling it is a byte of one (R188). -/
def execStartByte (s : State) : Host.Outcome State Fault Refusal :=
  s.awake fun s => { s with link := { s.link with receiver := .assembling } }

/-- A reply held formed takes the place that has come free (R189). -/
def HostLink.placeFormed (l : HostLink) : HostLink :=
  match l.inHand with
  | some { work := .formed r, .. } => if l.tx.length < 8 then { l with inHand := none, tx := l.tx ++ [r] } else l
  | _ => l

/-- The frame at the head of the transmit list has been sent, whole with its check word (R190, R201). -/
def execReplySent (s : State) : Host.Outcome State Fault Refusal :=
  s.awake fun s =>
    match s.link.tx with
    | r :: rest => { s with link := { s.link with tx := rest, sent := r.bytes }.placeFormed }
    | [] => s

/-! ## STATUS and NEWS (R192, R193) -/

/-- The kind of a job: both halves of a pair are one job (R27). -/
def Job.kind : Job → JobKind
  | .fill _ => .fill
  | .writeBack _ => .writeBack
  | .pair _ | .pairRead _ => .pair
  | .commit => .commit
  | .confWrite _ _ => .confWrite
  | .censusRead _ => .censusRead
  | .journalRead _ => .journalRead
  | .confRead _ => .confRead

/-- What STATUS reports of a line (R193). -/
def State.lineStatus (s : State) (n : Fin 4) : LineStatus :=
  let l := s.lines[n]
  { state := l.state, check := l.check, enumerated := l.enumerated, round := l.round, capture := l.capture,
    entries := (s.entriesOf n).length }

/-- How many slots are in a state. -/
def State.slotsIn (s : State) (x : SlotState) : Nat := s.cache.slots.toList.countP fun y => decide (y.state = x)

/-- The figures of STATUS (R193). The cursor is reported while a census runs, and none else (DESIGN CHOICE, log 29). -/
def State.figures (s : State) : StatusFigures :=
  { maintenance := s.straps.maintenance, running := decide (s.startUp.phase = .running), power := s.power.state
    standalone := s.router.standalone, cause := s.router.cause, since := s.router.since
    seconds := s.clock.seconds, isSet := s.clock.isSet, offset := s.clock.offset, rollover := s.settings.rollover
    day := s.clock.day, faults := s.router.entries.toList, timer := s.router.timer, timerRun := s.router.run
    silence := s.link.silence, nextNotice := s.notices.next, notices := s.notices.items.length, newsLost := s.notices.lost
    lines := (List.finRange 4).map s.lineStatus, census := s.censusMark
    skipped := s.landing.census.skipped.length, muster := s.muster.active, beginStamp := s.muster.beginStamp
    head := s.journal.head, tail := s.journal.tail, next := s.journal.next, untaken := s.journal.untaken
    slots := [s.slotsIn .empty, s.slotsIn .filling, s.slotsIn .clean, s.slotsIn .dirty, s.slotsIn .writing]
    queued := s.port.queue.length, job := s.port.job.map Job.kind, stalling := s.cache.stalling }

/-- STATUS, in every power state (R193). -/
def execStatus (tag : Tag) (form : Bool) (s : State) : Host.Outcome State Fault Refusal :=
  s.awake fun s => s.receive tag 0x01 fun s => s.withForm form fun s => s.finish .done (.status s.figures)

/-- NEWS takes up to 8 notices and clears the news-lost mark (R191, R192). -/
def State.takeNews (s : State) : State :=
  let rest := s.notices.items.drop 8
  ({ s with notices := { s.notices with items := rest, lost := false }, pins := { s.pins with attn := !rest.isEmpty } }).finish
    .done (.news (s.notices.items.take 8) s.notices.lost rest.length)

/-- NEWS, in every power state (R192). -/
def execNews (tag : Tag) (form : Bool) (s : State) : Host.Outcome State Fault Refusal :=
  s.awake fun s => s.receive tag 0x02 fun s => s.withForm form State.takeNews

/-! ## RESTART and FORMAT (R195, R200) -/

/-- RESTART replies DONE and begins the write-out (R200). -/
def State.beginRestart (s : State) : State :=
  let s := s.finish .done
  { s with power := { s.power with restart := true } }.enterEmergency

def execRestart (tag : Tag) (form : Bool) (s : State) : Host.Outcome State Fault Refusal :=
  s.request tag 0x03 (noFields form) fun s _ => s.beginRestart

/-- FORMAT, refused MODE in SERVICE, and STATE while a FLUSH is running (R194, R195). -/
def execFormat (tag : Tag) (form : Bool) (s : State) : Host.Outcome State Fault Refusal :=
  s.awake fun s => s.receive tag 0x04 fun s => s.inNormal fun s =>
    if s.service then s.finish .mode
    else s.withForm form fun s => if s.cache.flush.isSome then s.finish .state else s.startFormat

end Sys2Proof.Machine
end

