-- ==== Sys2Proof/Machine/DayRequests.lean ====
section
/-! DEFINITION. The requests of chapter 1: the clock, the settings, guest records, cards, package plans (R8 to R15, R20, R22). -/
namespace Sys2Proof.Machine

/-- SET_CLOCK (R20). -/
def execSetClock (tag : Tag) (body : Option SetClock) (s : State) : Host.Outcome State Fault Refusal :=
  s.request tag 0x10 (body.bind parseSetClock) State.startConf

/-- SETTINGS_PUT (R22). -/
def execSettingsPut (tag : Tag) (body : Option SettingsPut) (s : State) : Host.Outcome State Fault Refusal :=
  s.request tag 0x11 (body.bind parseSettingsPut) State.startConf

/-- GUEST_GET (R9). -/
def execGuestGet (tag : Tag) (body : Option Nat) (s : State) : Host.Outcome State Fault Refusal :=
  s.request tag 0x20 (body.bind (below 2048)) fun s n => s.startRecord (.guestGet n)

/-- GUEST_PUT (R10). -/
def execGuestPut (tag : Tag) (body : Option GuestPut) (s : State) : Host.Outcome State Fault Refusal :=
  s.request tag 0x21 (body.bind parseGuestPut) fun s x => s.startRecord (.guestPut x.1 x.2)

/-- CARD_ADD (R12). -/
def execCardAdd (tag : Tag) (body : Option CardRef) (s : State) : Host.Outcome State Fault Refusal :=
  s.request tag 0x22 (body.bind parseCardRef) fun s x => s.startRecord (.cardAdd x.1 x.2.1 x.2.2)

/-- CARD_MARK_LOST (R13). -/
def execCardMarkLost (tag : Tag) (body : Option CardRef) (s : State) : Host.Outcome State Fault Refusal :=
  s.request tag 0x23 (body.bind parseCardRef) fun s x => s.startRecord (.cardMarkLost x.1 x.2.1 x.2.2)

/-- CARD_REMOVE (R14). -/
def execCardRemove (tag : Tag) (body : Option CardRef) (s : State) : Host.Outcome State Fault Refusal :=
  s.request tag 0x24 (body.bind parseCardRef) fun s x => s.startRecord (.cardRemove x.1 x.2.1 x.2.2)

/-- PLAN_PUT (R15). -/
def execPlanPut (tag : Tag) (body : Option PlanPut) (s : State) : Host.Outcome State Fault Refusal :=
  s.request tag 0x25 (body.bind parsePlanPut) fun s x => s.startConf (.planPut x.1 x.2)

end Sys2Proof.Machine
end

