-- ==== Sys2Proof/Machine/FaultRequests.lean ====
section
/-! DEFINITION. FLUSH and the requests of the fault router (R43, R182, R183, R186). -/
namespace Sys2Proof.Machine

/-- Whether a slot joins a flush set, and whether one more write of it must pass first: its dirty-again mark is set while a
write-back that is no pair's is in progress (R43). -/
def Slot.flushMember (x : Slot) : Option Bool :=
  match x.state with
  | .dirty => some false
  | .writing => some (x.incoming.isNone && x.dirtyAgain.isSome)
  | _ => none

/-- FLUSH accepted: the set is formed, its write-backs are queued, and an empty set is finished (R43). -/
def State.beginFlush (s : State) : State :=
  let members := (List.finRange 128).filterMap fun i => (s.slot i).flushMember.map fun b => (i, b)
  ({ s with cache := { s.cache with flush := some { members := members, ok := 0, failed := 0 } } }).sweepFlush.flushReview

/-- FLUSH (R43). -/
def execFlush (tag : Tag) (form : Bool) (s : State) : Host.Outcome State Fault Refusal :=
  s.request tag 0x78 (noFields form) fun s _ =>
    if s.cache.flush.isSome then s.finish .state else (s.finish .started).beginFlush

/-- FAULT_PLAN_PUT (R182). -/
def execFaultPlanPut (tag : Tag) (body : Option (List (Nat × Nat))) (s : State) : Host.Outcome State Fault Refusal :=
  s.request tag 0x80 (body.bind parseFaultPlanPut) State.startConf

/-- A source's mark cleared and its count 0 (R183). -/
def FaultEntry.cleared (e : FaultEntry) : FaultEntry := { e with raised := false, count := 0 }

/-- The sources whose condition is present, in the order of the fault sources table (R183, R186; the order is a DESIGN
CHOICE, log 55). -/
def Router.presentSources (r : Router) : List FaultSource := FaultSource.all.filter fun src => (r.entry src).present

/-- FAULT_CLEAR of one source, or of every source whose condition is absent (R183). -/
def State.clearFault (s : State) : Option FaultSource → State
  | some src =>
    if (s.router.entry src).present then s.finish .state (.source src)
    else
      ({ s with router := s.router.setEntry src (s.router.entry src).cleared }.reviewRouter false).finish .done
  | none =>
    ({ s with router := { s.router with entries := s.router.entries.map fun (e : FaultEntry) =>
        if e.present then e else e.cleared } }.reviewRouter false).finish .done (.sources s.router.presentSources)

/-- FAULT_CLEAR (R183). -/
def execFaultClear (tag : Tag) (body : Option Nat) (s : State) : Host.Outcome State Fault Refusal :=
  s.request tag 0x81 (body.bind parseFaultClear) State.clearFault

/-- The sources that keep the part in standalone service (R186). -/
def Router.standaloneSources (r : Router) : List FaultSource :=
  r.presentSources.filter fun src => (r.entry src).plan.standalone

/-- The router after RESUME: ONLINE, and a timer that is not RUNNING starts from 0 while its set is not empty (R186). -/
def Router.resumed (r : Router) : Router :=
  if r.escalationSet.isEmpty ∨ r.timer = .running then { r with standalone := false }
  else { r with standalone := false, timer := .running, run := 0 }

/-- RESUME (R186). -/
def State.resume (s : State) : State :=
  if s.router.standalone = false then s.finish .state
  else if s.router.standaloneSources.isEmpty then { s with router := s.router.resumed }.finish .done
  else s.finish .state (.sources s.router.standaloneSources)

def execResume (tag : Tag) (form : Bool) (s : State) : Host.Outcome State Fault Refusal :=
  s.request tag 0x82 (noFields form) fun s _ => s.resume

end Sys2Proof.Machine
end

