-- ==== Sys2Proof/Machine/FolioRequests.lean ====
section
/-! DEFINITION. The requests of the folio and journal unit (R134, R136 to R138). -/
namespace Sys2Proof.Machine

/-- FOLIO_GET (R136). -/
def execFolioGet (tag : Tag) (body : Option Nat) (s : State) : Host.Outcome State Fault Refusal :=
  s.request tag 0x30 (body.bind (below 1024)) fun s n => s.startRecord (.folioGet n)

/-- FOLIO_PUT (R137). -/
def execFolioPut (tag : Tag) (body : Option FolioPut) (s : State) : Host.Outcome State Fault Refusal :=
  s.request tag 0x31 (body.bind parseFolioPut) State.startRecord

/-- FOLIO_SETTLE (R138). -/
def execFolioSettle (tag : Tag) (body : Option FolioSettle) (s : State) : Host.Outcome State Fault Refusal :=
  s.request tag 0x32 (body.bind parseFolioSettle) State.startRecord

/-- TAKE_POSTINGS (R134). -/
def execTakePostings (tag : Tag) (body : Option Nat) (s : State) : Host.Outcome State Fault Refusal :=
  s.request tag 0x33 (body.bind parseTake) State.startTake

end Sys2Proof.Machine
end

