-- ==== Sys2Proof/Machine/Jobs.lean ====
section
/-! DEFINITION. The ends of the memory jobs (R24, R25, R30, R35, R36, R39, R128 to R130, R134, R158 to R162, R195, R197). -/
namespace Sys2Proof.Machine

/-! ## What every job's end reports (R25, R30) -/

/-- The port's report at a job's end, before its requester is told: a job the silent memory cut has reported already;
any other found the memory ready, and passed or failed its checks. -/
def State.report (s : State) (ok : Bool) : State :=
  if s.port.silent then s
  else
    let s := s.endCondition .memSilent
    if ok then s.endCondition .memCheck else s.beginCondition .memCheck

/-- The silence came in the second half of a commit, whose posting is then written (R30). -/
def State.silentInMarks (s : State) (secondHalf : Bool) : Bool := secondHalf && decide (s.port.job = some .commit)

/-- The memory a job leaves when it finds the memory silent: the posting of a commit whose first half had passed, and
otherwise what it held (R21, R30, R39; log 9). -/
def State.silentMemory (s : State) (secondHalf : Bool) : Memory :=
  match s.silentInMarks secondHalf, s.jobAddress with
  | true, some a => s.mem.writeBlock a s.port.data
  | _, _ => s.mem

/-- The memory has been silent for 50 ms: the transfer fails and MEM_SILENT begins (R25). The job's own end follows as the
event of its kind (log 33). The ready poll before a write whose own end poll is silent does not end the condition; a commit's
passed first half does, and it begins again (DESIGN CHOICE, log 45). -/
def execMemSilent (secondHalf : Bool) (s : State) : Host.Outcome State Fault Refusal :=
  s.awake fun s =>
    if s.port.job.isSome = true ∧ s.port.silent = false then
      let t := { s with mem := s.silentMemory secondHalf, port := { s.port with silent := true } }
      (if s.silentInMarks secondHalf then t.endCondition .memSilent else t).beginCondition .memSilent
    else s

/-! ## Fills (R36) -/

/-- The record a block holds: none on a check failure or a content fault (R24, R202). -/
def Rec.ofBlock (k : RecKey) (bs : List Byte) : Option Rec := do
  let content ← openBlock bs
  match k with
  | .guest _ => (guestOfBytes content).map .guest
  | .folio _ => (folioOfBytes content).map .folio

/-- The record a read of the job in progress brings: none when it fails. -/
def State.readRecord (s : State) (k : RecKey) (r : ReadResult) : Option Rec :=
  match s.port.silent, r with
  | false, .good => Rec.ofBlock k (s.mem.readBlock (recordAddress k) (recordSize k))
  | _, _ => none

/-- A waiter is given a good completion: a host request proceeds, an offer waits for its repeat (R36). -/
def State.serveWaiter (s : State) (i : Fin 128) (k : RecKey) : Waiter → State
  | .reader _ _ _ _ _ => s
  | .host =>
    match s.work with
    | some (.record req) => if req.key = k then s.applyRecord req i else s
    | _ => s

/-- The end of a read into slot i: CLEAN with the record, or EMPTY with every waiter failed (R36). A slot that FORMAT has
discarded meanwhile takes nothing. -/
def State.fillDone (s : State) (i : Fin 128) (r : ReadResult) : State :=
  let x := s.slot i
  let got := s.port.record.bind fun k => s.readRecord k r
  let s := s.report got.isSome
  match x.state, x.key, got with
  | .filling, some k, some v =>
    x.waiters.foldl (fun s w => s.serveWaiter i k w) (s.setSlot i { x with state := .clean, content := some v, waiters := [] })
  | .filling, some _, none => x.waiters.foldl State.failWaiter (s.setSlot i Slot.blank)
  | _, _, _ => s

/-- A fill, or the read half of a pair, ends (R36). -/
def execFill (r : ReadResult) (s : State) : Host.Outcome State Fault Refusal :=
  s.awake fun s =>
    match s.port.job with
    | some (.fill i) | some (.pairRead i) => (s.fillDone i r).jobOver
    | _ => s

/-! ## Write-backs and pairs (R35, R39) -/

/-- The end of a write-back of slot i (R39, R43, R45). -/
def State.writeBackDone (s : State) (i : Fin 128) (w : WriteResult) : State :=
  let (m, ok) := s.writeBlocked w
  let s := { s with mem := m }.report ok
  let s := if (s.slot i).state = .writing then s.setSlot i ((s.slot i).written ok s.now) else s
  s.flushCompleted i ok

/-- A write-back ends. -/
def execWriteBack (w : WriteResult) (s : State) : Host.Outcome State Fault Refusal :=
  s.awake fun s =>
    match s.port.job with
    | some (.writeBack i) => (s.writeBackDone i w).jobOver
    | _ => s

/-- The slot that keeps a pair's victim: no incoming record, its waiters and the holds placed for it gone (R35). -/
def Slot.keepVictim (x : Slot) (ok : Bool) (now : Nat) : Slot :=
  let y := x.written ok now
  { y with incoming := none, waiters := [], holds := y.holds.filter fun h => decide (x.key = some h.key) }

/-- The holds placed for a record. -/
def Slot.holdsFor (x : Slot) (k : RecKey) : List Hold := x.holds.filter fun h => decide (h.key = k)

/-- A miss is started again for the waiters of a pair that gave its slot up, their holds moving with it (R35). When it
cannot start, the host request asks again later and the offers do at their repeats (R34; logs 21, 22). -/
def State.restartMiss (s : State) (k : RecKey) (ws : List Waiter) (hs : List Hold) : State :=
  if s.power.state ≠ .normal then s
  else
    match s.claim k ws, s.claimable with
    | some t, some j => t.setSlot j { t.slot j with holds := hs }
    | _, _ => if .host ∈ ws then s.missStuck.awaitPlace .handMiss else s.missStuck

/-- Whether nothing stands in the way of discarding a pair's victim (R35). -/
def Slot.mayGo (x : Slot) : Bool :=
  x.dirtyAgain.isNone && decide (x.commitPending = 0) && !(x.holds.any fun h => decide (x.key = some h.key))

/-- The write half of a pair has passed and the victim goes: the slot fills with the incoming record, and the port reads
it (R35). -/
def State.pairSecond (s : State) (i : Fin 128) (k : RecKey) : State :=
  let x := s.slot i
  let s := (s.setSlot i { Slot.blank with state := .filling, key := some k, waiters := x.waiters, holds := x.holds }).endCondition
    .memSilent
  ({ s with port := { s.port with job := some (.pairRead i), record := some k, data := [] } }).flushCompleted i true

/-- The end of a pair's write half (R35). -/
def State.pairDone (s : State) (i : Fin 128) (k : RecKey) (w : WriteResult) : State :=
  let (m, ok) := s.writeBlocked w
  let s := { s with mem := m }
  let x := s.slot i
  if ok = true ∧ x.mayGo = true then s.pairSecond i k
  else
    let s := ((s.report ok).setSlot i (x.keepVictim ok s.now)).flushCompleted i ok
    (if ok then s.restartMiss k x.waiters (x.holdsFor k) else x.waiters.foldl State.failWaiter s).jobOver

/-- The write half of a dirty-miss pair ends. A pair whose slot FORMAT has discarded ends as its write did. -/
def execDirtyMissPair (w : WriteResult) (s : State) : Host.Outcome State Fault Refusal :=
  s.awake fun s =>
    match s.port.job with
    | some (.pair i) =>
      match (s.slot i).incoming with
      | some k => s.pairDone i k w
      | none => (let (m, ok) := s.writeBlocked w; { s with mem := m }.report ok).jobOver
    | _ => s

/-! ## Commits (R128 to R130) -/

/-- The ACCEPT of a committed sale (R121). -/
def CommitEntry.accepted (c : CommitEntry) : Verdict :=
  mkVerdict .accept .none (.accept c.total c.covered c.remaining c.flags c.serial)

/-- VERDICT_UNDELIVERED of a committed sale whose offer is no longer its reader's (R57, R65, R130). -/
def State.saleUndelivered (s : State) (c : CommitEntry) (cause : UndeliveredCause) : State :=
  s.notify (.verdictUndelivered c.line c.drop c.readerSerial c.seq .accept .none (some c.serial) 0 cause)

/-- Makes a verdict remembered and the offer DECIDED, with another outgoing (R60). -/
def State.rememberAs (s : State) (line : Fin 4) (drop : Nat) (v : Verdict) : State :=
  s.modEntry line drop fun e => { e with disposition := .decided, remembered := some v }

/-- What a successful commit leaves at the till (R130). -/
def State.settleAccepted (s : State) (c : CommitEntry) : State :=
  match c.reader with
  | .superseded => s.saleUndelivered c .superseded
  | .gone => s.saleUndelivered c .removed
  | .current =>
    match s.entryAt c.line c.drop with
    | none => s
    | some e =>
      if e.disposition = .cancelAsked then
        (s.rememberAs c.line c.drop c.accepted).makeOutgoing c.line c.drop c.seq
          (mkVerdict .tooLate .none (.late (some c.serial)))
      else s.giveFinal c.line c.drop c.seq c.accepted

/-- What a failed commit leaves at the till (R130). -/
def State.settleFailed (s : State) (c : CommitEntry) : State :=
  match c.reader with
  | .superseded | .gone => s
  | .current =>
    match s.entryAt c.line c.drop with
    | none => s
    | some e =>
      if e.disposition = .cancelAsked then s.giveFinal c.line c.drop c.seq (mkVerdict .cancelled)
      else s.giveFinal c.line c.drop c.seq (denial .bar .recordFault)

/-- Changes a cached folio or guest record of a sale. -/
def State.changeFolio (s : State) (n : Fin 1024) (f : Folio → Folio) : State :=
  match s.find (.folio n) with
  | .hit j => match (s.slot j).content with
    | some (.folio x) => s.change j (.folio (f x))
    | _ => s
  | _ => s
def State.changeGuest (s : State) (n : Fin 2048) (f : Guest → Guest) : State :=
  match s.find (.guest n) with
  | .hit i => match (s.slot i).content with
    | some (.guest x) => s.change i (.guest (f x))
    | _ => s
  | _ => s

/-- Both slots of a sale lose one pending commit (R40). -/
def State.releasePending (s : State) (c : CommitEntry) : State :=
  (s.modPending (.guest c.guest) (· - 1)).modPending (.folio c.folio) (· - 1)

/-- A commit has succeeded (R128). -/
def State.commitDone (s : State) (c : CommitEntry) (rest : List CommitEntry) : State :=
  let s := { s with journal := { s.journal with tail := c.serial + 1, commits := rest } }
  ((s.releasePending c).changeFolio c.folio fun f => { f with lastSerial := some c.serial }).settleAccepted c

/-- A commit has failed: the sale is reversed and the later ones are renumbered (R129). The folio's slot is changed first,
so the guest's ends the most recent (DESIGN CHOICE, log 46). -/
def State.commitFailed (s : State) (c : CommitEntry) (rest : List CommitEntry) : State :=
  let s := { s with journal := { s.journal with
    next := s.journal.next - 1, commits := rest.map fun (d : CommitEntry) => { d with serial := d.serial - 1 } } }
  let s := (s.changeFolio c.folio fun f => f.reversed c.total).changeGuest c.guest fun g => g.reversed c.day c.covered
  ((s.releasePending c).settleFailed c).journalReview

/-- The two halves of a commit, the second made only when the first has passed (R27, R30). -/
def State.commitBlocks (s : State) (posting marks : WriteResult) : Memory × Bool :=
  match s.writeBlocked posting with
  | (m, true) => m.writeChecked ConfBlock.journalMarks.address s.commitMarks marks
  | (m, false) => (m, false)

/-- A commit ends (R128, R129). -/
def execCommit (posting marks : WriteResult) (s : State) : Host.Outcome State Fault Refusal :=
  s.awake fun s =>
    match s.port.job, s.journal.commits with
    | some .commit, c :: rest =>
      let (m, ok) := s.commitBlocks posting marks
      let s := { s with mem := m }.report ok
      (if ok then s.commitDone c rest else s.commitFailed c rest).jobOver
    | _, _ => s

/-! ## Configuration writes (R21) -/

/-- The owner of a configuration write is told how it ended (R21, R45, R195). -/
def State.confWritten (s : State) (t : WriteTarget) (ok : Bool) : WriteOwner → State
  | .hand =>
    match s.work with
    | some .confWrite => s.finish (if ok then .done else .memoryFault)
    | _ => s
  | .unit => s
  | .format => s.formatWritten t ok
  | .flush => { s with power := { s.power with marks := s.power.marks.map (· - 1) } }

/-- A configuration write ends (R21). -/
def execConfigurationWrite (w : WriteResult) (s : State) : Host.Outcome State Fault Refusal :=
  s.awake fun s =>
    match s.port.job with
    | some (.confWrite t owner) =>
      let (m, ok) := s.writeBlocked w
      (({ s with mem := m }.report ok).confWritten t ok owner).jobOver
    | _ => s

/-! ## Census reads (R158 to R162) -/

/-- The guest record a census read brings from memory: none when it fails (R27, R161). -/
def State.readGuest (s : State) (n : Fin 2048) (r : ReadResult) : Option Guest :=
  match s.readRecord (.guest n) r with
  | some (.guest g) => some g
  | _ => none

/-- A census read from memory ends: the port reports, and the record is counted or skipped (R158, R159, R161). -/
def execCensusRead (r : ReadResult) (s : State) : Host.Outcome State Fault Refusal :=
  s.awake fun s =>
    match s.port.job with
    | some (.censusRead n) => ((s.report (s.readGuest n r).isSome).censusTaken n (s.readGuest n r)).jobOver
    | _ => s

/-! ## Journal reads (R134) -/

/-- What a journal read brings: whether its check passed, and the posting when it is whole and of this serial (R134, R202). -/
def State.readPosting (s : State) (serial : PostSerial) (r : ReadResult) : Bool × Option Posting :=
  match s.port.silent, r with
  | false, .good =>
    match openBlock (s.mem.readBlock (journalAddress serial) 32) with
    | none => (false, none)
    | some bs =>
      match postingOfBytes bs with
      | some p => (true, if p.serial = serial then some p else none)
      | none => (true, none)
  | _, _ => (false, none)

/-- A journal read ends (R134; logs 23, 24). -/
def execJournalRead (r : ReadResult) (s : State) : Host.Outcome State Fault Refusal :=
  s.awake fun s =>
    match s.port.job with
    | some (.journalRead serial) =>
      let (ok, p) := s.readPosting serial r
      let silent := s.port.silent
      let s := s.report ok
      (match s.work with
       | some (.postings run) =>
         (s.setWork (.postings
           { run with read := run.read ++ [PostingRead.mk serial p], silent := run.silent || silent })).takeReview
       | _ => s).jobOver
    | _ => s

/-! ## Configuration reads and the start of service (R197 to R199) -/

/-- Loads one binding slot; a serial that a lower slot already holds is taken as empty (R77). -/
def State.loadBinding (s : State) (i : Fin 192) (x : Option Binding) : State :=
  let x := match x with
    | none => none
    | some b => match s.bindingSlot b.serial with
      | some j => if j < i then none else some b
      | none => some b
  { s with bindings := s.bindings.set i x }

/-- Loads a block of bindings. -/
def State.loadBindings (s : State) (b : Fin 12) (xs : List (Option Binding)) : State :=
  (List.finRange 16).foldl (fun s i => s.loadBinding ⟨16 * b.val + i.val, by omega⟩ (xs.getD i.val none)) s

/-- Loads the sites and the lane map, the counts as they stand (R144). -/
def State.loadSites (s : State) (sites : List Site) (lanes : List (Option (Fin 4))) : State :=
  { s with landing := { s.landing with
      sites := Vector.ofFn fun (t : Fin 4) => ({ sites.getD t.val Site.blank with count := s.landing.sites[t].count } : Site)
      lanes := Vector.ofFn fun (l : Fin 4) => lanes.getD l.val none } }

/-- Loads the fault plans. -/
def State.loadPlans (s : State) (ps : List FaultPlan) : State :=
  { s with router := { s.router with
      entries := Vector.ofFn fun (i : Fin 16) => ({ s.router.entries[i] with plan := ps.getD i.val FaultPlan.defaults[i] } : FaultEntry) } }

/-- Loads the journal marks: the next serial is the tail, and the untaken count is evaluated (R125, R131, R133). -/
def State.loadMarks (s : State) (head tail : PostSerial) : State :=
  { s with journal := { s.journal with head := head, tail := tail, next := tail } }.journalReview

/-- Loads a clock mark (R19). -/
def State.loadClock (s : State) (seconds day : Nat) (offset : Int) : State :=
  { s with clock := { s.clock with seconds := seconds, day := day, offset := offset } }

/-- Loads a configuration block's content, or answers none on a content fault (R197, R202). -/
def State.loadBlock (s : State) (b : ConfBlock) (bs : List Byte) : Option State :=
  match b with
  | .settings => (settingsOfBytes bs).map fun v => { s with settings := v }
  | .faultPlan => (faultPlanOfBytes bs).map s.loadPlans
  | .bindings b => (bindingsOfBytes bs).map (s.loadBindings b)
  | .profile p => (profileOfBytes bs).map fun v => { s with profiles := s.profiles.set p v }
  | .plan p => (planOfBytes bs).map fun v => { s with plans := s.plans.set p v }
  | .sites => (sitesOfBytes bs).map fun v => s.loadSites v.1 v.2
  | .muster => (musterOfBytes bs).map fun v => { s with muster := { s.muster with active := v.1, beginStamp := v.2 } }
  | .journalMarks => (marksOfBytes bs).map fun v => s.loadMarks v.1 v.2
  | .clockMark => (clockOfBytes bs).map fun v => s.loadClock v.1 v.2.1 v.2.2

/-- Loads a block's FORMAT values and counts it (R197, R198). -/
def State.loadFormat (s : State) (b : ConfBlock) : State :=
  let s := { s with startUp := { s.startUp with defaulted := s.startUp.defaulted + 1 } }
  match b with
  | .settings => { s with settings := Settings.blank }
  | .faultPlan => s.loadPlans FaultPlan.defaults.toList
  | .bindings b => s.loadBindings b []
  | .profile p => { s with profiles := s.profiles.set p Profile.blank }
  | .plan p => { s with plans := s.plans.set p Plan.blank }
  | .sites => s.loadSites [] []
  | .muster => { s with muster := { s.muster with active := false, beginStamp := 0 } }
  | .journalMarks => s.loadMarks 1 1
  | .clockMark => s.loadClock 0 0 0

/-- The content of the block the configuration read in progress brings: none on a failure. -/
def State.readConf (s : State) (b : ConfBlock) (r : ReadResult) : Option (List Byte) :=
  match s.port.silent, r with
  | false, .good => openBlock (s.mem.readBlock b.address (b.size + 2))
  | _, _ => none

/-- Each line's bring-up begins by a check (R73, R198). -/
def State.beginBringUps (s : State) : State :=
  { s with lines := s.lines.map fun (l : Line) => { l with ops := [.check .startUp] } }

/-- The end of start-up in MAINTENANCE (R199). -/
def State.maintenanceUp (s : State) : State :=
  { s with startUp := { s.startUp with phase := .running } }.notify
    (.startUpDone true (List.replicate 4 (some (.isolated none))) none s.startUp.defaulted s.journal.untaken s.muster.active)

/-- The configuration area has been read: the router acts on what has begun, a present power warning acts, and the
census and the bring-ups begin, or start-up ends (R174, R197 to R199). -/
def State.startService (s : State) : State :=
  let begun := s.router.deferred
  let s := { s with startUp := { s.startUp with phase := .bringingUp }, router := { s.router with deferred := [] } }
  let s := (begun.foldl State.actOn s).refreshFault
  let s := if s.pins.pwrwarn then s.enterEmergency else s
  if s.service then s.beginBringUps.beginCensus .startUp else s.maintenanceUp

/-- After a block: the next read is queued, or service starts. -/
def State.afterBlock (s : State) (k : Fin 49) : State :=
  if h : k.val < 48 then s.setQueue (s.port.queue ++ [Job.confRead ⟨k.val + 1, by omega⟩]) else s.startService

/-- A configuration read of start-up ends: the block is loaded, or its FORMAT values are (R197). -/
def execConfigurationRead (r : ReadResult) (s : State) : Host.Outcome State Fault Refusal :=
  s.awake fun s =>
    match s.startUp.phase, s.port.job with
    | .readingConfig, some (.confRead k) =>
      let b := ConfBlock.ofNumber k
      match (s.readConf b r).bind (s.loadBlock b) with
      | some t => ((t.report true).afterBlock k).jobOver
      | none => (((s.loadFormat b).report false).afterBlock k).jobOver
    | _, _ => s

end Sys2Proof.Machine
end

