-- ==== Sys2Proof/Machine/LandingRequests.lean ====
section
/-! DEFINITION. The requests of the landing unit (R145 to R147, R153 to R157). -/
namespace Sys2Proof.Machine

/-- PRESENCE_SET (R153). -/
def execPresenceSet (tag : Tag) (body : Option PresenceSet) (s : State) : Host.Outcome State Fault Refusal :=
  s.request tag 0x60 (body.bind parsePresenceSet) State.startRecord

/-- The lanes mapped to a site (R154), in ascending number (DESIGN CHOICE, log 55). -/
def State.lanesOf (s : State) (t : Fin 4) : List (Fin 4) :=
  (List.finRange 4).filter fun l => decide (s.landing.lanes[l] = some t)

/-- A site as TALLY_GET reports it (R154). -/
def State.siteFigures (s : State) (t : Fin 4) : SiteFigures :=
  let x := s.landing.sites[t]
  { state := x.state, deadline := x.deadline, count := x.count, lanes := s.lanesOf t }

/-- TALLY_GET's answer (R154). -/
def State.tallyAnswer (s : State) : ReplyBody :=
  .tally s.landing.aboardGuest s.landing.aboardCrew s.landing.ashoreGuest s.landing.ashoreCrew
    ((List.finRange 4).map s.siteFigures) s.landing.stations.toList s.landing.roster.length s.censusMark
    s.landing.census.skipped.length

/-- TALLY_GET (R154). -/
def execTallyGet (tag : Tag) (form : Bool) (s : State) : Host.Outcome State Fault Refusal :=
  s.serviceRequest tag 0x61 (noFields form) fun s _ => s.finish .done s.tallyAnswer

/-- ROSTER_GET (R155). -/
def execRosterGet (tag : Tag) (body : Option Nat) (s : State) : Host.Outcome State Fault Refusal :=
  s.serviceRequest tag 0x62 (body.bind parseStart) fun s start =>
    s.finish .done (.roster ((s.landing.roster.drop start).take 64) s.landing.roster.length s.censusMark)

/-- SITE_OPEN (R145). -/
def execSiteOpen (tag : Tag) (body : Option SiteOpen) (s : State) : Host.Outcome State Fault Refusal :=
  s.serviceRequest tag 0x63 (body.bind parseSiteOpen) State.startConf

/-- SITE_LASTCALL (R146). -/
def execSiteLastCall (tag : Tag) (body : Option SiteLastCall) (s : State) : Host.Outcome State Fault Refusal :=
  s.serviceRequest tag 0x64 (body.bind parseSiteLastCall) State.startConf

/-- SITE_CLOSE (R147). -/
def execSiteClose (tag : Tag) (body : Option Nat) (s : State) : Host.Outcome State Fault Refusal :=
  s.serviceRequest tag 0x65 (body.bind parseSiteClose) State.startConf

/-- CENSUS: refused during a muster or another census; else STARTED (R157). -/
def State.askCensus (s : State) : State :=
  if s.muster.active = true ∨ s.landing.census.running = true then s.finish .state
  else State.censusRun 2048 ((s.finish .started).beginCensus .request)

/-- CENSUS (R157). -/
def execCensus (tag : Tag) (form : Bool) (s : State) : Host.Outcome State Fault Refusal :=
  s.serviceRequest tag 0x66 (noFields form) fun s _ => s.askCensus

end Sys2Proof.Machine
end

