-- ==== Sys2Proof/Machine/Turns.lean ====
section
/-! DEFINITION. Turns, rounds and answers on a deck line (R48 to R64). -/
namespace Sys2Proof.Machine

/-! ## Rounds (R51, R55) -/

/-- Whether an entry is given a turn in a round (R51). -/
def Entry.qualifies (e : Entry) (round : BitVec 16) : Bool :=
  match e.poll with
  | .fast => true
  | .slow => e.outgoing.isSome || decide (round.toNat % 4 = 0)
  | .lost => decide (round.toNat % 32 = 0)

/-- The entry of the next round turn: the first above the last drop that qualifies (R51). -/
def State.nextRound (s : State) (n : Fin 4) : Option Entry :=
  (s.entriesOf n).find? fun e => decide (s.lines[n].lastDrop < e.drop) && e.qualifies s.lines[n].round

/-- Whether an entry on the priority turn list still takes its turn: not LOST, its verdict outgoing (R52). -/
def State.owedTurn (s : State) (n : Fin 4) (drop : Nat) : Bool :=
  match s.entryAt n drop with
  | some e => decide (e.poll ≠ .lost) && e.outgoing.isSome
  | none => false

/-- The priority turn list without the heads that take no turn (R52). -/
def State.livePriority (s : State) (n : Fin 4) : List Nat := s.lines[n].priority.dropWhile fun d => !s.owedTurn n d

/-- The round completes: its period is captured and compared with the round limit, in microseconds, and its number rises
(R51, R55; log 7). What is left on the priority turn list takes no turn and goes (R52). -/
def State.completeRound (s : State) (n : Fin 4) : State :=
  let capture := if s.lines[n].roundBegun then s.lines[n].roundTime else 0
  (s.modLine n fun l =>
      { l with
        round := l.round + 1, capture := capture, priority := [], lastDrop := 0, roundBegun := false, roundTime := 0 }).setCondition
    (.lineSlow n) (decide (1000 * s.settings.roundLimit < capture))

/-- After a turn: a round with no turn left, no priority turn owed, is complete (R51, R52; log 11). -/
def State.roundReview (s : State) (n : Fin 4) : State :=
  if s.lines[n].state = .serving ∧ s.lines[n].roundBegun = true ∧ (s.livePriority n).isEmpty = true ∧ (s.nextRound n).isNone = true then
    s.completeRound n
  else s

/-- What a line gives up when it leaves SERVING: the round in progress, the priority turn list, the garble run, the
capture, and LINEn_SLOW's condition (R51, R52, R54, R55). -/
def State.leaveServing (s : State) (n : Fin 4) : State :=
  (s.modLine n fun l =>
      { l with priority := [], garbleRun := 0, capture := 0, roundBegun := false, lastDrop := 0, roundTime := 0 }).endCondition
    (.lineSlow n)

/-! ## The start of a turn -/

/-- An entry whose QUIET_COUNT or READER_LOST is due (R53). -/
def Entry.pollDue (e : Entry) : Bool :=
  (decide (e.poll = .fast) && decide (64 ≤ e.quiet)) || (decide (e.poll ≠ .lost) && decide (3 ≤ e.silent))

/-- Whether a turn of a round may start: SERVING, no turn in progress, and nothing that the end of the last turn brings
about still to act (R48, R50, R53, R54). -/
def State.mayCall (s : State) (n : Fin 4) : Bool :=
  decide (s.lines[n].state = .serving) && s.lines[n].turn.isNone && s.lines[n].ops.isEmpty && s.lines[n].isolating.isNone
  && decide (s.lines[n].garbleRun < 8) && !((s.entriesOf n).any Entry.pollDue)

/-- A round turn of an entry begins with a frame; the gap since the last turn falls within a round that has begun (R55). What is left on the priority turn list takes no turn and goes (R52). -/
def State.beginRoundTurn (s : State) (n : Fin 4) (gap drop : Nat) (f : DeckFrame) : State :=
  s.modLine n fun l =>
    { l with
      turn := some f, sent := some f, priority := [], lastDrop := drop, roundBegun := true
      roundTime := if l.roundBegun then l.roundTime + gap else 0 }

/-- A priority turn begins: the entry leaves the head of the list (R52). -/
def State.beginPriorityTurn (s : State) (n : Fin 4) (gap : Nat) (rest : List Nat) (f : DeckFrame) : State :=
  s.modLine n fun l =>
    { l with
      turn := some f, sent := some f, priority := rest
      roundTime := if l.roundBegun then l.roundTime + gap else 0 }

/-- The VERDICT frame of an entry's outgoing verdict, when it has one (R61). -/
def Entry.verdictFrame (e : Entry) : Option DeckFrame := e.outgoing.map fun o => .verdict e.drop o.seq o.verdict

/-- A VERDICT frame sent adds one to its verdict's delivery count (R61). -/
def State.countDelivery (s : State) (n : Fin 4) (drop : Nat) : State :=
  s.modEntry n drop fun e => { e with outgoing := e.outgoing.map fun o => { o with deliveries := o.deliveries + 1 } }

/-- A round turn by CALL, to an entry with no verdict outgoing; a round in which no entry is left completes (R51; log 11). -/
def execCall (n : Fin 4) (gap : Nat) (s : State) : Host.Outcome State Fault Refusal :=
  s.awake fun s =>
    if s.mayCall n = true ∧ (s.livePriority n).isEmpty = true then
      match s.nextRound n with
      | none => s.completeRound n
      | some e => if e.outgoing.isNone then s.beginRoundTurn n gap e.drop (.call e.drop) else s
    else s

/-- A priority or round turn by VERDICT (R52, R61). -/
def execVerdict (n : Fin 4) (gap : Nat) (s : State) : Host.Outcome State Fault Refusal :=
  s.awake fun s =>
    if s.mayCall n then
      match s.livePriority n with
      | d :: rest =>
        match (s.entryAt n d).bind Entry.verdictFrame with
        | some f => (s.countDelivery n d).beginPriorityTurn n gap rest f
        | none => s
      | [] =>
        match s.nextRound n with
        | none => s
        | some e =>
          match e.verdictFrame with
          | some f => (s.countDelivery n e.drop).beginRoundTurn n gap e.drop f
          | none => s
    else s

/-! ## The end of a turn -/

/-- The drop a frame is addressed to, and whether it is a turn of a round: CALL and VERDICT. -/
def DeckFrame.called : DeckFrame → Option Nat
  | .call d => some d
  | .verdict d _ _ => some d
  | .assign _ | .dropAll | .probe => none

/-- The turn ends, its duration falling within a round that has begun (R48, R55). -/
def State.closeTurn (s : State) (n : Fin 4) (dur : Nat) : State :=
  s.modLine n fun l => { l with turn := none, roundTime := if l.roundBegun then l.roundTime + dur else 0 }

/-- The kinds of good answer a round turn may draw (R53). -/
inductive GoodKind where | idle | presented | receipt
  deriving DecidableEq, Repr

/-- An entry after a good answer (R53; log 12). -/
def Entry.answered (e : Entry) (k : GoodKind) : Entry :=
  match k with
  | .idle =>
    match e.poll with
    | .fast => { e with quiet := e.quiet + 1, silent := 0 }
    | .slow => { e with quiet := 0, silent := 0 }
    | .lost => { e with poll := .fast, quiet := 0, silent := 0 }
  | .presented => { e with poll := .fast, quiet := 0, silent := 0 }
  | .receipt => { e with poll := if e.poll = .lost then .fast else e.poll, quiet := 0, silent := 0 }

/-- A good answer's marks on its entry and line: the garble run is 0, and a LOST entry is back (R53, R54). -/
def State.goodAnswer (s : State) (n : Fin 4) (e : Entry) (k : GoodKind) : State :=
  let s := (s.modLine n fun l => { l with garbleRun := 0 }).modEntry n e.drop fun e => e.answered k
  if e.poll = .lost then s.notify (.readerBack n e.drop e.serial) else s

/-- A turn that ended in silence or garble (R53, R54). -/
def State.badAnswer (s : State) (n : Fin 4) (drop : Nat) (garbled : Bool) : State :=
  (s.modLine n fun l => { l with garbleRun := l.garbleRun + garbled.toNat }).modEntry n drop fun e =>
    { e with silent := e.silent + 1 }

/-- A round turn that drew no good answer. -/
def State.badTurn (s : State) (n : Fin 4) (dur drop : Nat) (garbled : Bool) : State :=
  ((s.closeTurn n dur).badAnswer n drop garbled).roundReview n

/-! ## Offers (R56 to R58) -/

/-- A sale offer on the commit list whose reader entry's current offer it is, is marked otherwise (R57, R65). One that was
superseded stays so when its entry is removed (DESIGN CHOICE, log 49). -/
def State.markCommits (s : State) (n : Fin 4) (drop : Nat) (r : CommitReader) : State :=
  { s with journal := { s.journal with commits := s.journal.commits.map fun (c : CommitEntry) =>
      if c.line = n ∧ c.drop = drop ∧ c.reader = .current then { c with reader := r } else c } }

/-- What becomes of the earlier offer when a new one arrives (R57). -/
def State.supersede (s : State) (e : Entry) : State :=
  ((s.dropOutgoing e .superseded).markCommits e.line e.drop .superseded).prune e.line e.drop []

/-- Hands an offer to its owner, or defers it while the power state is not NORMAL (R44, R56). -/
def State.handOffer (s : State) (e : Entry) (seq : Byte) (card : CardId) (lines : List SaleLine) : State :=
  if s.power.state = .normal then s.ownerDecide e seq card lines else s.defer e.line e.drop seq

/-- A new offer (R56, R57). -/
def State.newOffer (s : State) (e : Entry) (seq : Byte) (card : CardId) (lines : List SaleLine) : State :=
  ((s.supersede e).modEntry e.line e.drop fun e =>
    { e with lastSeq := some seq, disposition := .deferred, remembered := none }).handOffer e seq card lines

/-- A repeat is answered from the offer memory (R58). -/
def State.repeatOffer (s : State) (e : Entry) (seq : Byte) (card : CardId) (lines : List SaleLine) : State :=
  match e.disposition with
  | .deferred => s.handOffer e seq card lines
  | .committing | .cancelAsked => if e.outgoing.isNone then s.defer e.line e.drop seq else s
  | .decided =>
    match e.remembered with
    | some v => s.makeOutgoing e.line e.drop seq v
    | none => s
  | .nothing => s

/-- An OFFER judged new or a repeat (R56, R58). -/
def State.offered (s : State) (e : Entry) (seq : Byte) (card : CardId) (lines : List SaleLine) : State :=
  if e.lastSeq = some seq then s.repeatOffer e seq card lines else s.newOffer e seq card lines

/-- Whether an OFFER has its reader kind's form: sale lines from a till and from no other (R49, R202). -/
def offerForm (k : ReaderKind) (lines : Option (List SaleLine)) : Bool := lines.isSome == decide (k = .bar)

/-! ## Cancels (R60) -/

/-- The posting serial of a remembered accepted sale. -/
def rememberedSerial (v : Verdict) : Option PostSerial := if v.kind = .accept then v.posting else none

/-- What answers the CANCEL of a DECIDED offer with verdict v remembered (R60): CANCELLED again, or TOO_LATE with the posting
serial of an accepted sale. A sale refused RECORD_FAULT when its commit failed is no exception: R130 leaves the answer to R60
(DEDUCED, log 40). -/
def cancelAnswer (v : Verdict) : Verdict :=
  if v.kind = .cancelled then v else mkVerdict .tooLate .none (.late (rememberedSerial v))

/-- A CANCEL (R60). The remembered verdict of a DECIDED offer is unchanged. -/
def State.cancelled (s : State) (e : Entry) (seq : Byte) : State :=
  if e.lastSeq ≠ some seq then s.makeOutgoing e.line e.drop seq (mkVerdict .notPending)
  else
    match e.disposition with
    | .deferred => s.giveFinal e.line e.drop seq (mkVerdict .cancelled)
    | .committing | .cancelAsked =>
      let s := s.modEntry e.line e.drop fun e => { e with disposition := .cancelAsked }
      if e.outgoing.isNone then s.defer e.line e.drop seq else s
    | .decided =>
      match e.remembered with
      | some v => s.makeOutgoing e.line e.drop seq (cancelAnswer v)
      | none => s
    | .nothing => s

/-! ## Receipts (R62, R99) -/

/-- Whether a verdict is a lock decision's, which has a trail entry (R99). -/
def Verdict.onTrail (v : Verdict) : Bool := decide (v.kind = .grant) || decide (v.kind = .deny)

/-- RECEIPT TAKEN ends the delivery of the verdict its frame carried (R62, R99). -/
def Entry.taken (e : Entry) (seq : Byte) (v : Verdict) : Entry :=
  { e with
    outgoing := e.outgoing.filter fun o => !(decide (o.seq = seq) && decide (o.verdict = v))
    trail := if v.onTrail then e.trail.map Trail.delivered else e.trail }

/-! ## The answers -/

/-- The entry whose answer the turn in progress awaits. -/
def State.calledEntry (s : State) (n : Fin 4) : Option Entry :=
  (s.lines[n].turn.bind DeckFrame.called).bind fun d => s.entryAt n d

/-- Whether a new offer has come of the entry: its sequence number is another (R56, R57). -/
def State.newSeq (t : State) (e : Entry) : Bool := decide ((t.entryAt e.line e.drop).map (·.lastSeq) ≠ some e.lastSeq)

/-- A good answer of the called entry: the turn ends, the counts follow, the answer is handled, and the round goes on. A host
request whose miss could not start asks again when the answer has ended a hold (R34). -/
def State.goodTurn (s : State) (n : Fin 4) (dur : Nat) (e : Entry) (k : GoodKind) (handle : State → State) : State :=
  let t := handle ((s.closeTurn n dur).goodAnswer n e k)
  (t.roundReview n).settle (s.holdEnded t e.line e.drop (t.newSeq e))

end Sys2Proof.Machine
end

