-- ==== Sys2Proof/Machine/Lines.lean ====
section
/-! DEFINITION. The answers on a deck line, enumeration, the line check and isolation (R48, R53, R62, R65 to R73). -/
namespace Sys2Proof.Machine

/-! ## Bring-up (R73, R198) -/

/-- A line's bring-up has ended; only its first end counts (R198). -/
def State.bringUpDone (s : State) (n : Fin 4) (b : BringUp) : State :=
  if s.startUp.phase = .bringingUp ∧ s.startUp.bringUp[n].isNone = true then
    { s with startUp := { s.startUp with bringUp := s.startUp.bringUp.set n (some b) } }.startUpReview
  else s

/-! ## Enumeration (R65 to R68) -/

def BindState.isUnbound : BindState → Bool
  | .noBinding | .kindMismatch => true
  | .bound _ | .duplicate => false

/-- LINE_ENUMERATED with its counts, and the bring-up it may end (R68, R198). -/
def State.reportEnumeration (s : State) (n : Fin 4) (result : EnumResult) (es : List Entry) : State :=
  (s.notify (.lineEnumerated n result es.length (es.countP fun e => decide (e.binding = .duplicate))
    (es.countP fun e => e.binding.isUnbound))).bringUpDone n (.enumerated es.length result)

/-- Every entry of a line FAST with both counts 0 (R68, R72). -/
def State.refreshPolls (s : State) (n : Fin 4) : State :=
  { s with entries := s.entries.map fun e => if e.line = n then { e with poll := .fast, quiet := 0, silent := 0 } else e }

/-- An enumeration ends in SERVING at round 0 (R68). One that LINE_ISOLATE has ended already waits for the isolation, which
gives it the result ABANDONED (R67, R71). -/
def State.endEnumeration (s : State) (n : Fin 4) (result : EnumResult) : State :=
  if s.lines[n].isolating.isSome then s
  else
    let s := s.modLine n fun l => { l with state := .serving, round := 0, chain := false, enumerating := none }
    (s.refreshPolls n).reportEnumeration n result (s.entriesOf n)

/-- The controller sends ASSIGN for the next drop, or the ASSIGN 0 probe (R66, R67). -/
def execAssign (n : Fin 4) (s : State) : Host.Outcome State Fault Refusal :=
  s.awake fun s =>
    let l := s.lines[n]
    match l.enumerating with
    | some run =>
      if l.state = .enumerating ∧ l.turn = none ∧ l.isolating = none then
        s.modLine n fun l =>
          { l with turn := some (.assign run.drop), sent := some (.assign run.drop),
                   enumerating := some { run with tries := run.tries + 1 } }
      else s
    | none => s

/-- An ASSIGN drew no good JOIN: the tries for its drop go on or end (R67). -/
def State.assignFailed (s : State) (n : Fin 4) (run : EnumRun) (silent : Bool) : State :=
  let run' := { run with silences := run.silences + silent.toNat }
  let s := s.modLine n fun l => { l with turn := none, enumerating := some run' }
  if run.drop = 0 then
    (if silent = false then s.endEnumeration n .overfull
     else if 2 ≤ run'.silences then s.endEnumeration n .complete
     else s)
  else if 2 ≤ run'.silences then s.endEnumeration n .complete
  else if 4 ≤ run.tries then s.endEnumeration n .chainFault
  else s

/-- The entry a good JOIN creates (R68, R75). -/
def State.joinedEntry (s : State) (n : Fin 4) (drop : Nat) (kind : ReaderKind) (serial : ReaderSerial) : Entry :=
  { line := n, drop := drop, kind := kind, serial := serial
    binding := if s.entries.any fun e => decide (e.serial = serial) then .duplicate else s.boundAs serial kind
    poll := .fast, quiet := 0, silent := 0, lastSeq := none, disposition := .nothing, remembered := none, outgoing := none
    trail := if kind = .lock then some { entries := [], next := 0 } else none }

/-- A good JOIN: an entry for the drop, and the next drop; to the ASSIGN 0 probe, the end of the enumeration (R67, R68). -/
def State.joined (s : State) (n : Fin 4) (run : EnumRun) (kind : ReaderKind) (serial : ReaderSerial) : State :=
  if run.drop = 0 then (s.modLine n fun l => { l with turn := none }).endEnumeration n .overfull
  else
    let e := s.joinedEntry n run.drop kind serial
    { s with entries := insertEntry e s.entries }.modLine n fun l =>
      { l with turn := none,
               enumerating := some { drop := if run.drop = 48 then 0 else run.drop + 1, tries := 0, silences := 0 } }

/-! ## Answers (R48, R49) -/

/-- The enumeration whose ASSIGN awaits an answer. -/
def State.assigning (s : State) (n : Fin 4) : Option EnumRun :=
  match s.lines[n].turn with
  | some (.assign _) => s.lines[n].enumerating
  | _ => none

/-- A turn ends as a garble: an answer whose check fails, or of a kind its frame does not admit (R48, R49, R67). -/
def State.garbled (s : State) (n : Fin 4) (dur : Nat) : State :=
  match s.calledEntry n, s.assigning n with
  | some e, _ => s.badTurn n dur e.drop true
  | none, some run => s.assignFailed n run false
  | none, none => s

/-- A turn ends in silence (R48, R67). -/
def State.silenced (s : State) (n : Fin 4) (dur : Nat) : State :=
  match s.calledEntry n, s.assigning n with
  | some e, _ => s.badTurn n dur e.drop false
  | none, some run => s.assignFailed n run true
  | none, none => s

/-- An IDLE answer (R53). -/
def execIdle (n : Fin 4) (dur : Nat) (s : State) : Host.Outcome State Fault Refusal :=
  s.awake fun s =>
    match s.calledEntry n with
    | some e => s.goodTurn n dur e .idle id
    | none => s.garbled n dur

/-- An OFFER answer (R56); one without its kind's form is a garble (R202). -/
def execOffer (n : Fin 4) (dur : Nat) (seq : Byte) (card : CardId) (lines : Option (List SaleLine)) (s : State) :
    Host.Outcome State Fault Refusal :=
  s.awake fun s =>
    match s.calledEntry n with
    | some e =>
      if offerForm e.kind lines then
        s.goodTurn n dur e .presented fun s =>
          match s.entryAt n e.drop with
          | some e => s.offered e seq card (lines.getD [])
          | none => s
      else s.garbled n dur
    | none => s.garbled n dur

/-- A CANCEL answer (R60). -/
def execCancel (n : Fin 4) (dur : Nat) (seq : Byte) (s : State) : Host.Outcome State Fault Refusal :=
  s.awake fun s =>
    match s.calledEntry n with
    | some e =>
      s.goodTurn n dur e .presented fun s =>
        match s.entryAt n e.drop with
        | some e => s.cancelled e seq
        | none => s
    | none => s.garbled n dur

/-- A RECEIPT answer, admitted to a VERDICT frame alone (R49, R62). -/
def execReceipt (n : Fin 4) (dur : Nat) (taken : Bool) (s : State) : Host.Outcome State Fault Refusal :=
  s.awake fun s =>
    match s.calledEntry n, s.lines[n].turn with
    | some e, some (.verdict _ seq v) =>
      s.goodTurn n dur e .receipt fun s => if taken then s.modEntry n e.drop fun e => e.taken seq v else s
    | _, _ => s.garbled n dur

/-- A JOIN answer, admitted to an ASSIGN frame alone (R49, R68). In a round turn it is a garble, whose duration counts
(R55). -/
def execJoin (n : Fin 4) (dur : Nat) (answer : JoinAnswer) (s : State) : Host.Outcome State Fault Refusal :=
  s.awake fun s =>
    match s.assigning n with
    | some run => s.joined n run answer.kind answer.serial
    | none => s.garbled n dur

/-- A garbled answer (R48). -/
def execGarble (n : Fin 4) (dur : Nat) (s : State) : Host.Outcome State Fault Refusal := s.awake fun s => s.garbled n dur

/-- The answer window ends with no answer begun (R48). -/
def execSilence (n : Fin 4) (dur : Nat) (s : State) : Host.Outcome State Fault Refusal := s.awake fun s => s.silenced n dur

/-! ## What a turn's end brings about (R53, R54) -/

/-- A garble run of 8 starts an automatic check (R54); one that finds an operation or an isolation pending starts none
(DESIGN CHOICE, log 47). -/
def execGarbleRun (n : Fin 4) (s : State) : Host.Outcome State Fault Refusal :=
  s.awake fun s =>
    let l := s.lines[n]
    if l.state = .serving ∧ 8 ≤ l.garbleRun ∧ l.ops = [] ∧ l.isolating = none then
      s.modLine n fun l => { l with ops := [.check .automatic], garbleRun := 0 }
    else s

/-- A quiet count of 64 in FAST: SLOW (R53). -/
def execQuietCount (n : Fin 4) (drop : Nat) (s : State) : Host.Outcome State Fault Refusal :=
  s.awake fun s =>
    s.modEntry n drop fun e => if e.poll = .fast ∧ 64 ≤ e.quiet then { e with poll := .slow, quiet := 0 } else e

/-- A silent count of 3: LOST, with READER_LOST (R53). -/
def execReaderLost (n : Fin 4) (drop : Nat) (s : State) : Host.Outcome State Fault Refusal :=
  s.awake fun s =>
    match s.entryAt n drop with
    | some e =>
      if e.poll ≠ .lost ∧ 3 ≤ e.silent then
        (s.modEntry n drop fun e => { e with poll := .lost, quiet := 0 }).notify
          (.readerLost n drop e.serial e.outgoing.isSome)
      else s
    | none => s

/-! ## Changes of line state, after the turn in progress (R48, R50) -/

/-- A line check begins: both biases are driven and sampled in turn and released, DnDE is raised and PROBE is sent (R69). -/
def execLineCheckBegin (n : Fin 4) (low high : Bool) (s : State) : Host.Outcome State Fault Refusal :=
  s.awake fun s =>
    let l := s.lines[n]
    match l.ops with
    | .check cause :: rest =>
      if l.turn = none ∧ l.isolating = none ∧ (l.state = .serving ∨ l.state = .isolated) then
        (if l.state = .serving then s.leaveServing n else s).modLine n fun l =>
          { l with
            state := .checking, ops := rest, garbleRun := 0, driveEnable := true, biasHigh := false, biasLow := false
            sent := some .probe
            checking := some { cause := cause, fromServing := decide (l.state = .serving), lowFollowed := low, highFollowed := high } }
      else s
    | _ => s

/-- The check's result (R69). -/
def CheckRun.result (c : CheckRun) (probe : Bool) : CheckResult :=
  if c.lowFollowed && c.highFollowed then (if probe then .good else .broken) else .shorted

/-- The line state after a check, when it needs no enumeration: none (R50, R70, R72, R73). -/
def CheckRun.next (c : CheckRun) (r : CheckResult) (isolates enumerated : Bool) : Option LineState :=
  match c.cause with
  | .startUp => if r = .good then none else some .isolated
  | .restore => if r = .good then (if enumerated then some .serving else none) else some .isolated
  | .request | .automatic =>
    if c.fromServing then (if r ≠ .good ∧ isolates = true then some .isolated else some .serving) else some .isolated

/-- The line takes its state; one that needs an enumeration stays CHECKING until it begins. A GOOD restore sets the line's
entries FAST and the round to 0 (R72). -/
def State.endCheck (s : State) (n : Fin 4) (c : CheckRun) (r : CheckResult) (next : Option LineState) : State :=
  let s := s.modLine n fun l =>
    { l with
      check := some r, checking := none, driveEnable := false, state := next.getD .checking
      ops := if next.isNone then .enumerate :: l.ops else l.ops }
  if c.cause = .restore ∧ r = .good then (s.modLine n fun l => { l with round := 0 }).refreshPolls n else s

/-- The reply of the request that asked the check (R70, R72). -/
def State.answerCheck (s : State) (n : Fin 4) (c : CheckRun) (r : CheckResult) : State :=
  match s.work, c.cause with
  | some (.check m), .request => if m = n then s.finish .done (.checkResult r) else s
  | some (.check m), .restore =>
    if m = n then (if r = .good then s.finish .done else s.finish .state (.checkResult r)) else s
  | _, _ => s

/-- An accepted operation that an isolation leaves standing: a check a request waits on (log 10). -/
def LineOp.outlivesIsolation : LineOp → Bool
  | .check .request | .check .restore => true
  | .check .startUp | .check .automatic | .enumerate => false

/-- The line is isolated: of the operations still to begin only a requested check stands, and an enumeration in progress or
still to begin ends ABANDONED with the entries it has created (R68, R71; log 10). -/
def State.isolated (s : State) (n : Fin 4) (cause : IsolateCause) : State :=
  let l := s.lines[n]
  let enumerates := decide (l.state = .enumerating) || decide (LineOp.enumerate ∈ l.ops)
  let es := if l.state = .enumerating then s.entriesOf n else []
  let s := (s.leaveServing n).modLine n fun l =>
    { l with
      state := .isolated, driveEnable := false, chain := false, isolating := none, checking := none, enumerating := none
      round := if enumerates then 0 else l.round
      ops := l.ops.filter LineOp.outlivesIsolation }
  (if enumerates then s.reportEnumeration n .abandoned es else s).notify (.lineIsolated n cause)

/-- The cause of the isolation that a failed check from SERVING brings: the plan's, or, for a restore's, the request's
(R70; DESIGN CHOICE, log 10). -/
def CheckRun.isolateCause (c : CheckRun) : IsolateCause := if c.cause = .restore then .request else .plan

/-- The probe watch ends: the result, LINE_CHECKED, LINEn_FAULT, and the line's next state (R69 to R73, R178; log 28). -/
def execLineChecked (n : Fin 4) (probe : Bool) (s : State) : Host.Outcome State Fault Refusal :=
  s.awake fun s =>
    match s.lines[n].checking with
    | none => s
    | some c =>
      let r := c.result probe
      let next := c.next r (s.router.entry (.lineFault n)).plan.isolate s.lines[n].enumerated
      let s := ((s.endCheck n c r next).notify (.lineChecked n r c.cause)).setCondition (.lineFault n) (decide (r ≠ .good))
      let s := if c.fromServing = true ∧ next = some .isolated then s.isolated n c.isolateCause else s
      let s := s.answerCheck n c r
      if c.cause = .startUp ∧ r ≠ .good then s.bringUpDone n (.isolated (some r)) else s

/-- One entry is removed at the start of its line's enumeration (R65). -/
def State.removeEntry (s : State) (e : Entry) : State :=
  ((s.dropOutgoing e .removed).markCommits e.line e.drop .gone).prune e.line e.drop []

/-- An enumeration begins: the line's entries are removed, DnCHAIN is raised and DROPALL is sent (R65, R66). -/
def execEnumerationBegin (n : Fin 4) (s : State) : Host.Outcome State Fault Refusal :=
  s.awake fun s =>
    let l := s.lines[n]
    if l.ops.head? = some .enumerate ∧ l.turn = none ∧ l.isolating = none ∧ l.checking = none
        ∧ (l.state = .serving ∨ l.state = .checking) then
      let held := (s.entriesOf n).any fun e => !(s.holdSlots n e.drop).isEmpty
      let s := if l.state = .serving then s.leaveServing n else s
      let s := (s.entriesOf n).foldl State.removeEntry s
      let s := { s with entries := s.entries.filter fun e => decide (e.line ≠ n) }
      (s.modLine n fun l =>
        { l with
          state := .enumerating, ops := l.ops.tail, garbleRun := 0, enumerated := true, chain := true, sent := some .dropAll
          enumerating := some { drop := 1, tries := 0, silences := 0 } }).settle held
    else s

/-- A pending isolation takes effect (R71). -/
def execLineIsolated (n : Fin 4) (s : State) : Host.Outcome State Fault Refusal :=
  s.awake fun s =>
    match s.lines[n].isolating with
    | some cause => if s.lines[n].turn = none then s.isolated n cause else s
    | none => s

end Sys2Proof.Machine
end

