-- ==== Sys2Proof/Machine/LineRequests.lean ====
section
/-! DEFINITION. The requests of the line controllers (R65, R70 to R72). -/
namespace Sys2Proof.Machine

/-- An accepted operation waits for the turn in progress and for those accepted before it (R48; log 10). -/
def State.askOp (s : State) (n : Fin 4) (op : LineOp) : State := s.modLine n fun l => { l with ops := l.ops ++ [op] }

/-- LINE_ENUMERATE of a SERVING line (R65). One more while an enumeration is still to begin is met by that one (log 10). -/
def State.askEnumeration (s : State) (n : Fin 4) : State :=
  if s.lines[n].state = .serving then
    (if .enumerate ∈ s.lines[n].ops then s else s.askOp n .enumerate).finish .started
  else s.finish .state

/-- LINE_ENUMERATE (R65). -/
def execLineEnumerate (tag : Tag) (body : Option Nat) (s : State) : Host.Outcome State Fault Refusal :=
  s.serviceRequest tag 0x50 (body.bind (below 4)) State.askEnumeration

/-- A check is accepted, and the request stays in hand (R70, R72). -/
def State.askCheck (s : State) (n : Fin 4) (cause : CheckCause) : State := (s.askOp n (.check cause)).setWork (.check n)

/-- LINE_CHECK (R70). -/
def execLineCheck (tag : Tag) (body : Option Nat) (s : State) : Host.Outcome State Fault Refusal :=
  s.request tag 0x51 (body.bind (below 4)) fun s n =>
    if s.lines[n].state = .serving ∨ s.lines[n].state = .isolated then s.askCheck n .request else s.finish .state

/-- LINE_ISOLATE by line state (R71). -/
def State.isolateLine (s : State) (n : Fin 4) : State :=
  match s.lines[n].state with
  | .serving | .enumerating => (s.askIsolation n .request).finish .done
  | .isolated => s.finish .done
  | .checking => s.finish .state

/-- LINE_ISOLATE (R71). -/
def execLineIsolate (tag : Tag) (body : Option Nat) (s : State) : Host.Outcome State Fault Refusal :=
  s.request tag 0x52 (body.bind (below 4)) State.isolateLine

/-- LINE_RESTORE (R72). -/
def execLineRestore (tag : Tag) (body : Option Nat) (s : State) : Host.Outcome State Fault Refusal :=
  s.serviceRequest tag 0x53 (body.bind (below 4)) fun s n =>
    if s.lines[n].state = .isolated then s.askCheck n .restore else s.finish .state

end Sys2Proof.Machine
end

