-- ==== Sys2Proof/Machine/MusterRequests.lean ====
section
/-! DEFINITION. The requests of the muster unit (R166 to R168). -/
namespace Sys2Proof.Machine

/-- MUSTER_BEGIN (R166). -/
def execMusterBegin (tag : Tag) (form : Bool) (s : State) : Host.Outcome State Fault Refusal :=
  s.serviceRequest tag 0x70 (noFields form) fun s _ => s.startConf .musterBegin

/-- MUSTER_END (R167). -/
def execMusterEnd (tag : Tag) (form : Bool) (s : State) : Host.Outcome State Fault Refusal :=
  s.request tag 0x71 (noFields form) fun s _ => s.startConf .musterEnd

/-- MUSTER_GET's answer: the live figures while ACTIVE in SERVICE, else the frozen ones or none (R168). -/
def State.musterAnswer (s : State) : ReplyBody :=
  if s.muster.active && s.service then
    .musterLive s.muster.beginStamp (s.landing.stations.toList.zip s.muster.mustered.toList) s.landing.aboardCrew
      s.muster.crewMustered s.censusMark
  else .musterHeld s.muster.active s.muster.beginStamp s.muster.frozen

/-- MUSTER_GET (R168). -/
def execMusterGet (tag : Tag) (form : Bool) (s : State) : Host.Outcome State Fault Refusal :=
  s.request tag 0x72 (noFields form) fun s _ => s.finish .done s.musterAnswer

end Sys2Proof.Machine
end

