-- ==== Sys2Proof/Machine/ReaderRequests.lean ====
section
/-! DEFINITION. The requests of the reader table, the binding store and the profiles (R79 to R85). -/
namespace Sys2Proof.Machine

/-- BIND_PUT (R79). -/
def execBindPut (tag : Tag) (body : Option BindPut) (s : State) : Host.Outcome State Fault Refusal :=
  s.request tag 0x40 (body.bind parseBindPut) State.startConf

/-- BIND_REMOVE (R80). -/
def execBindRemove (tag : Tag) (body : Option ReaderSerial) (s : State) : Host.Outcome State Fault Refusal :=
  s.request tag 0x41 (body.bind parseBindRemove) State.startConf

/-- PROFILE_PUT (R83). -/
def execProfilePut (tag : Tag) (body : Option ProfilePut) (s : State) : Host.Outcome State Fault Refusal :=
  s.request tag 0x42 (body.bind parseProfilePut) State.startConf

/-- A form of READER_LIST with its field in range (R84). -/
inductive ListAsk where
  | entries (line : Fin 4)
  | bindings (start : Fin 192)
  | profiles
  deriving DecidableEq, Repr

def parseList : ListForm → Option ListAsk
  | .entries l => (below 4 l).map .entries
  | .bindings b => (below 192 b).map .bindings
  | .profiles => some .profiles
  | .other _ => none

/-- One entry as ENTRIES lists it (R84). -/
def Entry.summary (e : Entry) : EntrySummary :=
  { drop := e.drop, kind := e.kind, serial := e.serial, binding := e.binding, poll := e.poll,
    outgoing := e.outgoing.isSome, disposition := e.disposition }

/-- The occupied binding slots from a slot upward (R84). -/
def State.bindingsFrom (s : State) (start : Fin 192) : List (Fin 192 × Binding) :=
  (List.finRange 192).filterMap fun i => if i < start then none else s.bindings[i].map fun b => (i, b)

/-- READER_LIST's answer (R84). -/
def State.listAnswer (s : State) : ListAsk → ReplyBody
  | .entries n => .entries s.lines[n].state ((s.entriesOf n).map Entry.summary)
  | .bindings start => .bindings ((s.bindingsFrom start).take 32) (((s.bindingsFrom start).drop 32).head?.map (·.1))
  | .profiles => .profiles s.profiles.toList

/-- READER_LIST (R84). -/
def execReaderList (tag : Tag) (body : Option ListForm) (s : State) : Host.Outcome State Fault Refusal :=
  s.request tag 0x43 (body.bind parseList) fun s ask => s.finish .done (s.listAnswer ask)

/-- READER_GET with its fields in range (R85). -/
def parseGet : GetForm → Option GetForm
  | .place line drop => if line ≤ 3 ∧ 1 ≤ drop ∧ drop ≤ 48 then some (.place line drop) else none
  | .serial serial => if serial = 0 then none else some (.serial serial)

/-- The 16 trail entries of a LOCK entry, oldest first, with those not yet written shown empty (R85). -/
def Trail.shown (t : Trail) : List (Option TrailEntry) :=
  t.entries.map some ++ List.replicate (16 - t.entries.length) none

/-- READER_GET's answer (R85). -/
def State.readerGet (s : State) : GetForm → State
  | .place line drop =>
    match s.entries.find? fun e => decide (e.line.val = line) && decide (e.drop = drop) with
    | some e => s.finish .done 
        (.entry e (s.bindingOf e) (s.holdSlots e.line e.drop) (s.holdCount e.line e.drop) (e.trail.map Trail.shown))
    | none => s.finish .state
  | .serial serial =>
    s.finish .done
      (.serialHeld ((s.bindingSlot serial).bind fun i => s.bindings[i].map fun b => (i, b))
        ((s.entries.filter fun e => decide (e.serial = serial)).map fun e => (e.line, e.drop)))

/-- READER_GET (R85). -/
def execReaderGet (tag : Tag) (body : Option GetForm) (s : State) : Host.Outcome State Fault Refusal :=
  s.request tag 0x44 (body.bind parseGet) State.readerGet

end Sys2Proof.Machine
end

