-- ==== Sys2Proof/Machine/Timers.lean ====
section
/-! DEFINITION. Clock ticks and the events that timers bring (R16 to R18, R34, R37, R41, R63, R146, R175, R179, R180). -/
namespace Sys2Proof.Machine

/-! ## The tick (R16) -/

/-- Whether a tick finds a LAST_CALL site's deadline reached (R146); in MAINTENANCE deadlines are not compared (R156). -/
def Site.reached (x : Site) (now : Nat) : Bool :=
  decide (x.state = .lastCall) && match x.deadline with | some d => decide (d ≤ now) | none => false

/-- The sites after a tick: those whose deadline it finds reached are due (log 8). -/
def State.tickSites (s : State) : State :=
  if s.service then
    { s with landing := { s.landing with
        sites := s.landing.sites.map fun (x : Site) => { x with due := x.due || x.reached s.now } } }
  else s

/-- The second counts a tick advances: voyage seconds, the seconds since the last clock mark, link silence, the escalation
timer; and the flusher is due, but for the power states it does not act in (R16, R18, R41, R45, R175, R179). -/
def State.tickCounts (s : State) : State :=
  { s with
    clock := { s.clock with
      seconds := laterBy s.clock.seconds 1, sinceMark := s.clock.sinceMark + 1, flusherDue := decide (s.power.state = .normal) }
    link := { s.link with silence := s.link.silence + 1 }
    router := { s.router with run := if s.router.timer = .running then s.router.run + 1 else s.router.run } }

/-- A clock tick (R16, R17). -/
def execClockTick (s : State) : Host.Outcome State Fault Refusal :=
  s.awake fun s => s.tickCounts.tickSites.evaluateDay

/-- 3,600 seconds since the last clock mark was queued (R18). -/
def execClockMark (s : State) : Host.Outcome State Fault Refusal :=
  s.awake fun s => if 3600 ≤ s.clock.sinceMark then s.markClock else s

/-- A LAST_CALL site's deadline, found reached at a tick (R146). -/
def execSiteDeadline (t : Fin 4) (s : State) : Host.Outcome State Fault Refusal :=
  s.awake fun s =>
    let x := s.landing.sites[t]
    match x.deadline with
    | some d => if x.due = true ∧ x.state = .lastCall then s.overdue t d else s
    | none => s

/-! ## Lives and holds (R37, R63) -/

/-- An outgoing verdict's life has ended (R63, R64). -/
def execVerdictLifeExpiry (n : Fin 4) (drop : Nat) (s : State) : Host.Outcome State Fault Refusal :=
  s.awake fun s =>
    match s.entryAt n drop with
    | some e =>
      match e.outgoing with
      | some o => if o.expiry ≤ s.now then s.dropOutgoing e .expired else s
      | none => s
    | none => s

/-- Whether a hold is an entry's for a record and its expiry has passed. -/
def Hold.over (h : Hold) (n : Fin 4) (drop : Nat) (k : RecKey) (now : Nat) : Bool :=
  decide (h.line = n) && decide (h.drop = drop) && decide (h.key = k) && decide (h.expiry ≤ now)

/-- A hold's expiry has passed; a host request that found no slot asks again (R34, R37). -/
def execHoldExpiry (n : Fin 4) (drop : Nat) (k : RecKey) (s : State) : Host.Outcome State Fault Refusal :=
  s.awake fun s =>
    if s.cache.slots.toList.any fun x => x.holds.any fun h => h.over n drop k s.now then
      ({ s with cache := { s.cache with slots := s.cache.slots.map fun (x : Slot) =>
          { x with holds := x.holds.filter fun h => !(h.over n drop k s.now) } } }).settle true
    else s

/-! ## The flusher (R41) -/

/-- Whether the flusher takes a slot: DIRTY, no write-back queued, old enough or urgent (R41). -/
def State.flusherTakes (s : State) (i : Fin 128) : Bool :=
  let x := s.slot i
  decide (x.state = .dirty) && !x.wbQueued && (x.urgent || decide (s.settings.flushAge ≤ s.now - x.dirtySince))

/-- The slots the flusher takes, earliest dirty-since first (R41) and, between equal ones, lowest slot first (DESIGN CHOICE,
log 42). -/
def State.flusherOrder (s : State) : List (Fin 128) :=
  ((List.finRange 128).filter s.flusherTakes).insertionSort fun i j => (s.slot i).dirtySince ≤ (s.slot j).dirtySince

/-- Queues write-backs while the queue holds fewer than 12 jobs (R28, R41). -/
def State.flusherQueue (s : State) : State :=
  s.flusherOrder.foldl (fun s i => if s.port.queue.length < 12 then s.queueWriteBack i else s) s

/-- The flusher acts at a tick, in NORMAL (R41, R45). -/
def execFlusher (s : State) : Host.Outcome State Fault Refusal :=
  s.awake fun s =>
    if s.clock.flusherDue = true ∧ s.power.state = .normal then
      { s with clock := { s.clock with flusherDue := false } }.flusherQueue
    else s

/-! ## Timers of the fault router (R34, R175, R180) -/

/-- The escalation timer reaches the escalation time (R179, R180). -/
def execEscalation (s : State) : Host.Outcome State Fault Refusal :=
  s.awake fun s => if s.router.timer = .running ∧ s.settings.escalation ≤ s.router.run then s.escalate else s

/-- The stall timer reaches 1 s (R34). -/
def execCacheStall (s : State) : Host.Outcome State Fault Refusal :=
  s.awake fun s => if s.cache.stalling then s.beginCondition .cacheStall else s

/-- The link silence timer reaches the link silence time (R175). -/
def execLinkSilent (s : State) : Host.Outcome State Fault Refusal :=
  s.awake fun s => if s.settings.linkSilence ≤ s.link.silence then s.beginCondition .linkSilent else s

end Sys2Proof.Machine
end

