-- ==== Sys2Proof/Machine/Dispatch.lean ====
section
/-! DEFINITION. The dispatch: each command of the table to its meaning. -/
namespace Sys2Proof.Machine

def exec (i : Instr) (s : State) : Host.Outcome State Fault Refusal :=
  match i with
  | .status tag form => Sys2Proof.Machine.execStatus tag form s
  | .news tag form => Sys2Proof.Machine.execNews tag form s
  | .restart tag form => Sys2Proof.Machine.execRestart tag form s
  | .format tag form => Sys2Proof.Machine.execFormat tag form s
  | .setClock tag body => Sys2Proof.Machine.execSetClock tag body s
  | .settingsPut tag body => Sys2Proof.Machine.execSettingsPut tag body s
  | .guestGet tag body => Sys2Proof.Machine.execGuestGet tag body s
  | .guestPut tag body => Sys2Proof.Machine.execGuestPut tag body s
  | .cardAdd tag body => Sys2Proof.Machine.execCardAdd tag body s
  | .cardMarkLost tag body => Sys2Proof.Machine.execCardMarkLost tag body s
  | .cardRemove tag body => Sys2Proof.Machine.execCardRemove tag body s
  | .planPut tag body => Sys2Proof.Machine.execPlanPut tag body s
  | .folioGet tag body => Sys2Proof.Machine.execFolioGet tag body s
  | .folioPut tag body => Sys2Proof.Machine.execFolioPut tag body s
  | .folioSettle tag body => Sys2Proof.Machine.execFolioSettle tag body s
  | .takePostings tag body => Sys2Proof.Machine.execTakePostings tag body s
  | .bindPut tag body => Sys2Proof.Machine.execBindPut tag body s
  | .bindRemove tag body => Sys2Proof.Machine.execBindRemove tag body s
  | .profilePut tag body => Sys2Proof.Machine.execProfilePut tag body s
  | .readerList tag body => Sys2Proof.Machine.execReaderList tag body s
  | .readerGet tag body => Sys2Proof.Machine.execReaderGet tag body s
  | .lineEnumerate tag body => Sys2Proof.Machine.execLineEnumerate tag body s
  | .lineCheck tag body => Sys2Proof.Machine.execLineCheck tag body s
  | .lineIsolate tag body => Sys2Proof.Machine.execLineIsolate tag body s
  | .lineRestore tag body => Sys2Proof.Machine.execLineRestore tag body s
  | .presenceSet tag body => Sys2Proof.Machine.execPresenceSet tag body s
  | .tallyGet tag form => Sys2Proof.Machine.execTallyGet tag form s
  | .rosterGet tag body => Sys2Proof.Machine.execRosterGet tag body s
  | .siteOpen tag body => Sys2Proof.Machine.execSiteOpen tag body s
  | .siteLastCall tag body => Sys2Proof.Machine.execSiteLastCall tag body s
  | .siteClose tag body => Sys2Proof.Machine.execSiteClose tag body s
  | .census tag form => Sys2Proof.Machine.execCensus tag form s
  | .musterBegin tag form => Sys2Proof.Machine.execMusterBegin tag form s
  | .musterEnd tag form => Sys2Proof.Machine.execMusterEnd tag form s
  | .musterGet tag form => Sys2Proof.Machine.execMusterGet tag form s
  | .flush tag form => Sys2Proof.Machine.execFlush tag form s
  | .faultPlanPut tag body => Sys2Proof.Machine.execFaultPlanPut tag body s
  | .faultClear tag body => Sys2Proof.Machine.execFaultClear tag body s
  | .resume tag form => Sys2Proof.Machine.execResume tag form s
  | .busy tag kind => Sys2Proof.Machine.execBusy tag kind s
  | .badKind tag kind => Sys2Proof.Machine.execBadKind tag kind s
  | .hostFrameDiscard why => Sys2Proof.Machine.execHostFrameDiscard why s
  | .frameGap => Sys2Proof.Machine.execFrameGap s
  | .replySent => Sys2Proof.Machine.execReplySent s
  | .linkSilent => Sys2Proof.Machine.execLinkSilent s
  | .clockTick => Sys2Proof.Machine.execClockTick s
  | .clockMark => Sys2Proof.Machine.execClockMark s
  | .siteDeadline site => Sys2Proof.Machine.execSiteDeadline site s
  | .verdictLifeExpiry line drop => Sys2Proof.Machine.execVerdictLifeExpiry line drop s
  | .holdExpiry line drop key => Sys2Proof.Machine.execHoldExpiry line drop key s
  | .flusher => Sys2Proof.Machine.execFlusher s
  | .escalation => Sys2Proof.Machine.execEscalation s
  | .cacheStall => Sys2Proof.Machine.execCacheStall s
  | .memSilent secondHalf => Sys2Proof.Machine.execMemSilent secondHalf s
  | .call line gap => Sys2Proof.Machine.execCall line gap s
  | .verdict line gap => Sys2Proof.Machine.execVerdict line gap s
  | .assign line => Sys2Proof.Machine.execAssign line s
  | .idle line dur => Sys2Proof.Machine.execIdle line dur s
  | .offer line dur seq card lines => Sys2Proof.Machine.execOffer line dur seq card lines s
  | .cancel line dur seq => Sys2Proof.Machine.execCancel line dur seq s
  | .receipt line dur taken => Sys2Proof.Machine.execReceipt line dur taken s
  | .join line dur answer => Sys2Proof.Machine.execJoin line dur answer s
  | .garble line dur => Sys2Proof.Machine.execGarble line dur s
  | .silence line dur => Sys2Proof.Machine.execSilence line dur s
  | .garbleRun line => Sys2Proof.Machine.execGarbleRun line s
  | .quietCount line drop => Sys2Proof.Machine.execQuietCount line drop s
  | .readerLost line drop => Sys2Proof.Machine.execReaderLost line drop s
  | .lineCheckBegin line lowFollowed highFollowed => Sys2Proof.Machine.execLineCheckBegin line lowFollowed highFollowed s
  | .lineChecked line probeReturned => Sys2Proof.Machine.execLineChecked line probeReturned s
  | .enumerationBegin line => Sys2Proof.Machine.execEnumerationBegin line s
  | .lineIsolated line => Sys2Proof.Machine.execLineIsolated line s
  | .fill read => Sys2Proof.Machine.execFill read s
  | .writeBack write => Sys2Proof.Machine.execWriteBack write s
  | .dirtyMissPair write => Sys2Proof.Machine.execDirtyMissPair write s
  | .commit posting marks => Sys2Proof.Machine.execCommit posting marks s
  | .configurationWrite write => Sys2Proof.Machine.execConfigurationWrite write s
  | .censusRead read => Sys2Proof.Machine.execCensusRead read s
  | .journalRead read => Sys2Proof.Machine.execJournalRead read s
  | .configurationRead read => Sys2Proof.Machine.execConfigurationRead read s
  | .pwrwarnAsserted => Sys2Proof.Machine.execPwrwarnAsserted s
  | .pwrwarnWithdrawn => Sys2Proof.Machine.execPwrwarnWithdrawn s
  | .emergencyMarkWrites => Sys2Proof.Machine.execEmergencyMarkWrites s
  | .safe => Sys2Proof.Machine.execSafe s
  | .resetAsserted cut => Sys2Proof.Machine.execResetAsserted cut s
  | .resetRelease straps => Sys2Proof.Machine.execResetRelease straps s
  | .restartReset found => Sys2Proof.Machine.execRestartReset found s
  | .startByte => Sys2Proof.Machine.execStartByte s

end Sys2Proof.Machine
end

