-- ==== Sys2Proof/Machine/Frames.lean ====
section
/-! DEFINITION. The bytes that come in: host frames and the bodies of their requests (12.2, R188, R201 to R203), and the
answers of readers (12.3, R48, R202). Each is read as the command of the table it stands for. Field sizes that no rule gives
are in log 29. -/
namespace Sys2Proof.Machine

/-! ## Reading fields -/

/-- A field is read from the bytes that are left; none where they end early or hold no value of the field (R202). -/
abbrev Reading := StateT (List Byte) Option

/-- An n-byte number. -/
def readNum (n : Nat) : Reading Nat := fun bs => if n ≤ bs.length then some (ofBe (bs.take n), bs.drop n) else none

/-- An n-byte number in two's complement. -/
def readSigned (n : Nat) : Reading Int := ofSigned n <$> readNum n

/-- A field behind its presence byte, 0 or 1 (R203). The bytes behind a 0 are passed over. -/
def readOpt {α : Type} (field : Reading α) : Reading (Option α) := do
  let presence ← readNum 1
  let v ← field
  if presence = 0 then pure none else if presence = 1 then pure (some v) else failure

/-- A field a number of times. -/
def readTimes {α : Type} (field : Reading α) : Nat → Reading (List α)
  | 0 => pure []
  | k + 1 => do
    let x ← field
    let xs ← readTimes field k
    pure (x :: xs)

/-- A list behind its count byte (12.2). -/
def readList {α : Type} (field : Reading α) : Reading (List α) := do
  let count ← readNum 1
  readTimes field count

/-- The fields of a body that they fill to its last byte; none for a body of another length (R202). -/
def wholeOf {α : Type} (fields : Reading α) (body : List Byte) : Option α :=
  match fields body with
  | some (x, []) => some x
  | _ => none

/-! ## The fields of each request, in the order its rule names them (12.2) -/

/-- An optional signed number behind its presence byte. -/
def optSigned (n : Nat) (o : Option Int) : List Byte := optBytes n (o.map (signed n))

/-- GUEST_PUT: its privileges are two bytes of bits (R10; DESIGN CHOICE, log 59). -/
def GuestPut.bytes (f : GuestPut) : List Byte :=
  be 2 f.record ++ be 1 f.status ++ be 1 f.category ++ be 2 f.privileges.toNat ++ listBytes (be 2) f.cabins
  ++ be 2 f.firstDay ++ be 2 f.lastDay ++ optBytes 2 f.folio ++ be 1 f.plan ++ be 1 f.station ++ be 1 f.resetAllowance

def readGuestPut : Reading GuestPut := do
  let record ← readNum 2
  let status ← readNum 1
  let category ← readNum 1
  let privileges ← readNum 2
  let cabins ← readList (readNum 2)
  let firstDay ← readNum 2
  let lastDay ← readNum 2
  let folio ← readOpt (readNum 2)
  let plan ← readNum 1
  let station ← readNum 1
  let resetAllowance ← readNum 1
  pure { record, status, category, privileges := BitVec.ofNat 16 privileges, cabins, firstDay, lastDay, folio, plan, station,
         resetAllowance }

def CardRef.bytes (f : CardRef) : List Byte := be 2 f.record ++ be 1 f.slot ++ be 8 f.card.toNat

def readCardRef : Reading CardRef := do
  let record ← readNum 2
  let slot ← readNum 1
  let card ← readNum 8
  pure { record, slot, card := BitVec.ofNat 64 card }

/-- PLAN_PUT: its covered set as a list of classes behind their count (R15; DESIGN CHOICE, log 54). -/
def PlanPut.bytes (f : PlanPut) : List Byte :=
  be 1 f.plan ++ listBytes (be 1) f.classes ++ be 4 f.cap ++ be 1 f.allowance

/-- PLAN_PUT, its covered set read as a list of classes (R15; DESIGN CHOICE, log 54). -/
def readPlanPut : Reading PlanPut := do
  let plan ← readNum 1
  let classes ← readList (readNum 1)
  let cap ← readNum 4
  let allowance ← readNum 1
  pure { plan, classes, cap, allowance }

def SetClock.bytes (f : SetClock) : List Byte := optBytes 4 f.seconds ++ optSigned 2 f.offset

def readSetClock : Reading SetClock := do
  let seconds ← readOpt (readNum 4)
  let offset ← readOpt (readSigned 2)
  pure { seconds, offset }

def SettingsPut.bytes (f : SettingsPut) : List Byte :=
  optBytes 1 f.rollover ++ optBytes 1 f.flushAge ++ optBytes 2 f.roundLimit ++ optBytes 1 f.linkSilence
  ++ optBytes 2 f.escalation

def readSettingsPut : Reading SettingsPut := do
  let rollover ← readOpt (readNum 1)
  let flushAge ← readOpt (readNum 1)
  let roundLimit ← readOpt (readNum 2)
  let linkSilence ← readOpt (readNum 1)
  let escalation ← readOpt (readNum 2)
  pure { rollover, flushAge, roundLimit, linkSilence, escalation }

/-- FOLIO_PUT: its set of sticky flags to clear is one byte of bits behind a presence byte (R137; DESIGN CHOICE, log 59). -/
def FolioPut.bytes (f : FolioPut) : List Byte :=
  be 2 f.folio ++ be 1 f.status ++ be 4 f.limit ++ be 4 f.floorAllowance ++ optSigned 4 f.balance ++ optBytes 1 f.clear

/-- FOLIO_PUT, its set of sticky flags to clear read as one byte of bits behind a presence byte (R137; DESIGN CHOICE, log 59). -/
def readFolioPut : Reading FolioPut := do
  let folio ← readNum 2
  let status ← readNum 1
  let limit ← readNum 4
  let floorAllowance ← readNum 4
  let balance ← readOpt (readSigned 4)
  let clear ← readOpt (readNum 1)
  pure { folio, status, limit, floorAllowance, balance, clear }

def FolioSettle.bytes (f : FolioSettle) : List Byte := be 2 f.folio ++ be 4 (signed 4 f.amount)

def readFolioSettle : Reading FolioSettle := do
  let folio ← readNum 2
  let amount ← readSigned 4
  pure { folio, amount }

def BindPut.bytes (f : BindPut) : List Byte := be 4 f.serial.toNat ++ be 1 f.kind ++ be 1 f.profile ++ be 2 f.locus

def readBindPut : Reading BindPut := do
  let serial ← readNum 4
  let kind ← readNum 1
  let profile ← readNum 1
  let locus ← readNum 2
  pure { serial := BitVec.ofNat 32 serial, kind, profile, locus }

/-- PROFILE_PUT: its requirement mask is two bytes of bits (R83; DESIGN CHOICE, log 59). -/
def ProfilePut.bytes (f : ProfilePut) : List Byte :=
  be 1 f.profile ++ be 1 f.openTime ++ be 2 f.mask.toNat ++ be 2 f.rate ++ be 4 f.priceCeiling ++ be 1 f.qtyLimit
  ++ be 4 f.offlineCeiling ++ be 1 f.maskPrice ++ be 1 f.maskQty

def readProfilePut : Reading ProfilePut := do
  let profile ← readNum 1
  let openTime ← readNum 1
  let mask ← readNum 2
  let rate ← readNum 2
  let priceCeiling ← readNum 4
  let qtyLimit ← readNum 1
  let offlineCeiling ← readNum 4
  let maskPrice ← readNum 1
  let maskQty ← readNum 1
  pure { profile, openTime, mask := BitVec.ofNat 16 mask, rate, priceCeiling, qtyLimit, offlineCeiling, maskPrice, maskQty }

/-- READER_LIST: the form's code and its field (R84, R203). -/
def ListForm.bytes (f : ListForm) : List Byte :=
  be 1 (listFormCode f) ++
    match f with
    | .entries line => be 1 line
    | .bindings start => be 2 start
    | .profiles | .other _ => []

def readListForm : Reading ListForm := do
  let code ← readNum 1
  match code with
  | 1 => .entries <$> readNum 1
  | 2 => .bindings <$> readNum 2
  | 3 => pure .profiles
  | _ => pure (.other code)

/-- READER_GET: line, drop and serial, each behind its presence byte (R85, R203). A request carries the line and drop or the
serial. -/
def GetForm.bytes : GetForm → List Byte
  | .place line drop => optBytes 1 (some line) ++ optBytes 1 (some drop) ++ optBytes 4 none
  | .serial serial => optBytes 1 none ++ optBytes 1 none ++ optBytes 4 (some serial.toNat)

def readGetForm : Reading GetForm := do
  let line ← readOpt (readNum 1)
  let drop ← readOpt (readNum 1)
  let serial ← readOpt (readNum 4)
  match line, drop, serial with
  | some line, some drop, none => pure (.place line drop)
  | none, none, some serial => pure (.serial (BitVec.ofNat 32 serial))
  | _, _, _ => failure

def PresenceSet.bytes (f : PresenceSet) : List Byte := be 2 f.record ++ be 1 f.presence ++ optBytes 1 f.site

def readPresenceSet : Reading PresenceSet := do
  let record ← readNum 2
  let presence ← readNum 1
  let site ← readOpt (readNum 1)
  pure { record, presence, site }

def SiteOpen.bytes (f : SiteOpen) : List Byte := be 1 f.site ++ listBytes (be 1) f.lanes

def readSiteOpen : Reading SiteOpen := do
  let site ← readNum 1
  let lanes ← readList (readNum 1)
  pure { site, lanes }

def SiteLastCall.bytes (f : SiteLastCall) : List Byte := be 1 f.site ++ be 4 f.deadline

def readSiteLastCall : Reading SiteLastCall := do
  let site ← readNum 1
  let deadline ← readNum 4
  pure { site, deadline }

/-- A pair of FAULT_PLAN_PUT: a source's code and its set of actions, one byte of bits (R182; DESIGN CHOICE, log 59). -/
def planPairBytes (x : Nat × Nat) : List Byte := be 1 x.1 ++ be 1 x.2

def readPlanPair : Reading (Nat × Nat) := do
  let source ← readNum 1
  let actions ← readNum 1
  pure (source, actions)

/-! ## Host frames (12.2) -/

/-- The tag and kind code of a host request (12.2); none for every other command. -/
def requestOf : Instr → Option (Tag × Byte)
  | .status t _ => some (t, 0x01) | .news t _ => some (t, 0x02) | .restart t _ => some (t, 0x03)
  | .format t _ => some (t, 0x04) | .setClock t _ => some (t, 0x10) | .settingsPut t _ => some (t, 0x11)
  | .guestGet t _ => some (t, 0x20) | .guestPut t _ => some (t, 0x21) | .cardAdd t _ => some (t, 0x22)
  | .cardMarkLost t _ => some (t, 0x23) | .cardRemove t _ => some (t, 0x24) | .planPut t _ => some (t, 0x25)
  | .folioGet t _ => some (t, 0x30) | .folioPut t _ => some (t, 0x31) | .folioSettle t _ => some (t, 0x32)
  | .takePostings t _ => some (t, 0x33) | .bindPut t _ => some (t, 0x40) | .bindRemove t _ => some (t, 0x41)
  | .profilePut t _ => some (t, 0x42) | .readerList t _ => some (t, 0x43) | .readerGet t _ => some (t, 0x44)
  | .lineEnumerate t _ => some (t, 0x50) | .lineCheck t _ => some (t, 0x51) | .lineIsolate t _ => some (t, 0x52)
  | .lineRestore t _ => some (t, 0x53) | .presenceSet t _ => some (t, 0x60) | .tallyGet t _ => some (t, 0x61)
  | .rosterGet t _ => some (t, 0x62) | .siteOpen t _ => some (t, 0x63) | .siteLastCall t _ => some (t, 0x64)
  | .siteClose t _ => some (t, 0x65) | .census t _ => some (t, 0x66) | .musterBegin t _ => some (t, 0x70)
  | .musterEnd t _ => some (t, 0x71) | .musterGet t _ => some (t, 0x72) | .flush t _ => some (t, 0x78)
  | .faultPlanPut t _ => some (t, 0x80) | .faultClear t _ => some (t, 0x81) | .resume t _ => some (t, 0x82)
  | _ => none

/-- The body of a request whose body has its kind's form; none for a body without it, and for every other command. -/
def bodyOf : Instr → Option (List Byte)
  | .status _ f | .news _ f | .restart _ f | .format _ f | .tallyGet _ f | .census _ f | .musterBegin _ f | .musterEnd _ f
  | .musterGet _ f | .flush _ f | .resume _ f => if f then some [] else none
  | .setClock _ b => b.map SetClock.bytes
  | .settingsPut _ b => b.map SettingsPut.bytes
  | .guestGet _ b | .folioGet _ b | .takePostings _ b | .rosterGet _ b => b.map (be 2)
  | .guestPut _ b => b.map GuestPut.bytes
  | .cardAdd _ b | .cardMarkLost _ b | .cardRemove _ b => b.map CardRef.bytes
  | .planPut _ b => b.map PlanPut.bytes
  | .folioPut _ b => b.map FolioPut.bytes
  | .folioSettle _ b => b.map FolioSettle.bytes
  | .bindPut _ b => b.map BindPut.bytes
  | .bindRemove _ b => b.map fun serial => be 4 serial.toNat
  | .profilePut _ b => b.map ProfilePut.bytes
  | .readerList _ b => b.map ListForm.bytes
  | .readerGet _ b => b.map GetForm.bytes
  | .lineEnumerate _ b | .lineCheck _ b | .lineIsolate _ b | .lineRestore _ b | .siteClose _ b | .faultClear _ b =>
    b.map (be 1)
  | .presenceSet _ b => b.map PresenceSet.bytes
  | .siteOpen _ b => b.map SiteOpen.bytes
  | .siteLastCall _ b => b.map SiteLastCall.bytes
  | .faultPlanPut _ b => b.map (listBytes planPairBytes)
  | _ => none

/-- The frame a host sends a request in (12.2); none where `bodyOf` is none. -/
def frameOf (c : Instr) : Option (List Byte) :=
  match requestOf c, bodyOf c with
  | some (tag, kind), some body => some (hostFrame tag kind body)
  | _, _ => none

/-- The request that a kind code and a body are: with no fields where the body has not the kind's form (R202); none for a
code that is no request kind. -/
def requestRead (tag : Tag) (kind : Byte) (body : List Byte) : Option Instr :=
  let form := body.isEmpty
  let byte := wholeOf (readNum 1) body
  let pair := wholeOf (readNum 2) body
  let card := wholeOf readCardRef body
  match kind.toNat with
  | 0x01 => some (.status tag form)
  | 0x02 => some (.news tag form)
  | 0x03 => some (.restart tag form)
  | 0x04 => some (.format tag form)
  | 0x10 => some (.setClock tag (wholeOf readSetClock body))
  | 0x11 => some (.settingsPut tag (wholeOf readSettingsPut body))
  | 0x20 => some (.guestGet tag pair)
  | 0x21 => some (.guestPut tag (wholeOf readGuestPut body))
  | 0x22 => some (.cardAdd tag card)
  | 0x23 => some (.cardMarkLost tag card)
  | 0x24 => some (.cardRemove tag card)
  | 0x25 => some (.planPut tag (wholeOf readPlanPut body))
  | 0x30 => some (.folioGet tag pair)
  | 0x31 => some (.folioPut tag (wholeOf readFolioPut body))
  | 0x32 => some (.folioSettle tag (wholeOf readFolioSettle body))
  | 0x33 => some (.takePostings tag pair)
  | 0x40 => some (.bindPut tag (wholeOf readBindPut body))
  | 0x41 => some (.bindRemove tag (wholeOf (BitVec.ofNat 32 <$> readNum 4) body))
  | 0x42 => some (.profilePut tag (wholeOf readProfilePut body))
  | 0x43 => some (.readerList tag (wholeOf readListForm body))
  | 0x44 => some (.readerGet tag (wholeOf readGetForm body))
  | 0x50 => some (.lineEnumerate tag byte)
  | 0x51 => some (.lineCheck tag byte)
  | 0x52 => some (.lineIsolate tag byte)
  | 0x53 => some (.lineRestore tag byte)
  | 0x60 => some (.presenceSet tag (wholeOf readPresenceSet body))
  | 0x61 => some (.tallyGet tag form)
  | 0x62 => some (.rosterGet tag pair)
  | 0x63 => some (.siteOpen tag (wholeOf readSiteOpen body))
  | 0x64 => some (.siteLastCall tag (wholeOf readSiteLastCall body))
  | 0x65 => some (.siteClose tag byte)
  | 0x66 => some (.census tag form)
  | 0x70 => some (.musterBegin tag form)
  | 0x71 => some (.musterEnd tag form)
  | 0x72 => some (.musterGet tag form)
  | 0x78 => some (.flush tag form)
  | 0x80 => some (.faultPlanPut tag (wholeOf (readList readPlanPair) body))
  | 0x81 => some (.faultClear tag byte)
  | 0x82 => some (.resume tag form)
  | _ => none

/-- The command that the bytes from a start byte on stand for: a discard, a frame of no request kind, or a request; none while
they are no whole frame (R188, R189). -/
def hostCommand (bs : List Byte) : Option Instr :=
  match bs with
  | [] => none
  | start :: rest =>
    if start ≠ 0xA5 ∨ rest.length < 2 then none
    else if 1024 < numAt rest 0 2 then some (.hostFrameDiscard (.oversize (numAt rest 0 2)))
    else if rest.length ≠ numAt rest 0 2 + 7 then none
    else
      match openBlock rest with
      | none => some (.hostFrameDiscard .checkWord)
      | some covered =>
        let tag : Tag := BitVec.ofNat 16 (numAt covered 2 2)
        let kind : Byte := BitVec.ofNat 8 (numAt covered 4 1)
        some ((requestRead tag kind (covered.drop 5)).getD (.badKind tag kind))

/-- Bytes received at the host link put the command they stand for on the queue. -/
def State.hear (s : State) (bs : List Byte) : State :=
  match hostCommand bs with
  | some c => { s with pending := s.pending ++ [c] }
  | none => s

/-! ## Answers on a deck line (12.3) -/

/-- The address an answer to a frame carries: the drop the frame named; none for a frame that no reader answers (12.3). -/
def DeckFrame.answerAddress : DeckFrame → Option Nat
  | .call d | .verdict d _ _ | .assign d => some d
  | .dropAll | .probe => none

def readSaleLine : Reading SaleLine := do
  let cls ← readNum 1
  let price ← readNum 3
  let qty ← readNum 1
  pure { cls, price, qty }

/-- The body of an OFFER: 9 bytes from a reader of another kind than BAR, and the sale lines after them from a BAR reader. -/
def readOffer (length : Nat) : Reading (Nat × Nat × Option (List SaleLine)) := do
  let seq ← readNum 1
  let card ← readNum 8
  let lines ← if length = 9 then pure none else some <$> readList readSaleLine
  pure (seq, card, lines)

/-- A reader kind's code and a serial. -/
def readJoin : Reading JoinAnswer := do
  let code ← readNum 1
  let serial ← readNum 4
  match readerKindOfCode code with
  | some kind => pure { kind, serial := BitVec.ofNat 32 serial }
  | none => failure

/-- The answer that the kind and body of a good frame are; none for a kind or body that is no answer's (R202). -/
def answerRead (n : Fin 4) (dur : Nat) (kind : Nat) (body : List Byte) : Option Instr :=
  match kind with
  | 0x11 => if body.isEmpty then some (.idle n dur) else none
  | 0x12 =>
    (wholeOf (readOffer body.length) body).map fun x =>
      .offer n dur (BitVec.ofNat 8 x.1) (BitVec.ofNat 64 x.2.1) x.2.2
  | 0x13 => (wholeOf (readNum 1) body).map fun seq => .cancel n dur (BitVec.ofNat 8 seq)
  | 0x14 =>
    match wholeOf (readNum 1) body with
    | some 1 => some (.receipt n dur true)
    | some 2 => some (.receipt n dur false)
    | _ => none
  | 0x15 => (wholeOf readJoin body).map (.join n dur)
  | _ => none

/-- The command that the bytes answering a frame are: a garble where the check word, the address, the length or the content
fails (R48, R202). -/
def answerCommand (n : Fin 4) (dur address : Nat) (bs : List Byte) : Instr :=
  match openBlock bs with
  | none => .garble n dur
  | some covered =>
    if covered.length < 3 ∨ numAt covered 0 1 ≠ address ∨ numAt covered 2 1 ≠ covered.length - 3 then .garble n dur
    else (answerRead n dur (numAt covered 1 1) (covered.drop 3)).getD (.garble n dur)

/-- Bytes that answer the frame of the turn in progress put the command they are on the queue. -/
def State.hearAnswer (s : State) (n : Fin 4) (dur : Nat) (bs : List Byte) : State :=
  match s.lines[n].turn.bind DeckFrame.answerAddress with
  | some address => { s with pending := s.pending ++ [answerCommand n dur address bs] }
  | none => s

end Sys2Proof.Machine
end

