-- ==== Sys2Proof/Safety.lean ====
section
/-! DEFINITION. What counts as a safe state, and the terms the claims are stated in. -/
namespace Sys2Proof.Machine

/-! ## States that take a request -/

/-- A request frame arriving now is taken in hand (R189, R190, R197). -/
def State.takesRequest (s : State) : Prop :=
  s.inReset = false ∧ s.link.inHand = none ∧ s.startUp.phase ≠ .readingConfig ∧ s.link.tx.length < 8

/-- It also reaches its owner: the power state is NORMAL (R189 test 2). -/
def State.servesRequest (s : State) : Prop := s.takesRequest ∧ s.power.state = .normal

/-- The port is not idle while a job waits (R28, R29). -/
def State.portSettled (s : State) : Prop := s.port.job = none → s.port.queue = []

/-- A queue place is free for a job (R28, R45). -/
def State.placeFree (s : State) : Prop := s.port.queue.length < 16 ∧ s.power.state ≠ .haltedSafe

/-! ## States that follow -/

/-- A valid frame has arrived: the receiver hunts, the silence timer is 0 and LINK_SILENT's condition is over; nothing
else is changed (R175, R188). -/
def State.heard (s : State) : State :=
  { s with
    link := { s.link with receiver := .hunting, silence := 0 }
    router := s.router.setEntry .linkSilent { s.router.entry .linkSilent with present := false } }

/-- The state after one reply has gone on the transmit list, and nothing is in hand. -/
def State.answered (s : State) (tag : Tag) (kind : Byte) (result : Result) (body : ReplyBody) : State :=
  { s with link := { s.link with
      inHand := none, tx := s.link.tx ++ [{ tag := tag, kind := kind, result := result, body := body }] } }

/-- The state with a request in hand at a stage of its work. -/
def State.holding (s : State) (tag : Tag) (kind : Byte) (work : Work) : State :=
  { s with link := { s.link with inHand := some { tag := tag, kind := kind, work := work } } }

/-- The request in hand waits for a queue place, once, behind those that wait (R21, R28). -/
def State.waitsForPlace (s : State) : State :=
  { s with port := { s.port with
      waiting := if .handConf ∈ s.port.waiting then s.port.waiting else s.port.waiting ++ [.handConf] } }

/-- A job handed to the port: taken at once when the port is idle, else the last in the queue (R28). -/
def State.withJob (s : State) (j : Job) : State :=
  match s.port.job with
  | none =>
    { s with port := { s.port with job := some j, record := s.jobRecord j, data := s.jobData j, silent := false } }
  | some _ => { s with port := { s.port with queue := s.port.queue ++ [j] } }

/-- The record request a command carries, when its fields are in range (R8); none for every other command. -/
def recordRequestOf : Instr → Option RecordReq
  | .guestGet _ b => (b.bind (below 2048)).map fun n => .guestGet n
  | .guestPut _ b => (b.bind parseGuestPut).map fun x => .guestPut x.1 x.2
  | .cardAdd _ b => (b.bind parseCardRef).map fun x => .cardAdd x.1 x.2.1 x.2.2
  | .cardMarkLost _ b => (b.bind parseCardRef).map fun x => .cardMarkLost x.1 x.2.1 x.2.2
  | .cardRemove _ b => (b.bind parseCardRef).map fun x => .cardRemove x.1 x.2.1 x.2.2
  | .folioGet _ b => (b.bind (below 1024)).map fun n => .folioGet n
  | .folioPut _ b => b.bind parseFolioPut
  | .folioSettle _ b => b.bind parseFolioSettle
  | .presenceSet _ b => b.bind parsePresenceSet
  | _ => none

/-- The kinds refused MODE in MAINTENANCE (Request kinds). -/
def serviceKinds : List Byte := [0x50, 0x53, 0x61, 0x62, 0x63, 0x64, 0x65, 0x66, 0x70]

/-- A request whose body has not the form of its kind (R189 test 4, R202). -/
def malformed : Instr → Bool
  | .status _ f | .news _ f | .restart _ f | .format _ f | .tallyGet _ f | .census _ f | .musterBegin _ f | .musterEnd _ f
  | .musterGet _ f | .flush _ f | .resume _ f => !f
  | .setClock _ b => b.isNone | .settingsPut _ b => b.isNone | .guestGet _ b => b.isNone | .guestPut _ b => b.isNone
  | .cardAdd _ b | .cardMarkLost _ b | .cardRemove _ b => b.isNone | .planPut _ b => b.isNone | .folioGet _ b => b.isNone
  | .folioPut _ b => b.isNone | .folioSettle _ b => b.isNone | .takePostings _ b => b.isNone | .bindPut _ b => b.isNone
  | .bindRemove _ b => b.isNone | .profilePut _ b => b.isNone | .readerList _ b => b.isNone | .readerGet _ b => b.isNone
  | .lineEnumerate _ b | .lineCheck _ b | .lineIsolate _ b | .lineRestore _ b => b.isNone | .presenceSet _ b => b.isNone
  | .rosterGet _ b => b.isNone | .siteOpen _ b => b.isNone | .siteLastCall _ b => b.isNone | .siteClose _ b => b.isNone
  | .faultPlanPut _ b => b.isNone | .faultClear _ b => b.isNone
  | _ => false

/-- The urgent write-back of slot i, changed in state s: of a WRITING slot the urgent mark is set; a write-back queued before
carries the change; else one is queued while a place is free, and the urgent mark is set while none is. The port may have
taken the write-back by now (R42). -/
def State.writesUrgently (s : State) (cache : Cache) (port : Port) (i : Fin 128) : Prop :=
  let x := s.slot i
  let y := cache.slots[i]
  let taken := port.job = some (.writeBack i)
  (x.state = .writing → y.urgent = true)
  ∧ (x.state ≠ .writing →
    (x.wbQueued = true → y.wbQueued = true ∨ taken)
    ∧ (x.wbQueued = false → s.placeFree → y.wbQueued = true ∧ .writeBack i ∈ port.queue ∨ taken)
    ∧ (x.wbQueued = false → ¬s.placeFree → y.urgent = true ∨ taken))

/-- A slot's record has been changed, by the table of record changes: a CLEAN slot becomes DIRTY since now, a DIRTY one keeps
the time it is dirty since, a WRITING one bears the dirty-again mark with the time the mark was first set. The port may have
taken the slot's write-back by now, which makes a DIRTY slot WRITING (R38, R39). -/
def Slot.dirtied (old new : Slot) (now : Nat) (taken : Prop) (r : Rec) : Prop :=
  new.content = some r
  ∧ (old.state = .writing →
      new.state = .writing ∧ new.dirtySince = old.dirtySince ∧ new.dirtyAgain = some (old.dirtyAgain.getD now))
  ∧ (old.state ≠ .writing →
      (new.state = .dirty ∨ new.state = .writing ∧ taken) ∧ new.dirtyAgain = old.dirtyAgain
      ∧ new.dirtySince = if old.state = .clean then now else old.dirtySince)

/-- Slot i's record has been changed to one from one state to the next (R38). -/
def State.dirtied (s t : State) (i : Fin 128) (r : Rec) : Prop :=
  (s.slot i).dirtied (t.slot i) s.clock.seconds (t.port.job = some (.writeBack i)) r

/-- One request has changed the record in slot i: the slot is most recent, and no other slot is touched (R38). -/
def recordChanged (s : State) (cache : Cache) (port : Port) (i : Fin 128) (r : Rec) : Prop :=
  (s.slot i).dirtied cache.slots[i] s.clock.seconds (port.job = some (.writeBack i)) r
  ∧ cache.recency = i :: s.cache.recency.erase i
  ∧ ∀ j : Fin 128, j ≠ i → cache.slots[j] = s.slot j

/-- One decision has changed the record in slot i: the slot is most recent and its urgent write-back is on its way (R38, R42). -/
def State.changedUrgently (s t : State) (i : Fin 128) (r : Rec) : Prop :=
  s.dirtied t i r ∧ s.writesUrgently t.cache t.port i ∧ t.cache.recency = i :: s.cache.recency.erase i

/-- One decision has changed the record in slot i twice, and the port took the write-back of the first change: the slot is
WRITING under the dirty-again mark of the second, with its urgent mark set (R38, R39, R42). -/
def State.changedAgain (s t : State) (i : Fin 128) (r : Rec) : Prop :=
  s.port.job = none ∧ t.port.job = some (.writeBack i) ∧ (s.slot i).state ≠ .writing ∧ (t.slot i).state = .writing
  ∧ (t.slot i).content = some r ∧ (t.slot i).dirtyAgain = some ((s.slot i).dirtyAgain.getD s.clock.seconds)
  ∧ (t.slot i).dirtySince = (if (s.slot i).state = .clean then s.clock.seconds else (s.slot i).dirtySince)
  ∧ (t.slot i).urgent = true ∧ t.cache.recency = i :: s.cache.recency.erase i

/-- MEM_CHECK and MEM_SILENT are as they were: a job that the silent memory has cut short reports nothing more at its end (R25,
R30). -/
def State.memoryConditionsStay (s t : State) : Prop :=
  t.router.entry .memCheck = s.router.entry .memCheck ∧ t.router.entry .memSilent = s.router.entry .memSilent

/-- The two records of a sale have changed in slots i and j, which are the two most recent (R38). Which of them comes first no
rule says (log 46). -/
def State.bothDirtied (s t : State) (i j : Fin 128) (a b : Rec) : Prop :=
  let rest := (s.cache.recency.erase i).erase j
  s.dirtied t i a ∧ s.dirtied t j b ∧ (t.cache.recency = i :: j :: rest ∨ t.cache.recency = j :: i :: rest)

/-- A read of a record's block fails its check: it is told so, or the block in memory does not open to the record (R24,
R202). -/
def State.readFails (s : State) (k : RecKey) (r : ReadResult) : Prop :=
  r = .corrupt ∨ Rec.ofBlock k (s.mem.readBlock (recordAddress k) (recordSize k)) = none

/-! ## Conditions -/

/-- A source's entry after its condition was judged: present as judged, its mark set and its count one more when the condition
begins (R174, R176). -/
def FaultEntry.judged (e : FaultEntry) (present : Bool) : FaultEntry :=
  if present = true ∧ e.present = false then { e with present := true, raised := true, count := min (e.count + 1) 65535 }
  else { e with present := present }

/-- JOURNAL_HIGH and JOURNAL_FULL after the untaken count was judged (R133). -/
def State.journalJudged (s t : State) (untaken : Nat) : Prop :=
  t.router.entry .journalHigh = (s.router.entry .journalHigh).judged (decide (1792 ≤ untaken))
  ∧ t.router.entry .journalFull = (s.router.entry .journalFull).judged (decide (2048 ≤ untaken))

/-! ## Offers -/

/-- A round turn whose answer may come: no requester waits for a queue place and every commit is queued, so that the answer
alone decides what follows. -/
def State.awaitsAnswer (s : State) (n : Fin 4) (e : Entry) : Prop :=
  s.inReset = false ∧ s.port.waiting = [] ∧ s.journal.commits.all (·.queued) = true ∧ s.calledEntry n = some e

/-- A verdict has become outgoing at a time: a new life of its reader's kind, no delivery yet (R61, R63). -/
def Entry.outgoingSince (x : Entry) (now : Nat) (seq : Byte) (v : Verdict) : Prop :=
  x.outgoing = some
    { seq := seq, verdict := v, deliveries := 0
      expiry := min (now + (match x.kind with | .lock => 3 | .bar => 30 | _ => 10)) 4294967295 }

/-- The offer is DECIDED with a verdict, remembered and outgoing (R56, R61). -/
def Entry.decidedAs (x : Entry) (now : Nat) (seq : Byte) (v : Verdict) : Prop :=
  x.disposition = .decided ∧ x.remembered = some v ∧ x.outgoingSince now seq v

/-- The offer is deferred, and the reader is told WAIT (R59). -/
def Entry.toldWait (x : Entry) (now : Nat) (seq : Byte) : Prop :=
  x.disposition = .deferred ∧ x.lastSeq = some seq ∧ x.outgoingSince now seq { kind := .wait, reason := .none, result := .none }

/-- The verdict that refuses an offer at a reader of a kind, with the result fields of its kind (12.3). -/
def refusing (kind : ReaderKind) (r : Reason) : Verdict :=
  match kind with
  | .bar => { kind := .refuse, reason := r, result := .lineIndex 0 }
  | .laneOut | .laneIn => { kind := .deny, reason := r, result := .lane none none }
  | .lock | .muster => { kind := .deny, reason := r, result := .none }

/-- The trail an entry has after a decision: one entry more at a LOCK reader (R97, R98). -/
def Entry.trailAfter (e : Entry) (record : Option (Fin 2048)) (card : CardId) (v : Verdict) (now : Nat) : Option Trail :=
  if e.kind = .lock then
    e.trail.map fun tr => tr.append
      { record := record, card := card, verdict := v.kind, reason := v.reason, time := now, delivered := false }
  else e.trail

/-- No record, card, serial or byte of memory changes from one state to the next. -/
def State.recordsKept (s t : State) : Prop :=
  (∀ k : Fin 128, (t.slot k).key = (s.slot k).key ∧ (t.slot k).content = (s.slot k).content) ∧ t.index = s.index
  ∧ t.journal.next = s.journal.next ∧ t.journal.head = s.journal.head ∧ t.journal.tail = s.journal.tail ∧ t.mem = s.mem

/-- The entry holds holds for the records named alone (R37). -/
def State.holdsOnly (s : State) (n : Fin 4) (drop : Nat) (keys : List RecKey) : Prop :=
  ∀ k : Fin 128, ∀ h ∈ (s.slot k).holds, h.line = n → h.drop = drop → h.key ∈ keys

/-- The entry's hold for a record stands on a slot, with one expiry (R37). -/
def Slot.heldFor (x : Slot) (n : Fin 4) (drop : Nat) (k : RecKey) (expiry : Nat) : Prop :=
  (∃ h ∈ x.holds, h.line = n ∧ h.drop = drop ∧ h.key = k)
  ∧ ∀ h ∈ x.holds, h.line = n → h.drop = drop → h.key = k → h.expiry = expiry

/-- A notice of a body has been queued. -/
def State.noticed (s : State) (body : NoticeBody) : Prop := ∃ x ∈ s.notices.items, x.body = body

/-! ## Power warning -/

/-- EMERGENCY_FLUSH has begun, with a cache and a port. No fill or pair is queued; a pair's place has its victim's write-back,
and every other job but a journal read stays. The slot of a queued fill is EMPTY; every other slot keeps its record, its
pending commits and the time it is dirty since. A pair's victim is DIRTY again, its write-back queued, without the incoming
record, its waiters and its holds. Every DIRTY slot has a write-back queued, or waits for a place; the port may have taken one
by now (R39, R44, R45). -/
def State.flushEntered (s : State) (cache : Cache) (port : Port) : Prop :=
  cache.recency = s.cache.recency ∧ cache.flush = s.cache.flush
  ∧ (∀ i : Fin 128, .fill i ∉ port.queue ∧ .pair i ∉ port.queue)
  ∧ (∀ j ∈ s.port.queue, j.kind ∉ [.fill, .pair, .journalRead] → j ∈ port.queue ∨ port.job = some j)
  ∧ (s.port.job ≠ none → (∀ n, .journalRead n ∉ s.port.queue) → port.job = s.port.job
      ∧ ∃ more : List (Fin 128), port.queue =
          (s.port.queue.filterMap fun j => match j with | .fill _ => none | .pair i => some (.writeBack i) | j => some j)
            ++ more.map .writeBack)
  ∧ ∀ i : Fin 128,
    let x := s.slot i
    let y := cache.slots[i]
    let taken := y.state = .writing ∧ port.job = some (.writeBack i)
    (.fill i ∈ s.port.queue → y = Slot.blank)
    ∧ (.fill i ∉ s.port.queue →
      y.key = x.key ∧ y.content = x.content ∧ y.commitPending = x.commitPending ∧ y.dirtySince = x.dirtySince
      ∧ (.pair i ∈ s.port.queue → x.incoming ≠ none →
          y.incoming = none ∧ y.waiters = [] ∧ y.holds = x.holds.filter (fun h => decide (x.key = some h.key))
          ∧ (y.state = .dirty ∧ y.wbQueued = true ∧ .writeBack i ∈ port.queue ∨ taken))
      ∧ (.pair i ∉ s.port.queue ∨ x.incoming = none →
          y.incoming = x.incoming ∧ y.waiters = x.waiters.filter (fun w => decide (w ≠ .host)) ∧ y.holds = x.holds
          ∧ y.dirtyAgain = x.dirtyAgain
          ∧ (x.state = .dirty → y.state = .dirty ∧ (y.wbQueued = true ∨ .emergency ∈ port.waiting) ∨ taken)
          ∧ (x.state ≠ .dirty → y.state = x.state)))

/-! ## Start-up -/

/-- START_UP_DONE of SERVICE has been queued, with the figures as they stand (R198). -/
def State.startUpNoticed (t : State) : Prop :=
  t.noticed (.startUpDone false t.startUp.bringUp.toList
    (some (t.landing.aboardGuest, t.landing.aboardCrew, t.landing.ashoreGuest, t.landing.ashoreCrew,
      t.landing.census.skipped.length))
    t.startUp.defaulted (t.journal.next - t.journal.head).toNat t.muster.active)

/-- The census or a bring-up has ended with start-up kept at work or ended: it ends, with START_UP_DONE, when the census and
all four bring-ups have ended, and then alone (R197, R198). -/
def State.startUpJudged (s t : State) : Prop :=
  let ends := t.startUp.censusEnded = true ∧ ∀ m : Fin 4, t.startUp.bringUp[m] ≠ none
  t.startUp.defaulted = s.startUp.defaulted
  ∧ (ends → t.startUp.phase = .running ∧ (s.notices.items.length < 56 → t.startUpNoticed))
  ∧ (¬ends → t.startUp.phase = .bringingUp ∧
      ∀ lines census defaulted untaken muster,
        t.noticed (.startUpDone false lines census defaulted untaken muster) →
        s.noticed (.startUpDone false lines census defaulted untaken muster))

/-- Line n's bring-up has ended, with what it came to. Only its first end counts, and none does once start-up has ended
(R198). -/
def State.bringUpEnded (s t : State) (n : Fin 4) (b : BringUp) : Prop :=
  (s.startUp.phase = .bringingUp → s.startUp.bringUp[n] = none →
    t.startUp.bringUp = s.startUp.bringUp.set n (some b) ∧ t.startUp.censusEnded = s.startUp.censusEnded ∧ s.startUpJudged t)
  ∧ (¬(s.startUp.phase = .bringingUp ∧ s.startUp.bringUp[n] = none) → t.startUp = s.startUp)

/-! ## Safe states -/

/-- The block the job in progress holds is no longer than the largest it can be: a posting for a commit, a bindings
block for any other (R23, 12.6, 12.7). -/
def Port.fits (p : Port) : Prop :=
  p.data.length ≤ match p.job with
    | some .commit => 32
    | _ => 130

/-- The record memory is in its canonical form and the port holds a block that fits the regions (R23). -/
def State.memorySafe (s : State) : Prop := s.mem.wf = true ∧ s.port.fits

/-- The bounds and outputs of the host side: eight transmit places (R190), 64 notices with ATTN driven while one waits
(R191), FAULT as the marks and plans have it once the configuration is read (R174, R177), SAFE in HALTED_SAFE and there
alone (R45, R46), and NORMAL power until the configuration is read (R44, R197). -/
def State.outputsSafe (s : State) : Prop :=
  s.link.tx.length ≤ 8
  ∧ s.notices.items.length ≤ 64
  ∧ (s.pins.attn = true ↔ s.notices.items ≠ [])
  ∧ (s.startUp.phase ≠ .readingConfig → s.pins.fault = s.router.drivesFault)
  ∧ (s.pins.safe = true ↔ s.power.state = .haltedSafe)
  ∧ (s.startUp.phase = .readingConfig → s.power.state = .normal)

/-- The card index holds no identity twice, and none for identity zero (R5). -/
def State.indexSafe (s : State) : Prop := (s.index.map (·.card)).Nodup ∧ ∀ x ∈ s.index, x.card ≠ 0

/-- No one is counted, no census runs and no sale is being committed. -/
def State.countsNothing (s : State) : Prop :=
  s.journal.commits = [] ∧ s.landing.census.running = false ∧ s.landing.roster = [] ∧ s.landing.aboard = []

/-- What rests while the configuration is read, and in MAINTENANCE. While the configuration is read no line works and no
request is in hand (R197). In MAINTENANCE no line serves, and the only work of one is a check that LINE_CHECK asks (R65, R72,
R199). In both, no one is counted and no sale is made (R156, R199). -/
def State.quiet (s : State) : Prop :=
  (s.startUp.phase = .readingConfig →
    s.link.inHand = none ∧ s.countsNothing
    ∧ ∀ n : Fin 4, s.lines[n].state = .isolated ∧ s.lines[n].ops = [] ∧ s.lines[n].turn = none
        ∧ s.lines[n].checking = none ∧ s.lines[n].enumerating = none)
  ∧ (s.service = false →
    s.countsNothing
    ∧ ∀ n : Fin 4, (s.lines[n].state = .isolated ∨ s.lines[n].state = .checking)
        ∧ (∀ op ∈ s.lines[n].ops, op = .check .request) ∧ s.lines[n].turn = none ∧ s.lines[n].enumerating = none
        ∧ ∀ c : CheckRun, s.lines[n].checking = some c → c.cause = .request ∧ c.fromServing = false)

/-- A slot names a record: it holds it, or a fill or a pair is to bring it in (R31). -/
def Slot.names (x : Slot) (k : RecKey) : Prop := x.key = some k ∨ x.incoming = some k

/-- No record is named by two slots, nor twice by one; an EMPTY slot names none; every other slot has a record and stands in the
recency order, which lists no slot twice (R31). -/
def State.cacheSafe (s : State) : Prop :=
  (∀ i : Fin 128, (s.slot i).state = .empty → ∀ k : RecKey, ¬(s.slot i).names k)
  ∧ (∀ i : Fin 128, (s.slot i).state ≠ .empty → (s.slot i).key ≠ none ∧ i ∈ s.cache.recency)
  ∧ (∀ (i j : Fin 128) (k : RecKey), (s.slot i).names k → (s.slot j).names k → i = j)
  ∧ (∀ (i : Fin 128) (k : RecKey), (s.slot i).key = some k → (s.slot i).incoming ≠ some k)
  ∧ s.cache.recency.Nodup

/-- The reader table stands in the order of line and drop, no two entries at one place, each drop from 1 to 48; a line being
enumerated has entries below the drop in hand alone (R67, R68, R74). -/
def State.tableSafe (s : State) : Prop :=
  s.entries.Pairwise (fun a b => a.before b = true)
  ∧ (∀ e ∈ s.entries, 1 ≤ e.drop ∧ e.drop ≤ 48)
  ∧ ∀ (n : Fin 4) (run : EnumRun), s.lines[n].enumerating = some run →
      run.drop ≤ 48 ∧ (run.drop ≠ 0 → ∀ e ∈ s.entries, e.line = n → e.drop < run.drop)

/-- From the head to the next serial there are at most 2,048 postings: those committed up to the tail, then the sales on the
commit list, one serial each in order; a TAKE_POSTINGS at work takes committed postings alone (R125, R131, R133, R134). -/
def State.journalSafe (s : State) : Prop :=
  (s.journal.next - s.journal.head).toNat ≤ 2048
  ∧ (s.journal.tail - s.journal.head).toNat + s.journal.commits.length = (s.journal.next - s.journal.head).toNat
  ∧ s.journal.commits.map (·.serial)
      = (List.range s.journal.commits.length).map (fun i => s.journal.tail + BitVec.ofNat 32 i)
  ∧ ∀ run : TakeRun, s.work = some (.postings run) → run.count ≤ (s.journal.tail - s.journal.head).toNat

/-- How many of the records counted ABOARD pass a test. -/
def State.aboardWith (s : State) (p : AboardEntry → Bool) : Nat := s.landing.aboard.countP p
/-- How many roster entries pass a test. -/
def State.rosterWith (s : State) (p : RosterEntry → Bool) : Nat := s.landing.roster.countP p

/-- Whether a record counted ABOARD stands in a station's mustered count, and in the crew's (R165). -/
def AboardEntry.inStation (x : AboardEntry) (k : Fin 8) : Bool := decide (x.category = .guest) && decide (x.station = k) && x.mustered
def AboardEntry.inCrew (x : AboardEntry) : Bool := decide (x.category = .crew) && x.mustered

/-- The mustered counts have moved by R165's table: one away from the count that a record left, held at 0, and one more to the
count that one entered. -/
def Muster.movedTo (old new : Muster) (left entered : Option AboardEntry) : Prop :=
  (∀ k : Fin 8, new.mustered[k] =
      old.mustered[k] - (left.any fun x => x.inStation k).toNat + (entered.any fun x => x.inStation k).toNat)
  ∧ new.crewMustered = old.crewMustered - (left.any (·.inCrew)).toNat + (entered.any (·.inCrew)).toNat

/-- The roster and the site counts agree: the roster is in order, names no record twice and no CLOSED site, and the ashore
tallies and site counts are the numbers of its entries (R141, R142, R147). -/
def State.rosterSafe (s : State) : Prop :=
  s.landing.roster.Pairwise (fun a b => a.before b = true)
  ∧ (s.landing.roster.map (·.record)).Nodup
  ∧ (∀ e ∈ s.landing.roster, s.landing.sites[e.site].state ≠ .closed)
  ∧ (∀ t : Fin 4, s.landing.sites[t].count = s.rosterWith fun e => decide (e.site = t))
  ∧ s.landing.ashoreGuest = s.rosterWith (fun e => decide (e.category = .guest))
  ∧ s.landing.ashoreCrew = s.rosterWith (fun e => decide (e.category = .crew))

/-- The counts of those aboard agree: no record is counted twice, none stands in the roster too, and the aboard tallies and
the station counts are the numbers of those they count; a mustered count is no more than the number of those counted into it,
and with no muster no one is (R141, R165). A holder whom R164's test finds mustered by a stamp of an earlier muster takes one
away though it was never added (log 32). -/
def State.aboardSafe (s : State) : Prop :=
  (s.landing.aboard.map (·.record)).Nodup
  ∧ (∀ x ∈ s.landing.aboard, ∀ e ∈ s.landing.roster, x.record ≠ e.record)
  ∧ s.landing.aboardGuest = s.aboardWith (fun x => decide (x.category = .guest))
  ∧ s.landing.aboardCrew = s.aboardWith (fun x => decide (x.category = .crew))
  ∧ (∀ k : Fin 8, s.landing.stations[k] = s.aboardWith fun x => decide (x.category = .guest) && decide (x.station = k))
  ∧ (∀ k : Fin 8, s.muster.mustered[k] ≤
      s.aboardWith fun x => x.inStation k)
  ∧ s.muster.crewMustered ≤ s.aboardWith (·.inCrew)
  ∧ (s.muster.active = false → ∀ x ∈ s.landing.aboard, x.mustered = false)

/-- The counts of the landing and muster units are right (R141, R142, R165). -/
def State.countsSafe (s : State) : Prop := s.rosterSafe ∧ s.aboardSafe

end Sys2Proof.Machine
end

