-- ==== Sys2Proof/WellFormed.lean ====
section
/-! DEFINITION. The commands whose fields fit the bytes their frames carry them in (12.2, 12.3). A well-formed request may
still be out of a rule's range, which R189 test 4 answers BAD_FIELD. -/
namespace Sys2Proof

/-- A number that fits n bytes. -/
def fits (n v : Nat) : Bool := decide (v < 256 ^ n)

/-- A signed number that fits n bytes in two's complement. -/
def fitsSigned (n : Nat) (v : Int) : Bool := decide (-(256 ^ n : Int) ≤ 2 * v ∧ 2 * v < (256 ^ n : Int))

/-- A field that may be absent. -/
def fitsOpt (n : Nat) (v : Option Nat) : Bool := v.all (fits n)

/-- A list behind its count byte. -/
def fitsList {α : Type} (p : α → Bool) (l : List α) : Bool := fits 1 l.length && l.all p

def GuestPut.wf (f : GuestPut) : Bool :=
  fits 2 f.record && fits 1 f.status && fits 1 f.category && fitsList (fits 2) f.cabins && fits 2 f.firstDay
  && fits 2 f.lastDay && fitsOpt 2 f.folio && fits 1 f.plan && fits 1 f.station && fits 1 f.resetAllowance

def CardRef.wf (f : CardRef) : Bool := fits 2 f.record && fits 1 f.slot

def PlanPut.wf (f : PlanPut) : Bool := fits 1 f.plan && fitsList (fits 1) f.classes && fits 4 f.cap && fits 1 f.allowance

def SetClock.wf (f : SetClock) : Bool := fitsOpt 4 f.seconds && f.offset.all (fitsSigned 2)

def SettingsPut.wf (f : SettingsPut) : Bool :=
  fitsOpt 1 f.rollover && fitsOpt 1 f.flushAge && fitsOpt 2 f.roundLimit && fitsOpt 1 f.linkSilence && fitsOpt 2 f.escalation

def FolioPut.wf (f : FolioPut) : Bool :=
  fits 2 f.folio && fits 1 f.status && fits 4 f.limit && fits 4 f.floorAllowance && f.balance.all (fitsSigned 4)
  && fitsOpt 1 f.clear

def FolioSettle.wf (f : FolioSettle) : Bool := fits 2 f.folio && fitsSigned 4 f.amount

def BindPut.wf (f : BindPut) : Bool := fits 1 f.kind && fits 1 f.profile && fits 2 f.locus

def ProfilePut.wf (f : ProfilePut) : Bool :=
  fits 1 f.profile && fits 1 f.openTime && fits 2 f.rate && fits 4 f.priceCeiling && fits 1 f.qtyLimit
  && fits 4 f.offlineCeiling && fits 1 f.maskPrice && fits 1 f.maskQty

def ListForm.wf : ListForm → Bool
  | .entries line => fits 1 line
  | .bindings start => fits 2 start
  | .profiles => true
  | .other code => fits 1 code && decide (code = 0 ∨ 3 < code)

def GetForm.wf : GetForm → Bool
  | .place line drop => fits 1 line && fits 1 drop
  | .serial _ => true

def PresenceSet.wf (f : PresenceSet) : Bool := fits 2 f.record && fits 1 f.presence && fitsOpt 1 f.site

def SiteOpen.wf (f : SiteOpen) : Bool := fits 1 f.site && fitsList (fits 1) f.lanes

def SiteLastCall.wf (f : SiteLastCall) : Bool := fits 1 f.site && fits 4 f.deadline

/-- A till's sale line: class one byte, price three, quantity one (12.3). -/
def SaleLine.wf (l : SaleLine) : Bool := fits 1 l.cls && fits 3 l.price && fits 1 l.qty

/-- A drop on a line (R48). -/
def dropWf (drop : Nat) : Bool := decide (1 ≤ drop ∧ drop ≤ 48)

/-- A discard for length carries a length above the largest body (R188). -/
def DiscardReason.wf : DiscardReason → Bool
  | .oversize n => fits 2 n && decide (1024 < n)
  | .checkWord => true

/-- Whether a command's fields fit their frame. -/
def Instr.wf : Instr → Bool
  | .status _ _ | .news _ _ | .restart _ _ | .format _ _ | .tallyGet _ _ | .census _ _ | .musterBegin _ _ | .musterEnd _ _
  | .musterGet _ _ | .flush _ _ | .resume _ _ => true
  | .setClock _ b => b.all SetClock.wf
  | .settingsPut _ b => b.all SettingsPut.wf
  | .guestGet _ b => fitsOpt 2 b
  | .guestPut _ b => b.all GuestPut.wf
  | .cardAdd _ b | .cardMarkLost _ b | .cardRemove _ b => b.all CardRef.wf
  | .planPut _ b => b.all PlanPut.wf
  | .folioGet _ b => fitsOpt 2 b
  | .folioPut _ b => b.all FolioPut.wf
  | .folioSettle _ b => b.all FolioSettle.wf
  | .takePostings _ b => fitsOpt 2 b
  | .bindPut _ b => b.all BindPut.wf
  | .bindRemove _ _ => true
  | .profilePut _ b => b.all ProfilePut.wf
  | .readerList _ b => b.all ListForm.wf
  | .readerGet _ b => b.all GetForm.wf
  | .lineEnumerate _ b | .lineCheck _ b | .lineIsolate _ b | .lineRestore _ b => fitsOpt 1 b
  | .presenceSet _ b => b.all PresenceSet.wf
  | .rosterGet _ b => fitsOpt 2 b
  | .siteOpen _ b => b.all SiteOpen.wf
  | .siteLastCall _ b => b.all SiteLastCall.wf
  | .siteClose _ b => fitsOpt 1 b
  | .faultPlanPut _ b => b.all (fitsList fun x => fits 1 x.1 && fits 1 x.2)
  | .faultClear _ b => fitsOpt 1 b
  | .busy _ _ | .badKind _ _ => true
  | .hostFrameDiscard why => why.wf
  | .frameGap | .replySent | .linkSilent | .clockTick | .clockMark | .siteDeadline _ | .flusher | .escalation | .cacheStall
  | .memSilent _ => true
  | .verdictLifeExpiry _ drop | .holdExpiry _ drop _ | .quietCount _ drop | .readerLost _ drop => dropWf drop
  | .call _ _ | .verdict _ _ | .assign _ | .idle _ _ | .cancel _ _ _ | .receipt _ _ _ | .join _ _ _ | .garble _ _
  | .silence _ _ | .garbleRun _ => true
  | .offer _ _ _ _ lines => lines.all fun l => fits 1 l.length && l.all SaleLine.wf
  | .lineCheckBegin _ _ _ | .lineChecked _ _ | .enumerationBegin _ | .lineIsolated _ => true
  | .fill _ | .writeBack _ | .dirtyMissPair _ | .commit _ _ | .configurationWrite _ | .censusRead _ | .journalRead _
  | .configurationRead _ => true
  | .pwrwarnAsserted | .pwrwarnWithdrawn | .emergencyMarkWrites | .safe | .resetAsserted _ | .resetRelease _
  | .restartReset _ | .startByte => true

end Sys2Proof
end

