-- ==== Sys2Proof/Certificates/Slice0/Obligations.lean ====
section
/-! DEFINITION. The statements for the provers, in the order of OBLIGATIONS.json. Common hypotheses and the states that
follow are named in Sys2Proof/Safety.lean. -/

section
open Sys2Proof Sys2Proof.Machine

/-! ## The machine as a whole -/

/-- A step takes the command at the front of the queue; with none waiting it changes nothing (the model's choice, log 5). -/
def Obligations.StepTakesTheFrontCommand : Prop :=
  (∀ (c : Instr) (s : State), step { s with pending := c :: s.pending } = exec c s)
  ∧ ∀ s : State, s.pending = [] → step s = .next s

/-- Right after reset every invariant of the model holds; the state after reset holds the model's choices of logs 1 to 3 where
the spec gives no value. -/
def Obligations.ResetIsSafe : Prop :=
  State.reset.memorySafe ∧ State.reset.outputsSafe ∧ State.reset.indexSafe ∧ State.reset.quiet ∧ State.reset.cacheSafe
  ∧ State.reset.tableSafe ∧ State.reset.journalSafe ∧ State.reset.countsSafe

/-- Every step keeps the record memory canonical and the block held by the port within its size, and leaves every byte
from 245,760 upward as it was (R23). -/
def Obligations.EveryStepKeepsMemorySafe : Prop :=
  ∀ s t : State, s.memorySafe → step s = .next t →
    t.memorySafe ∧ ∀ a, 245760 ≤ a → t.mem.read a = s.mem.read a

/-- Every step keeps the transmit list within 8 frames, the notice queue within 64 with ATTN high exactly while it holds
one, FAULT as the raised marks and plans have it, and SAFE exactly in HALTED_SAFE (R45, R46, R177, R190, R191). -/
def Obligations.EveryStepKeepsOutputsSafe : Prop := ∀ s t : State, s.outputsSafe → step s = .next t → t.outputsSafe

/-- Every step keeps the card index free of a second entry for one identity and of an entry for identity zero (R5). -/
def Obligations.EveryStepKeepsIndexSafe : Prop := ∀ s t : State, s.indexSafe → step s = .next t → t.indexSafe

/-- Every step keeps what rests at rest: while the configuration is read no line works and no request is in hand; in
MAINTENANCE no line serves and none works but at a check that LINE_CHECK asks; in both no record is counted, no census
runs and no sale is made (R65, R72, R156, R197, R199). -/
def Obligations.EveryStepKeepsQuiet : Prop := ∀ s t : State, s.quiet → step s = .next t → t.quiet

/-- Every step keeps each record in at most one slot, the incoming record of a pair counted with the pair's slot, no record in
an EMPTY slot, and every other slot with a record and at exactly one place of the recency order (R31, R33, R35). -/
def Obligations.EveryStepKeepsCacheSafe : Prop := ∀ s t : State, s.cacheSafe → step s = .next t → t.cacheSafe

/-- Every step keeps the reader table in order with no two entries at one line and drop, each drop from 1 to 48 (R67, R68,
R74). -/
def Obligations.EveryStepKeepsTableSafe : Prop :=
  ∀ s t : State, s.tableSafe → step s = .next t →
    t.tableSafe ∧ ∀ e ∈ t.entries, ∀ x ∈ t.entries, x.line = e.line → x.drop = e.drop → x = e

/-- Every step keeps head, tail and next serial in order with at most 2,048 postings untaken, and the commit list on the
serials from the tail up to the next (R125, R128, R129, R131, R133, R134). In MAINTENANCE and while the configuration is read
it is the invariant of `EveryStepKeepsQuiet` that no sale is being committed. -/
def Obligations.EveryStepKeepsJournalSafe : Prop :=
  ∀ s t : State, s.quiet → s.journalSafe → step s = .next t →
    t.journalSafe ∧ (t.journal.tail - t.journal.head).toNat ≤ (t.journal.next - t.journal.head).toNat
    ∧ (t.journal.next - t.journal.head).toNat ≤ 2048

/-- Every step keeps the roster in order with no record twice and no CLOSED site, every site count, ashore tally, aboard
tally and station count at the number of the records it counts, and no mustered count above the number of those counted into
it, nor so above its station's or the crew's (R141 to R143, R147, R165). The list of those counted aboard, and that a stamp of
an earlier muster can leave a mustered count below that number, are the model's reading (log 32). -/
def Obligations.EveryStepKeepsCountsSafe : Prop :=
  ∀ s t : State, s.quiet → s.countsSafe → step s = .next t →
    t.countsSafe ∧ (∀ k : Fin 8, t.muster.mustered[k] ≤ t.landing.stations[k])
    ∧ t.muster.crewMustered ≤ t.landing.aboardCrew

/-- Memory is written at the ends of the writing jobs, a silence in one and a reset in one alone, and in the blocks the job
writes alone: its block, and the journal marks block of a commit. Settings, plans, profiles, bindings and straps change at
their own requests, FORMAT, the configuration reads and the resets alone, where no accepted request waits for a queue place
(R21, R24, R25, R47, R194, R196). What a cut write leaves in its block is log 30, a silence in a write logs 9 and 33: the
model's choices. -/
def Obligations.StateChangesAtItsOwnCommands : Prop :=
  ∀ (c : Instr) (s t : State), exec c s = .next t →
    ((match c with
      | .writeBack _ | .dirtyMissPair _ | .commit _ _ | .configurationWrite _ | .memSilent _ | .resetAsserted _
      | .restartReset _ => False
      | _ => True) →
      ∀ a, t.mem.read a = s.mem.read a)
    ∧ (∀ a : Nat, (∀ b, s.jobAddress = some b → ¬(b ≤ a ∧ a < b + s.port.data.length)) →
        (s.port.job = some .commit → ¬(ConfBlock.journalMarks.address ≤ a ∧ a < ConfBlock.journalMarks.address + 10)) →
        t.mem.read a = s.mem.read a)
    ∧ ((match c with
      | .settingsPut _ _ | .planPut _ _ | .profilePut _ _ | .bindPut _ _ | .bindRemove _ _ | .format _ _
      | .configurationRead _ | .resetAsserted _ | .resetRelease _ | .restartReset _ => False
      | _ => True) → .handConf ∉ s.port.waiting →
      t.settings = s.settings ∧ t.plans = s.plans ∧ t.profiles = s.profiles ∧ t.bindings = s.bindings
      ∧ t.straps = s.straps)

/-! ## Formats (chapter 12) -/

/-- A sealed block opens to its content, bytes with a wrong check word do not open, and the check word of "123456789" is
0x29B1; every guest record, every folio record and every posting in its ranges is read back from its block whole (R1, R24,
R123, R127, R201, R202). -/
def Obligations.RecordBlocksRoundTrip : Prop :=
  (∀ content : List Byte, openBlock (sealBlock content) = some content)
  ∧ (∀ (content word : List Byte), word.length = 2 → word ≠ be 2 (crc16 content).toNat → openBlock (content ++ word) = none)
  ∧ crc16 [0x31, 0x32, 0x33, 0x34, 0x35, 0x36, 0x37, 0x38, 0x39] = 0x29B1
  ∧ (∀ g : Guest, g.inRange = true → Rec.ofBlock (.guest 0) (Rec.block (.guest g)) = some (.guest g))
  ∧ (∀ f : Folio, f.inRange = true → Rec.ofBlock (.folio 0) (Rec.block (.folio f)) = some (.folio f))
  ∧ ∀ p : Posting, p.inRange = true → (openBlock (sealBlock (postingBytes p))).bind postingOfBytes = some p

/-- Every configuration block, settings, fault plan, bindings, profile, plan, sites, muster, journal marks and clock mark,
with its values in their ranges is read back whole (R26, chapter 12). -/
def Obligations.ConfigurationBlocksRoundTrip : Prop :=
  (∀ v : Settings, v.inRange = true → settingsOfBytes (settingsBytes v) = some v)
  ∧ (∀ p : Profile, p.inRange = true → profileOfBytes (profileBytes p) = some p)
  ∧ (∀ p : Plan, p.inRange = true → planOfBytes (planBytes p) = some p)
  ∧ (∀ v : Vector FaultPlan 16, (∀ src : FaultSource, src.isLine = false → v[src.index].isolate = false) →
      faultPlanOfBytes (faultPlanBytes v) = some v.toList)
  ∧ (∀ head tail : PostSerial, (tail - head).toNat ≤ 2048 → marksOfBytes (marksBytes head tail) = some (head, tail))
  ∧ (∀ (seconds day : Nat) (o : Int), seconds ≤ voyageMax → day ≤ 65535 → offsetInRange o = true →
      clockOfBytes (clockBytes seconds day o) = some (seconds, day, o))
  ∧ (∀ v : List (Option Binding), v.length = 16 →
      (∀ b : Binding, some b ∈ v → b.serial ≠ 0 ∧ locusInRange b.kind b.locus = true) →
      bindingsOfBytes (v.map bindingBytes).flatten = some v)
  ∧ (∀ (sites : Vector Site 4) (lanes : Vector (Option (Fin 4)) 4),
      (∀ (n : Fin 4) (d : Nat), sites[n].deadline = some d → d ≤ voyageMax) →
      (∀ (n t : Fin 4), lanes[n] = some t → sites[t].state ≠ .closed) →
      sitesOfBytes (sitesBytes sites lanes)
        = some (sites.toList.map (fun x => { x with count := 0, due := false }), lanes.toList))
  ∧ ∀ (active : Bool) (stamp : Nat), stamp ≤ voyageMax → musterOfBytes (musterBytes active stamp) = some (active, stamp)

/-! ## Host link (chapter 11) -/

/-- A frame that arrives while a request is in hand, or while the configuration area is read, is answered BUSY and not
acted on; BUSY and a frame of no request kind are such frames too. A discard and a gap leave the receiver hunting, a start
byte leaves it assembling. The reply at the head of the transmit list goes once sent, whole with its check word over every
byte after 0xA5, and a reply held formed takes the freed place; nothing else changes (R188 to R190, R197, R201). The bytes of a
request are read back as that request, every field of it; a frame of any body is a request of its kind, or one of no kind;
one whose check word fails is a discard (R189, R201 to R203). A guest record, a folio record and postings go out field by
field, in the order of their rules (R1, R9, R134, R136). Where no rule gives a field's size or place it is the model's choice
(log 29), and so is the form of a set in a request or a reply (logs 54, 59). -/
def Obligations.FramesComeAndGo : Prop :=
  (∀ (s : State) (c : Instr) (tag : Tag) (kind : Byte), s.inReset = false →
    (s.link.inHand.isSome = true ∨ s.startUp.phase = .readingConfig) →
    (requestOf c = some (tag, kind) ∨ c = .busy tag kind ∨ (c = .badKind tag kind ∧ kind ∉ requestKinds)) →
    exec c s = .next { s.heard with link := { s.heard.link with
      tx := if s.link.tx.length < 8 then s.link.tx ++ [{ tag := tag, kind := kind, result := .busy, body := .empty }]
            else s.link.tx } })
  ∧ (∀ s : State, s.inReset = false →
    (∀ why : DiscardReason, (∀ n, why = .oversize n → 1024 < n) →
      exec (.hostFrameDiscard why) s = .next { s with link := { s.link with receiver := .hunting } })
    ∧ exec .frameGap s = .next { s with link := { s.link with receiver := .hunting } }
    ∧ exec .startByte s = .next { s with link := { s.link with receiver := .assembling } }
    ∧ ∀ (r : Reply) (rest : List Reply), s.link.tx = r :: rest →
      let fields := r.body.bytes
      let covered := be 2 (fields.length + 1) ++ be 2 r.tag.toNat ++ [r.kind] ++ be 1 r.result.code ++ fields
      let sent : List Byte := 0xA5 :: (covered ++ be 2 (crc16 covered).toNat)
      (r.body = .empty → fields = [])
        ∧ ((∀ (h : InHand) (f : Reply), s.link.inHand = some h → h.work ≠ .formed f) →
          exec .replySent s = .next { s with link := { s.link with tx := rest, sent := sent } })
        ∧ ∀ (h : InHand) (f : Reply), s.link.inHand = some h → h.work = .formed f → rest.length < 8 →
          exec .replySent s = .next { s with link := { s.link with tx := rest ++ [f], inHand := none, sent := sent } })
  ∧ (∀ (c : Instr) (bs : List Byte), c.wf = true → frameOf c = some bs → hostCommand bs = some c)
  ∧ ∀ (tag : Tag) (kind : Byte) (body word : List Byte), body.length ≤ 1024 → word.length = 2 →
    let covered := be 2 body.length ++ be 2 tag.toNat ++ [kind] ++ body
    let frame := 0xA5 :: (covered ++ word)
    let right := word = be 2 (crc16 covered).toNat
    (¬right → hostCommand frame = some (.hostFrameDiscard .checkWord))
    ∧ (right → kind ∉ requestKinds → hostCommand frame = some (.badKind tag kind))
    ∧ (right → kind ∈ requestKinds → ∃ c, hostCommand frame = some c ∧ requestOf c = some (tag, kind))
  ∧ (let put (l : List (Nat × Nat)) : List Byte := (l.map fun x => be x.1 x.2).flatten
    let opt (n : Nat) (o : Option Nat) : List (Nat × Nat) := [(1, o.isSome.toNat), (n, o.getD 0)]
    let card (c : Option Card) : List (Nat × Nat) :=
      [(1, c.isSome.toNat), (8, (c.map fun x => x.id.toNat).getD 0), (1, (c.map fun x => x.state.code).getD 0)]
    let posting (p : PostingRead) : List (Nat × Nat) :=
      match p.content with
      | some x =>
        [(1, 0), (4, x.serial.toNat), (4, x.time), (1, x.outlet), (1, 64 * x.line.val + x.drop), (1, x.seq.toNat),
         (1, x.flags.toNat), (2, x.guest.val), (2, x.folio.val), (4, x.subtotal), (4, x.service), (4, x.total), (2, x.covered)]
      | none => [(1, 1), (4, p.serial.toNat), (26, 0)]
    (∀ (g : Guest) (mark : Bool), (ReplyBody.guest g mark).bytes =
      put ([(1, g.status.code), (1, g.category.code), (2, g.privileges.toNat), (1, g.cabins.length)]
        ++ g.cabins.map (fun c => (2, c)) ++ [(2, g.firstDay), (2, g.lastDay)] ++ card g.card0 ++ card g.card1
        ++ opt 2 (g.folio.map Fin.val) ++ [(1, g.plan.val), (2, g.allowDay), (1, g.allowUsed), (1, g.presence.code), (4, g.stamp)]
        ++ opt 1 (g.site.map fun k => k.val + 1) ++ [(1, g.station.val + 1)] ++ opt 4 g.musterStamp ++ [(1, mark.toNat)]))
    ∧ (∀ (f : Folio) (sales pendingTotal : Nat), (ReplyBody.folio f sales pendingTotal).bytes =
      put ([(1, f.status.code), (4, (f.balance % 2 ^ 32).toNat), (4, f.limit), (4, f.floorAllowance), (1, f.standing.code),
        (1, f.sticky.toNat)] ++ opt 4 (f.lastSerial.map BitVec.toNat) ++ [(2, sales), (4, pendingTotal)]))
    ∧ ∀ (l : List PostingRead) (head : PostSerial) (untaken : Nat), (ReplyBody.postings l head untaken).bytes =
      put ((1, l.length) :: (l.map posting).flatten ++ [(4, head.toNat), (2, untaken)]))

/-- Tests 1 to 4 in their order: a frame of no request kind is answered BAD_KIND; outside NORMAL every request but
STATUS and NEWS is answered STATE; in MAINTENANCE the kinds so marked are answered MODE, and FORMAT is in SERVICE; a
malformed body is answered BAD_FIELD (R44, R189, R194). -/
def Obligations.RequestsAreTestedInOrder : Prop :=
  ∀ (s : State) (c : Instr) (tag : Tag) (kind : Byte), s.takesRequest → requestOf c = some (tag, kind) →
    let refused (r : Result) := exec c s = .next (s.heard.answered tag kind r .empty)
    let free := kind = 0x01 ∨ kind = 0x02
    let barred := (s.service = false ∧ kind ∈ serviceKinds) ∨ (s.service = true ∧ kind = 0x04)
    (s.power.state ≠ .normal → ¬free → refused .state)
    ∧ (s.power.state = .normal → barred → refused .mode)
    ∧ ((s.power.state = .normal ∧ ¬barred ∨ free) → malformed c = true → refused .badField)
    ∧ ∀ (t : Tag) (k : Byte), k ∉ requestKinds → exec (.badKind t k) s = .next (s.heard.answered t k .badKind .empty)

/-- STATUS, TALLY_GET, ROSTER_GET and MUSTER_GET reply DONE at once with the figures as they stand, READER_LIST and READER_GET
with what the reader table and the binding store hold, of the occupied binding slots the first 32 from the start, in order,
and the number of the next, GUEST_GET and FOLIO_GET of a cached record with its fields. They change
nothing but what the frame's arrival does, and a hit moves its slot to the most recent place (R8, R9, R32, R84, R85, R136,
R154, R155, R168, R193). The order of READER_GET's holds and of TALLY_GET's lanes (log 55), and that STATUS gives the cursor
while a census runs alone (log 29), are the model's choices. -/
def Obligations.ReportsReplyAtOnce : Prop :=
  (∀ (s : State) (tag : Tag), s.takesRequest →
    (let mark : Option Nat := if s.landing.census.running then some s.landing.census.cursor else none
     let slotsIn (x : SlotState) := (List.finRange 128).countP fun i => decide ((s.slot i).state = x)
     exec (.status tag true) s = .next (s.heard.answered tag 0x01 .done (.status
       { maintenance := s.straps.maintenance, running := decide (s.startUp.phase = .running), power := s.power.state
         standalone := s.router.standalone, cause := s.router.cause, since := s.router.since
         seconds := s.clock.seconds, isSet := s.clock.isSet, offset := s.clock.offset, rollover := s.settings.rollover
         day := s.clock.day
         faults := FaultSource.all.map fun src =>
           if src = .linkSilent then { s.router.entry src with present := false } else s.router.entry src
         timer := s.router.timer, timerRun := s.router.run, silence := 0, nextNotice := s.notices.next
         notices := s.notices.items.length, newsLost := s.notices.lost
         lines := (List.finRange 4).map fun n =>
           { state := s.lines[n].state, check := s.lines[n].check, enumerated := s.lines[n].enumerated
             round := s.lines[n].round, capture := s.lines[n].capture
             entries := s.entries.countP fun e => decide (e.line = n) }
         census := mark, skipped := s.landing.census.skipped.length, muster := s.muster.active
         beginStamp := s.muster.beginStamp, head := s.journal.head, tail := s.journal.tail, next := s.journal.next
         untaken := (s.journal.next - s.journal.head).toNat
         slots := [slotsIn .empty, slotsIn .filling, slotsIn .clean, slotsIn .dirty, slotsIn .writing]
         queued := s.port.queue.length, job := s.port.job.map Job.kind, stalling := s.cache.stalling })))
    ∧ (s.power.state = .normal →
      let mark : Option Nat := if s.landing.census.running then some s.landing.census.cursor else none
      (s.service = true →
        (∃ sites : List SiteFigures,
          exec (.tallyGet tag true) s = .next (s.heard.answered tag 0x61 .done
            (.tally s.landing.aboardGuest s.landing.aboardCrew s.landing.ashoreGuest s.landing.ashoreCrew sites
              s.landing.stations.toList s.landing.roster.length mark s.landing.census.skipped.length))
          ∧ sites.length = 4
          ∧ ∀ t : Fin 4, ∃ lanes : List (Fin 4), (∀ l, l ∈ lanes ↔ s.landing.lanes[l] = some t)
            ∧ sites[t.val]? = some
                { state := s.landing.sites[t].state, deadline := s.landing.sites[t].deadline
                  count := s.landing.sites[t].count, lanes := lanes })
        ∧ (∀ start, start ≤ 2047 →
          exec (.rosterGet tag (some start)) s = .next (s.heard.answered tag 0x62 .done
            (.roster ((s.landing.roster.drop start).take 64) s.landing.roster.length mark)))
        ∧ ∀ start, 2047 < start →
          exec (.rosterGet tag (some start)) s = .next (s.heard.answered tag 0x62 .badField .empty))
      ∧ (s.muster.active = true → s.service = true →
        exec (.musterGet tag true) s = .next (s.heard.answered tag 0x72 .done
          (.musterLive s.muster.beginStamp (s.landing.stations.toList.zip s.muster.mustered.toList) s.landing.aboardCrew
            s.muster.crewMustered mark)))
      ∧ (s.muster.active = false ∨ s.service = false →
        exec (.musterGet tag true) s = .next (s.heard.answered tag 0x72 .done
          (.musterHeld s.muster.active s.muster.beginStamp s.muster.frozen)))))
  ∧ (∀ (s : State) (tag : Tag), s.servesRequest →
    (∀ n : Fin 4, exec (.readerList tag (some (.entries n.val))) s = .next (s.heard.answered tag 0x43 .done
      (.entries s.lines[n].state ((s.entries.filter fun e => decide (e.line = n)).map fun e =>
        { drop := e.drop, kind := e.kind, serial := e.serial, binding := e.binding, poll := e.poll
          outgoing := e.outgoing.isSome, disposition := e.disposition }))))
    ∧ exec (.readerList tag (some .profiles)) s = .next (s.heard.answered tag 0x43 .done (.profiles s.profiles.toList))
    ∧ (∀ start : Fin 192, ∃ occupied : List (Fin 192 × Binding),
        (∀ (j : Fin 192) (b : Binding), (j, b) ∈ occupied ↔ start ≤ j ∧ s.bindings[j] = some b)
        ∧ occupied.Pairwise (fun x y => x.1 < y.1)
        ∧ exec (.readerList tag (some (.bindings start.val))) s = .next
          (s.heard.answered tag 0x43 .done (.bindings (occupied.take 32) (occupied[32]?.map (·.1)))))
    ∧ (∀ (n : Fin 4) (drop : Nat) (e : Entry), 1 ≤ drop → drop ≤ 48 → s.entryAt n drop = some e →
        ∃ (slots : List (Fin 128)) (trail : Option (List (Option TrailEntry))),
          exec (.readerGet tag (some (.place n.val drop))) s = .next (s.heard.answered tag 0x44 .done
            (.entry e (s.bindingOf e) slots (s.holdCount n drop) trail))
          ∧ slots.Nodup ∧ (∀ i : Fin 128, i ∈ slots ↔ ∃ h ∈ (s.slot i).holds, h.line = n ∧ h.drop = drop)
          ∧ (e.trail = none → trail = none)
          ∧ ∀ tr : Trail, e.trail = some tr → ∃ shown, trail = some (tr.entries.map some ++ shown)
              ∧ (∀ x ∈ shown, x = none) ∧ (tr.entries.length ≤ 16 → tr.entries.length + shown.length = 16))
    ∧ (∀ serial : ReaderSerial, serial ≠ 0 → ∃ binding : Option (Fin 192 × Binding),
        exec (.readerGet tag (some (.serial serial))) s = .next (s.heard.answered tag 0x44 .done (.serialHeld binding
          ((s.entries.filter fun e => decide (e.serial = serial)).map fun e => (e.line, e.drop))))
        ∧ (∀ x, binding = some x → s.bindings[x.1] = some x.2 ∧ x.2.serial = serial)
        ∧ (binding = none → ∀ (i : Fin 192) (b : Binding), s.bindings[i] = some b → b.serial ≠ serial))
    ∧ ∀ (n : Fin 4) (drop : Nat), 1 ≤ drop → drop ≤ 48 → s.entryAt n drop = none →
        exec (.readerGet tag (some (.place n.val drop))) s = .next (s.heard.answered tag 0x44 .state .empty))
  ∧ ∀ (s : State) (tag : Tag) (i : Fin 128), s.servesRequest →
    (∀ (n : Fin 2048) (g : Guest), s.find (.guest n) = .hit i → (s.slot i).content = some (.guest g) →
      exec (.guestGet tag (some n.val)) s = .next
        ((s.touch i).heard.answered tag 0x20 .done
          (.guest g (s.landing.census.running && decide (s.landing.census.cursor ≤ n.val)))))
    ∧ ∀ (n : Fin 1024) (f : Folio), s.find (.folio n) = .hit i → (s.slot i).content = some (.folio f) →
      exec (.folioGet tag (some n.val)) s = .next
        ((s.touch i).heard.answered tag 0x30 .done
          (.folio f (s.journal.commits.countP fun c => decide (c.folio = n))
            ((s.journal.commits.filter fun c => decide (c.folio = n)).map (·.total)).sum))

/-- NEWS takes up to 8 notices, oldest first, with the news-lost mark and the number left; the mark is cleared and ATTN
stays high only while a notice waits. A queued notice takes the next number; a sixty-fifth is discarded, its number spent and
the mark set (R191, R192). -/
def Obligations.NewsTakesTheOldestEight : Prop :=
  ∀ s : State,
    (∀ tag : Tag, s.takesRequest → exec (.news tag true) s = .next
      { s.heard.answered tag 0x02 .done
          (.news (s.notices.items.take 8) s.notices.lost (s.notices.items.length - 8)) with
        notices := { s.notices with items := s.notices.items.drop 8, lost := false }
        pins := { s.pins with attn := decide (8 < s.notices.items.length) } })
    ∧ ∀ body : NoticeBody, s.notify body =
      { s with
        notices :=
          { items := if s.notices.items.length < 64 then
              s.notices.items ++ [{ number := s.notices.next, time := s.clock.seconds, body := body }] else s.notices.items
            next := s.notices.next + 1
            lost := s.notices.lost || decide (64 ≤ s.notices.items.length) }
        pins := { s.pins with attn := true } }

/-- FORMAT in MAINTENANCE puts every durable value on chip to its FORMAT value, with CLOCK_UNSET present, and empties the cache
(R195). -/
def Obligations.FormatSetsEveryDurableValue : Prop :=
  ∀ (s : State) (tag : Tag), s.servesRequest → s.service = false → s.cache.flush = none →
    ∃ t, exec (.format tag true) s = .next t
      ∧ (∃ run, t.work = some (.format run))
      ∧ t.settings = Settings.blank ∧ t.plans = Vector.replicate 15 Plan.blank
      ∧ t.profiles = Vector.replicate 16 Profile.blank ∧ t.bindings = Vector.replicate 192 none
      ∧ (∀ x : Fin 4, t.landing.sites[x].state = .closed ∧ t.landing.sites[x].deadline = none ∧ t.landing.lanes[x] = none)
      ∧ t.muster.active = false ∧ t.muster.beginStamp = 0
      ∧ t.journal.head = 1 ∧ t.journal.tail = 1 ∧ t.journal.next = 1
      ∧ t.clock.seconds = 0 ∧ t.clock.offset = 0 ∧ t.clock.day = 0 ∧ t.clock.isSet = false
      ∧ (t.router.entry .clockUnset).present = true
      ∧ (∀ src : FaultSource, (t.router.entry src).plan = FaultPlan.defaults[src.index])
      ∧ (∀ i : Fin 128, t.slot i = Slot.blank)
      ∧ (∀ i : Fin 128, .writeBack i ∉ t.port.queue)
      ∧ (∀ a, t.mem.read a = s.mem.read a)


/-! ## Clock, settings, plans (chapter 1) -/

/-- A tick advances voyage seconds by one, held at the largest, and the counts of seconds with it; the business day rises
to the computed day, the floor of the local seconds past the rollover over 86,400 from 0 to 65,535, when that is later,
with a clock mark write, and never falls (R16, R17, R18). In NORMAL it makes the flusher due, and in no other power state (R41,
R45). In SERVICE it makes due the LAST_CALL sites whose deadline it finds reached, and no others; in MAINTENANCE none (R146,
R156). That the flusher and the deadlines, so marked, act at their own commands is the model's choice (log 8). -/
def Obligations.TickAdvancesSecondsAndDay : Prop :=
  (∀ (v h : Nat) (o : Int),
    let numerator : Int := v + 60 * o - 3600 * h
    (numerator < 0 → computedDay v o h = 0)
    ∧ (0 ≤ numerator → numerator / 86400 ≤ 65535 → (computedDay v o h : Int) = numerator / 86400)
    ∧ (65535 < numerator / 86400 → computedDay v o h = 65535))
  ∧ ∀ s : State, s.inReset = false → ∃ t, exec .clockTick s = .next t
    ∧ t.clock.seconds = min (s.clock.seconds + 1) 4294967295
    ∧ (let day := computedDay t.clock.seconds s.clock.offset s.settings.rollover
       t.clock.day = max s.clock.day day
       ∧ (s.clock.day < day →
          t.clock.sinceMark = 0
          ∧ (.block .clockMark ∈ t.port.waiting ∨ .confWrite (.conf .clockMark) .unit ∈ t.port.queue
             ∨ t.port.job = some (.confWrite (.conf .clockMark) .unit)))
       ∧ (day ≤ s.clock.day → t.clock.sinceMark = s.clock.sinceMark + 1 ∧ t.port = s.port ∧ t.cache = s.cache))
    ∧ t.clock.offset = s.clock.offset ∧ t.clock.isSet = s.clock.isSet ∧ t.clock.flusherDue = decide (s.power.state = .normal)
    ∧ t.landing = { s.landing with sites := t.landing.sites }
    ∧ (∀ k : Fin 4, let x := s.landing.sites[k]
        t.landing.sites[k] = { x with due := t.landing.sites[k].due }
        ∧ (t.landing.sites[k].due = true ↔ x.due = true
            ∨ s.service = true ∧ x.state = .lastCall ∧ ∃ d, x.deadline = some d ∧ d ≤ t.clock.seconds))
    ∧ t.link = { s.link with silence := s.link.silence + 1 }
    ∧ t.router = { s.router with run := if s.router.timer = .running then s.router.run + 1 else s.router.run }
    ∧ t.entries = s.entries ∧ t.lines = s.lines ∧ t.journal = s.journal ∧ t.muster = s.muster ∧ t.notices = s.notices
    ∧ t.pins = s.pins ∧ t.settings = s.settings ∧ t.plans = s.plans ∧ t.profiles = s.profiles ∧ t.bindings = s.bindings
    ∧ t.index = s.index ∧ t.power = s.power ∧ t.startUp = s.startUp ∧ ∀ a, t.mem.read a = s.mem.read a

/-- SET_CLOCK off its ranges or below the count is answered BAD_FIELD. In range it puts its values in force, sets the
clock when it carries seconds, evaluates the business day and queues the clock mark its reply waits for. With the queue full
nothing goes in force and the request waits in hand for a place; at the end of the job that frees one it is checked against
the clock again: seconds now below the count are answered BAD_FIELD with the clock kept, else its values go in force and its
write is queued. While the queue stays full, an IDLE or a hold's expiry does not have it checked: it waits on, unjudged (R18,
R20, R21). That a SET_CLOCK which also advances the business day queues one clock mark for both is the
model's reading (log 17). -/
def Obligations.SetClockGoesInForce : Prop :=
  let clock (s : State) (f : SetClock) : Clock :=
    let seconds := f.seconds.getD s.clock.seconds
    let offset := f.offset.getD s.clock.offset
    { s.clock with
      seconds := seconds, offset := offset, isSet := s.clock.isSet || f.seconds.isSome, sinceMark := 0
      day := max s.clock.day (computedDay seconds offset s.settings.rollover) }
  (∀ (s : State) (tag : Tag) (f : SetClock), s.servesRequest →
    ((f.seconds = none ∧ f.offset = none) ∨ (∃ v, f.seconds = some v ∧ v < s.clock.seconds)
        ∨ (∃ o, f.offset = some o ∧ ¬(-720 ≤ o ∧ o ≤ 840 ∧ o % 15 = 0)) →
      exec (.setClock tag (some f)) s = .next (s.heard.answered tag 0x10 .badField .empty))
    ∧ ((f.seconds.isSome = true ∨ f.offset.isSome = true) →
    (∀ v, f.seconds = some v → s.clock.seconds ≤ v ∧ v ≤ 4294967295) →
    (∀ o, f.offset = some o → -720 ≤ o ∧ o ≤ 840 ∧ o % 15 = 0) →
    (s.placeFree → s.portSettled →
      let router :=
        if f.seconds.isSome then
          s.heard.router.setEntry .clockUnset { s.heard.router.entry .clockUnset with present := false }
        else s.heard.router
      exec (.setClock tag (some f)) s = .next
        ({ s.heard.holding tag 0x10 .confWrite with clock := clock s f, router := router }.withJob
          (.confWrite (.conf .clockMark) .hand)))
    ∧ (16 ≤ s.port.queue.length → exec (.setClock tag (some f)) s = .next
        (s.heard.holding tag 0x10 (.confPlace (.setClock f.seconds f.offset))).waitsForPlace)))
  ∧ (∀ (s : State) (n : Fin 4) (f : SetClock), s.inReset = false → s.power.state = .normal → s.cache.flush = none →
    s.work = some (.confPlace (.setClock f.seconds f.offset)) → s.port.waiting = [.handConf] → 16 ≤ s.port.queue.length →
    s.port.job.isSome = true →
    (∀ (dur : Nat) (e : Entry), s.calledEntry n = some e →
      ∃ t, exec (.idle n dur) s = .next t ∧ t.link = s.link ∧ t.clock = s.clock ∧ t.port = s.port)
    ∧ ∀ (drop : Nat) (k : RecKey), ∃ t, exec (.holdExpiry n drop k) s = .next t
      ∧ t.link = s.link ∧ t.clock = s.clock ∧ t.port = s.port)
  ∧ ∀ (s : State) (tag : Tag) (f : SetClock) (b : ConfBlock) (w : WriteResult), s.inReset = false →
    s.power.state = .normal → s.cache.flush = none → s.journal.commits.all (·.queued) = true → s.link.tx.length < 8 →
    s.link.inHand = some { tag := tag, kind := 0x10, work := .confPlace (.setClock f.seconds f.offset) } →
    s.port.job = some (.confWrite (.conf b) .unit) → s.port.waiting = [.handConf] → s.port.queue.length ≤ 16 →
    (∀ n, .censusRead n ∉ s.port.queue) →
    let late := ∃ v, f.seconds = some v ∧ v < s.clock.seconds
    ∃ t, exec (.configurationWrite w) s = .next t ∧ t.port.waiting = []
      ∧ (late → t.clock = s.clock ∧ t.link = { s.link with
          inHand := none
          tx := s.link.tx ++ [{ tag := tag, kind := 0x10, result := .badField, body := .empty }] })
      ∧ (¬late → t.clock = clock s f
          ∧ t.link = { s.link with inHand := some { tag := tag, kind := 0x10, work := .confWrite } }
          ∧ (f.seconds.isSome = true → (t.router.entry .clockUnset).present = false)
          ∧ (.confWrite (.conf .clockMark) .hand ∈ t.port.queue
              ∨ t.port.job = some (.confWrite (.conf .clockMark) .hand)))

/-- SETTINGS_PUT in range replaces the carried values and keeps the others, and one value out of range, or none carried,
refuses the whole; a changed rollover hour evaluates the business day at once, which rises with a clock mark write when the
computed day is later, and stays else. PLAN_PUT and PROFILE_PUT replace one plan or profile whole, and one field out of range
refuses the whole. Each goes in force at once and its reply waits for the write of its block; with the queue full nothing goes
in force and the request waits in hand for a place (R15, R17, R21, R22, R83; how it goes on then is
`SetClockGoesInForce`). That a class named twice in PLAN_PUT's list is in the set once is the model's choice (log 54). -/
def Obligations.SettingsPlansAndProfilesGoInForce : Prop :=
  (∀ (s : State) (tag : Tag) (f : SettingsPut), s.servesRequest →
    let ok := (f ≠ { rollover := none, flushAge := none, roundLimit := none, linkSilence := none, escalation := none })
      ∧ (∀ v, f.rollover = some v → v ≤ 23) ∧ (∀ v, f.flushAge = some v → 1 ≤ v ∧ v ≤ 60)
      ∧ (∀ v, f.roundLimit = some v → 50 ≤ v ∧ v ≤ 1000) ∧ (∀ v, f.linkSilence = some v → 2 ≤ v ∧ v ≤ 255)
      ∧ (∀ v, f.escalation = some v → 1 ≤ v ∧ v ≤ 600)
    (¬ok → exec (.settingsPut tag (some f)) s = .next (s.heard.answered tag 0x11 .badField .empty))
    ∧ (ok → s.placeFree → s.portSettled → ∃ t, exec (.settingsPut tag (some f)) s = .next t
      ∧ t.settings =
        { rollover := f.rollover.getD s.settings.rollover, flushAge := f.flushAge.getD s.settings.flushAge
          roundLimit := f.roundLimit.getD s.settings.roundLimit, linkSilence := f.linkSilence.getD s.settings.linkSilence
          escalation := f.escalation.getD s.settings.escalation }
      ∧ t.link = { s.heard.link with inHand := some { tag := tag, kind := 0x11, work := .confWrite } }
      ∧ (.confWrite (.conf .settings) .hand ∈ t.port.queue ∨ t.port.job = some (.confWrite (.conf .settings) .hand))
      ∧ (t.router.timer = .expired ↔
          (s.router.timer = .expired ∨ s.router.timer = .running ∧ t.settings.escalation ≤ s.router.run))
      ∧ (let day := computedDay s.clock.seconds s.clock.offset t.settings.rollover
         let rises := t.settings.rollover ≠ s.settings.rollover ∧ s.clock.day < day
         (rises → t.clock = { s.clock with day := day, sinceMark := 0 }
            ∧ (.block .clockMark ∈ t.port.waiting ∨ .confWrite (.conf .clockMark) .unit ∈ t.port.queue
               ∨ t.port.job = some (.confWrite (.conf .clockMark) .unit)))
         ∧ (¬rises → t.clock = s.clock))
      ∧ t.plans = s.plans ∧ t.profiles = s.profiles ∧ t.bindings = s.bindings ∧ t.cache = s.cache ∧ t.entries = s.entries
      ∧ t.lines = s.lines ∧ t.landing = s.landing ∧ t.journal = s.journal ∧ t.mem = s.mem)
    ∧ (ok → 16 ≤ s.port.queue.length → exec (.settingsPut tag (some f)) s = .next
        (s.heard.holding tag 0x11 (.confPlace (.settingsPut f))).waitsForPlace))
  ∧ (∀ (s : State) (tag : Tag), s.servesRequest →
    (∀ f : PlanPut, f.plan = 0 ∨ 15 < f.plan ∨ (∃ c ∈ f.classes, 31 < c) ∨ 99999 < f.cap ∨ 250 < f.allowance →
      exec (.planPut tag (some f)) s = .next (s.heard.answered tag 0x25 .badField .empty))
    ∧ ∀ f : ProfilePut, 15 < f.profile ∨ f.openTime = 0 ∨ 15 < f.openTime ∨ 3000 < f.rate ∨ 99999 < f.priceCeiling
        ∨ f.qtyLimit = 0 ∨ 99 < f.qtyLimit ∨ 9999999 < f.offlineCeiling ∨ 1 < f.maskPrice ∨ 1 < f.maskQty →
      exec (.profilePut tag (some f)) s = .next (s.heard.answered tag 0x42 .badField .empty))
  ∧ ∀ (s : State) (tag : Tag), s.servesRequest →
    let full := 16 ≤ s.port.queue.length
    (∀ (f : PlanPut) (p : Fin 15), f.plan = p.val + 1 → (∀ c ∈ f.classes, c ≤ 31) → f.cap ≤ 99999 → f.allowance ≤ 250 →
      ∃ plan : Plan, (∀ c, c < 32 → plan.covered.getLsbD c = decide (c ∈ f.classes)) ∧ plan.cap = f.cap
        ∧ plan.allowance = f.allowance
        ∧ (s.placeFree → s.portSettled → exec (.planPut tag (some f)) s = .next
          ({ s.heard.holding tag 0x25 .confWrite with plans := s.plans.set p plan }.withJob
            (.confWrite (.conf (.plan p)) .hand)))
        ∧ (full → exec (.planPut tag (some f)) s = .next
          (s.heard.holding tag 0x25 (.confPlace (.planPut p plan))).waitsForPlace))
    ∧ ∀ (f : ProfilePut) (p : Fin 16) (price qty : Bool), f.profile = p.val → 1 ≤ f.openTime → f.openTime ≤ 15 →
      f.rate ≤ 3000 → f.priceCeiling ≤ 99999 → 1 ≤ f.qtyLimit → f.qtyLimit ≤ 99 → f.offlineCeiling ≤ 9999999 →
      f.maskPrice = price.toNat → f.maskQty = qty.toNat →
      let profile : Profile :=
        { openTime := f.openTime, mask := f.mask, rate := f.rate, priceCeiling := f.priceCeiling
          qtyLimit := f.qtyLimit, offlineCeiling := f.offlineCeiling, maskPrice := price, maskQty := qty }
      (s.placeFree → s.portSettled → exec (.profilePut tag (some f)) s = .next
        ({ s.heard.holding tag 0x42 .confWrite with profiles := s.profiles.set p profile }.withJob
          (.confWrite (.conf (.profile p)) .hand)))
      ∧ (full → exec (.profilePut tag (some f)) s = .next
          (s.heard.holding tag 0x42 (.confPlace (.profilePut p profile))).waitsForPlace)

/-- A configuration write ends, and its owner is told: a request in hand DONE, or MEMORY_FAULT with the values kept; the
emergency flush one mark write fewer; no one for a unit's. A good write leaves the block in memory; one that reads back
otherwise, or finds the memory silent, leaves memory as it was, and MEM_CHECK or MEM_SILENT follows; no other byte changes
(R21, R24, R25, R30, R45). How the write ends is an operand of the event, and memory after a failed write the former block:
the model's choices (log 9). -/
def Obligations.ConfigurationWritesEnd : Prop :=
  ∀ (s : State) (b : ConfBlock) (owner : WriteOwner) (w : WriteResult), s.inReset = false →
    s.mem.wf = true → s.port.job = some (.confWrite (.conf b) owner) → owner ≠ .format → s.port.waiting = [] →
    (owner = .hand → s.link.tx.length < 8 ∧ ∃ tag kind, s.link.inHand = some { tag := tag, kind := kind, work := .confWrite }) →
    let passes := w = .good ∧ s.port.silent = false
    ∃ t, exec (.configurationWrite w) s = .next t
      ∧ (∀ tag kind, owner = .hand → s.link.inHand = some { tag := tag, kind := kind, work := .confWrite } →
          t.link = { s.link with
            inHand := none
            tx := s.link.tx ++
              [{ tag := tag, kind := kind, result := if passes then .done else .memoryFault, body := .empty }] })
      ∧ (owner ≠ .hand → t.link = s.link)
      ∧ t.power = { s.power with marks := if owner = .flush then s.power.marks.map (· - 1) else s.power.marks }
      ∧ (passes → t.mem.readBlock b.address s.port.data.length = s.port.data
          ∧ (∀ a, a < b.address ∨ b.address + s.port.data.length ≤ a → t.mem.read a = s.mem.read a)
          ∧ (t.router.entry .memCheck).present = false ∧ (t.router.entry .memSilent).present = false)
      ∧ (¬passes → t.mem = s.mem)
      ∧ (s.port.silent = false → w = .differs →
          (t.router.entry .memCheck).present = true ∧ (t.router.entry .memSilent).present = false)
      ∧ t.settings = s.settings ∧ t.plans = s.plans ∧ t.profiles = s.profiles ∧ t.bindings = s.bindings

/-- FORMAT writes its 3,121 blocks in order, the 49 configuration blocks, the 2,048 guest records and the 1,024 folio records:
acceptance queues the first as places last, and each end frees a place for the next. A failed write is counted, and the first
one kept. When the last has ended the reply is DONE, or MEMORY_FAULT with the count and the first failed block; one that
PWRWARN has stopped queues no more and, in the emergency flush, replies MEMORY_FAULT with the incomplete mark and the number
written once its last write has ended (R30, R195). A write that finds the memory silent has failed too, and MEM_CHECK and
MEM_SILENT stay as the silence left them (R25). How a write ends is an operand of the event, and its silence an event before it:
the model's choices (logs 9 and 33). -/
def Obligations.FormatWritesItsBlocks : Prop :=
  ((∀ b : Fin 49, formatTarget b.val = some (.conf (ConfBlock.ofNumber b)) ∧ (ConfBlock.ofNumber b).address = 256 * b.val)
    ∧ (∀ n : Fin 2048, formatTarget (49 + n.val) = some (.record (.guest n)))
    ∧ (∀ n : Fin 1024, formatTarget (2097 + n.val) = some (.record (.folio n)))
    ∧ ∀ i, 3121 ≤ i → formatTarget i = none)
  ∧ (∀ (s : State) (tag : Tag), s.servesRequest → s.service = false → s.cache.flush = none → s.port.job = none →
    s.port.queue = [] →
    ∃ t, exec (.format tag true) s = .next t
      ∧ t.port.job = some (.confWrite (.conf .settings) .format)
      ∧ t.port.data = sealBlock (settingsBytes Settings.blank)
      ∧ t.port.queue.map some =
          (List.range 16).map (fun i => (formatTarget (i + 1)).map fun u => .confWrite u .format)
      ∧ .format ∈ t.port.waiting
      ∧ t.work = some (.format
          { next := 17, outstanding := 17, written := 0, failed := 0, first := none, stopped := false }))
  ∧ ∀ (s : State) (tag : Tag) (run : FormatRun) (u : WriteTarget) (w : WriteResult), s.inReset = false →
    s.journal.commits = [] → s.cache.flush = none →
    s.link.inHand = some { tag := tag, kind := 0x04, work := .format run } → s.link.tx.length < 8 →
    s.port.job = some (.confWrite u .format) → 1 ≤ run.outstanding → s.landing.census.running = false →
    let ok := w = .good ∧ s.port.silent = false
    let reported (t : State) :=
      (s.port.silent = false → ((t.router.entry .memCheck).present = true ↔ w = .differs))
      ∧ (s.port.silent = true → s.memoryConditionsStay t)
    let run' : FormatRun :=
      { run with
        outstanding := run.outstanding - 1, written := if ok then run.written + 1 else run.written
        failed := if ok then run.failed else run.failed + 1
        first := if ok ∨ run.first.isSome = true then run.first else some u }
    let replied (t : State) (r : Result) (body : ReplyBody) :=
      t.link = { s.link with
        inHand := none, tx := s.link.tx ++ [{ tag := tag, kind := 0x04, result := r, body := body }] }
    (∀ v : WriteTarget, s.power.state = .normal → formatTarget run.next = some v → run.stopped = false →
      s.port.waiting = [.format] →
      s.port.queue.length = 16 → (∀ j ∈ s.port.queue, ∃ x, j = .confWrite x .format) →
      ∃ t, exec (.configurationWrite w) s = .next t
        ∧ t.port.job = s.port.queue.head? ∧ t.port.queue = s.port.queue.tail ++ [.confWrite v .format]
        ∧ t.work = some (.format { run' with next := run.next + 1, outstanding := run.outstanding })
        ∧ reported t ∧ t.link.tx = s.link.tx)
    ∧ (s.power.state = .normal → run.next = 3121 → run.stopped = false → run.outstanding = 1 → s.port.waiting = [] →
      ∃ t, exec (.configurationWrite w) s = .next t ∧ reported t
        ∧ (run'.first = none → replied t .done .empty)
        ∧ ∀ x, run'.first = some x → replied t .memoryFault (.formatFailed run'.failed x))
    ∧ (s.power.state = .emergencyFlush → run.stopped = true → s.port.waiting = [] →
      ∃ t, exec (.configurationWrite w) s = .next t ∧ reported t ∧ t.power = s.power
        ∧ (run.outstanding = 1 → replied t .memoryFault (.formatIncomplete run'.written))
        ∧ (1 < run.outstanding → t.work = some (.format run') ∧ t.link.tx = s.link.tx))

/-! ## Record requests (chapters 1 and 7) -/

/-- GUEST_PUT on a cached record refuses STATE to vacate it while its holder is ABOARD or ASHORE, and else replaces the
carried fields and keeps cards, presence and stamps, unless it vacates the record, when the cards, presence and muster
stamp go too; its counts move as the new category and station say (`CountsMoveWithTheHolder`), the write-back is on its
way and the reply is DONE. A field off its range, whatever the record holds, is answered BAD_FIELD with nothing looked up
(R8, R10, R11). -/
def Obligations.GuestPutReplacesTheCarriedFields : Prop :=
  (∀ (s : State) (tag : Tag) (f : GuestPut), s.servesRequest →
    2047 < f.record ∨ 3 < f.status ∨ 1 < f.category ∨ 1 < f.resetAllowance
      ∨ 3 < f.cabins.length ∨ ¬f.cabins.Nodup ∨ (∃ c ∈ f.cabins, c = 0 ∨ 9999 < c) ∨ f.lastDay < f.firstDay
      ∨ (∃ n, f.folio = some n ∧ 1023 < n) ∨ 15 < f.plan ∨ f.station = 0 ∨ 8 < f.station →
    exec (.guestPut tag (some f)) s = .next (s.heard.answered tag 0x21 .badField .empty))
  ∧ ∀ (s : State) (tag : Tag) (f : GuestPut) (n : Fin 2048) (v : GuestFields) (i : Fin 128) (g : Guest),
    s.servesRequest → s.portSettled → f.record = n.val → f.status = v.status.code → f.category = v.category.code →
    f.privileges = v.privileges → f.cabins = v.cabins → f.firstDay = v.firstDay → f.lastDay = v.lastDay →
    f.folio = v.folio.map (·.val) → f.plan = v.plan.val → f.station = v.station.val + 1 →
    f.resetAllowance = v.resetAllowance.toNat → v.cabins.length ≤ 3 → v.cabins.Nodup →
    (∀ c ∈ v.cabins, 1 ≤ c ∧ c ≤ 9999) → v.firstDay ≤ v.lastDay → v.lastDay ≤ 65535 → s.find (.guest n) = .hit i →
    (s.slot i).content = some (.guest g) →
    (v.status = .vacant → g.presence = .aboard ∨ g.presence = .ashore →
      exec (.guestPut tag (some f)) s = .next ((s.touch i).heard.answered tag 0x21 .state .empty))
    ∧ ((v.status = .vacant → g.presence = .notEmbarked ∨ g.presence = .landed) →
    let vacates := v.status = .vacant ∧ g.status ≠ .vacant
    let g' : Guest :=
      { status := v.status, category := v.category, privileges := v.privileges, cabins := v.cabins
        firstDay := v.firstDay, lastDay := v.lastDay, folio := v.folio, plan := v.plan, station := v.station
        allowDay := if v.resetAllowance then s.clock.day else g.allowDay
        allowUsed := if v.resetAllowance then 0 else g.allowUsed
        card0 := if vacates then none else g.card0, card1 := if vacates then none else g.card1
        presence := if vacates then .notEmbarked else g.presence, stamp := if vacates then s.clock.seconds else g.stamp
        site := if vacates then none else g.site, musterStamp := if vacates then none else g.musterStamp }
    ∃ (cache : Cache) (port : Port) (index : List IndexEntry),
      exec (.guestPut tag (some f)) s = .next
        { s.heard.answered tag 0x21 .done .empty with
          cache := cache, port := port, index := index
          landing := (s.recount n g').landing, muster := (s.recount n g').muster }
      ∧ recordChanged s cache port i (.guest g') ∧ s.writesUrgently cache port i
      ∧ (¬vacates → index = s.index)
      ∧ (vacates → ∀ x, x ∈ index ↔ x ∈ s.index ∧
          ¬(x.record = n ∧ (x.slot = 0 ∧ g.card0.map (·.id) = some x.card ∨ x.slot = 1 ∧ g.card1.map (·.id) = some x.card))))

/-- The card requests on a cached record, row by row. CARD_ADD puts an unindexed identity into an empty slot, or marks the one
its slot holds ACTIVE, and indexes it; it reinstates a LOST card indexed here, leaves an ACTIVE one, and is answered STATE for a
VACANT record, an identity indexed elsewhere, with where it is, and a slot that holds another; and STATE at once while a census
runs and for a record the last census skipped. CARD_MARK_LOST sets an ACTIVE card LOST, leaves a LOST one, and keeps its index
entry; CARD_REMOVE empties the slot and removes the entry that names it; a slot that is empty or holds another identity is
answered STATE (R12, R13, R14, R161). A card moves no count: the counts keep the record's category and station
(`CountsMoveWithTheHolder`). That an ACTIVE card not indexed gets its index entry alone, its slot not made DIRTY (log 56), and
that a skipped record is refused before any lookup, with no place in the reply (log 57), are the model's choices. -/
def Obligations.CardRequestsChangeOneSlot : Prop :=
  (∀ (s : State) (tag : Tag) (n : Fin 2048) (k : Fin 2) (card : CardId), s.servesRequest → card ≠ 0 →
    s.landing.census.running = true ∨ n ∈ s.landing.census.skipped →
    exec (.cardAdd tag (some { record := n.val, slot := k.val, card := card })) s = .next
      (s.heard.answered tag 0x22 .state .empty))
  ∧ ∀ (s : State) (tag : Tag) (n : Fin 2048) (k : Fin 2) (card : CardId) (i : Fin 128) (g : Guest),
    s.servesRequest → s.portSettled → card ≠ 0 → s.find (.guest n) = .hit i → (s.slot i).content = some (.guest g) →
    let body : Option CardRef := some { record := n.val, slot := k.val, card := card }
    let replied (c : Instr) (kind : Byte) (r : Result) (carried : ReplyBody) :=
      exec c s = .next ((s.touch i).heard.answered tag kind r carried)
    let changed (c : Instr) (kind : Byte) (x : Option Card) (index : List IndexEntry) :=
      ∃ (cache : Cache) (port : Port),
        exec c s = .next { s.heard.answered tag kind .done .empty with
          cache := cache, port := port, index := index
          landing := (s.recount n g).landing, muster := (s.recount n g).muster }
        ∧ recordChanged s cache port i (.guest (g.setCard k x)) ∧ s.writesUrgently cache port i
    let held (st : CardState) := g.card k = some { id := card, state := st }
    let otherwise := ∀ c : Card, g.card k = some c → c.id ≠ card
    (s.service = true → s.landing.census.running = false → n ∉ s.landing.census.skipped →
      let add : Instr := .cardAdd tag body
      let indexed := s.index.find? fun y => decide (y.card = card)
      let entry : IndexEntry := { card := card, record := n, slot := k }
      let carried : ReplyBody :=
        match indexed with
        | some x => if x.record = n ∧ x.slot = k then .empty else .indexedAt x.record x.slot
        | none => .empty
      let here := ∃ x, indexed = some x ∧ x.record = n ∧ x.slot = k
      let elsewhere := ∃ x, indexed = some x ∧ ¬(x.record = n ∧ x.slot = k)
      (g.status = .vacant → replied add 0x22 .state carried)
      ∧ (g.status ≠ .vacant →
        (g.card k = none → indexed = none →
          changed add 0x22 (some { id := card, state := .active }) (s.index ++ [entry]))
        ∧ (g.card k = none → indexed ≠ none → replied add 0x22 .state carried)
        ∧ (held .active → here → replied add 0x22 .done .empty)
        ∧ (held .lost → here → changed add 0x22 (some { id := card, state := .active }) s.index)
        ∧ (held .active → indexed = none →
          exec add s = .next { (s.touch i).heard.answered tag 0x22 .done .empty with index := s.index ++ [entry] })
        ∧ (held .lost → indexed = none →
          changed add 0x22 (some { id := card, state := .active }) (s.index ++ [entry]))
        ∧ (∀ st : CardState, held st → elsewhere → replied add 0x22 .state carried)
        ∧ (g.card k ≠ none → otherwise → replied add 0x22 .state carried)))
    ∧ (held .active → changed (.cardMarkLost tag body) 0x23 (some { id := card, state := .lost }) s.index)
    ∧ (held .lost → replied (.cardMarkLost tag body) 0x23 .done .empty)
    ∧ (otherwise → replied (.cardMarkLost tag body) 0x23 .state .empty)
    ∧ (∀ st : CardState, held st →
      changed (.cardRemove tag body) 0x24 none
        (s.index.filter fun x => !(decide (x.card = card ∧ x.record = n ∧ x.slot = k))))
    ∧ (otherwise → replied (.cardRemove tag body) 0x24 .state .empty)

/-- A record request, of any kind, for a record that no slot holds: one a slot is bringing in joins its waiters; a miss claims
the lowest EMPTY slot, or else the least recent CLEAN or DIRTY slot without a hold or a pending commit. An EMPTY slot and a
CLEAN victim fill at once from a queued fill; a DIRTY victim keeps its record and a pair is queued in place of its write-back.
With no such slot, or no place in the queue, nothing is claimed and the stall timer runs. In each case the request stays in
hand. A miss that could not start asks again when a hold has ended, and so fills the slot it held, and does not when an answer
of a reader ends none (R8, R32 to R34, R37). That the pair's claim clears the urgent mark is the model's choice (log 41). -/
def Obligations.MissesClaimASlot : Prop :=
  (∀ (s : State) (c : Instr) (tag : Tag) (kind : Byte) (req : RecordReq), s.servesRequest → s.portSettled →
    requestOf c = some (tag, kind) → recordRequestOf c = some req → s.refusedEarly req = false →
    let hand : HostLink := { s.heard.link with inHand := some { tag := tag, kind := kind, work := .record req } }
    let victim (i : Fin 128) := ((s.slot i).state = .clean ∨ (s.slot i).state = .dirty) ∧ (s.slot i).holds = []
      ∧ (s.slot i).commitPending = 0
    let lowest (i : Fin 128) := (s.slot i).state = .empty ∧ ∀ j : Fin 128, j < i → (s.slot j).state ≠ .empty
    let oldest (i : Fin 128) := (∀ j : Fin 128, (s.slot j).state ≠ .empty)
      ∧ ∃ newer older, s.cache.recency = newer ++ i :: older ∧ victim i ∧ ∀ j ∈ older, ¬victim j
    let elsewhere (t : State) (i : Fin 128) := t.link = hand ∧ (∀ j : Fin 128, j ≠ i → t.slot j = s.slot j)
      ∧ t.cache.recency = i :: s.cache.recency.erase i
      ∧ t.entries = s.entries ∧ t.index = s.index ∧ t.landing = s.landing ∧ t.journal = s.journal ∧ t.mem = s.mem
    let started (t : State) := (t.router.entry .cacheStall).present = false ∧ t.cache.stalling = false
    (∀ i : Fin 128, s.find req.key = .join i → ∃ t, exec c s = .next t ∧ elsewhere t i ∧ t.port = s.port
      ∧ t.slot i =
        { s.slot i with
          waiters := if .host ∈ (s.slot i).waiters then (s.slot i).waiters else (s.slot i).waiters ++ [.host] })
    ∧ (s.find req.key = .miss →
      (∀ i : Fin 128, lowest i ∨ oldest i ∧ (s.slot i).state = .clean → s.placeFree →
        ∃ t, exec c s = .next t ∧ elsewhere t i ∧ started t
          ∧ t.slot i = { Slot.blank with state := .filling, key := some req.key, waiters := [.host] }
          ∧ (.fill i ∈ t.port.queue ∨ t.port.job = some (.fill i)))
      ∧ (∀ i : Fin 128, oldest i → (s.slot i).state = .dirty → (s.slot i).wbQueued = true ∨ s.placeFree →
        ∃ t, exec c s = .next t ∧ elsewhere t i ∧ started t
          ∧ t.slot i =
            { s.slot i with
              state := .writing, incoming := some req.key, waiters := [.host], wbQueued := false, urgent := false }
          ∧ (.pair i ∈ t.port.queue ∨ t.port.job = some (.pair i))
          ∧ t.port.queue.count (.writeBack i) = s.port.queue.count (.writeBack i) - 1)
      ∧ (((∀ j : Fin 128, (s.slot j).state ≠ .empty) ∧ ∀ j ∈ s.cache.recency, ¬victim j)
          ∨ 16 ≤ s.port.queue.length ∧ (∀ i : Fin 128, oldest i → ¬((s.slot i).state = .dirty ∧ (s.slot i).wbQueued = true)) →
        exec c s = .next
          { s.heard with
            link := hand, cache := { s.cache with stalling := true }
            port := { s.port with
              waiting := if .handMiss ∈ s.port.waiting then s.port.waiting else s.port.waiting ++ [.handMiss] } })))
  ∧ ∀ (s : State) (h : InHand) (req : RecordReq), s.inReset = false → s.power.state = .normal → s.portSettled →
    s.port.waiting = [.handMiss] → s.journal.commits.all (·.queued) = true → s.cache.flush = none →
    s.link.inHand = some h → h.work = .record req → s.refusedEarly req = false → s.find req.key = .miss →
    (∀ (n : Fin 4) (dur : Nat) (e : Entry), s.calledEntry n = some e → ∃ t, exec (.idle n dur) s = .next t
      ∧ t.cache = s.cache ∧ t.port = s.port ∧ t.link = s.link)
    ∧ ∀ (n : Fin 4) (drop : Nat) (k : RecKey) (i : Fin 128) (newer older : List (Fin 128)),
      let ended (x : Hold) := x.line = n ∧ x.drop = drop ∧ x.key = k ∧ x.expiry ≤ s.clock.seconds
      let free (j : Fin 128) := ((s.slot j).state = .clean ∨ (s.slot j).state = .dirty) ∧ (∀ x ∈ (s.slot j).holds, ended x)
        ∧ (s.slot j).commitPending = 0
      (∃ x ∈ (s.slot i).holds, ended x) → (∀ j : Fin 128, (s.slot j).state ≠ .empty) → s.cache.recency = newer ++ i :: older →
      free i → (∀ j ∈ older, ¬free j) → (s.slot i).state = .clean → s.placeFree →
      ∃ t, exec (.holdExpiry n drop k) s = .next t ∧ t.link = s.link ∧ t.cache.stalling = false ∧ t.port.waiting = []
        ∧ t.slot i = { Slot.blank with state := .filling, key := some req.key, waiters := [.host] }
        ∧ (.fill i ∈ t.port.queue ∨ t.port.job = some (.fill i))

/-- The counts move with the holder. A record that leaves and enters the counts stands afterwards where its presence says,
aboard or at its place in the roster, and nowhere else; a change of category or station moves it among the counts it stands
in, its roster entry in place; a muster offer counts a holder mustered; a muster's begin and end empty the mustered counts.
Whether a leaving or moving holder is mustered is asked of its record at the change: the count it stood in falls by one and
the one it now stands in rises by one, and a crew member's station moves none. Each time every tally, site count and station
count is again the number of those it counts, no mustered count is above its station's, and nothing else changes (R11, R141 to
R143, R164, R165). That a list of those counted aboard says who has been counted mustered, and that a mustered count of 0
stays 0, are the model's readings (log 32). -/
def Obligations.CountsMoveWithTheHolder : Prop :=
  ∀ (s : State) (n : Fin 2048) (g : Guest), s.countsSafe →
    let moved (t : State) (left entered : Option AboardEntry) (aboard : AboardEntry → Prop) (roster : RosterEntry → Prop) :=
      t.countsSafe ∧ s.muster.movedTo t.muster left entered
      ∧ (∀ x, x ∈ t.landing.aboard ↔ (x ∈ s.landing.aboard ∧ x.record ≠ n) ∨ aboard x)
      ∧ (∀ e, e ∈ t.landing.roster ↔ (e ∈ s.landing.roster ∧ e.record ≠ n) ∨ roster e)
      ∧ t = { s with landing := t.landing, muster := t.muster }
      ∧ t.landing.lanes = s.landing.lanes ∧ t.landing.census = s.landing.census
      ∧ (∀ k : Fin 4, t.landing.sites[k] = { s.landing.sites[k] with count := t.landing.sites[k].count })
      ∧ t.muster.active = s.muster.active ∧ t.muster.beginStamp = s.muster.beginStamp ∧ t.muster.frozen = s.muster.frozen
    let stood : Option AboardEntry := s.landing.aboard.find? fun x => decide (x.record = n)
    let stays (x : AboardEntry) := x ∈ s.landing.aboard ∧ x.record = n
    let waits (e : RosterEntry) := e ∈ s.landing.roster ∧ e.record = n
    let tested (x : AboardEntry) (b : Bool) : AboardEntry := { x with mustered := x.mustered || b }
    let now (x : AboardEntry) : AboardEntry := { x with category := g.category, station := g.station }
    (∀ left mustered : Bool, (mustered = true → s.muster.active = true) →
      (∀ k, g.presence = .ashore → g.site = some k → s.landing.sites[k].state ≠ .closed) →
      let aboard : Option AboardEntry :=
        if g.presence = .aboard then some { record := n, category := g.category, station := g.station, mustered := mustered } else none
      moved ((s.countOut n left).countIn n g mustered) (stood.map fun x => tested x left) aboard (fun x => aboard = some x)
        (fun e => g.presence = .ashore ∧ ∃ k, g.site = some k
          ∧ e = { record := n, category := g.category, site := k, stamp := g.stamp }))
    ∧ (s.counted n = false → s.recount n g = s ∧ s.musterIn n = s)
    ∧ (s.counted n = true →
      (let test : Bool := s.muster.active && g.musterStamp.any fun m => decide (s.muster.beginStamp ≤ m)
       let moves (x : AboardEntry) : Bool :=
         decide (x.category ≠ g.category) || (decide (g.category = .guest) && decide (x.station ≠ g.station))
       let mover := stood.filter moves
       moved (s.recount n g) (mover.map fun x => tested x test) (mover.map fun x => now (tested x test))
         (fun x => ∃ y, stays y ∧ x = now (if moves y then tested y test else y))
         (fun e => ∃ y, waits y ∧ e = { y with category := g.category }))
      ∧ (s.muster.active = true →
        moved (s.musterIn n) none ((stood.filter fun x => !x.mustered).map fun x => tested x true)
          (fun x => ∃ y, stays y ∧ x = tested y true) waits))
    ∧ s.clearMustered.countsSafe
    ∧ s.clearMustered.landing = { s.landing with aboard := s.landing.aboard.map fun x => { x with mustered := false } }
    ∧ s.clearMustered.muster = { s.muster with mustered := Vector.replicate 8 0, crewMustered := 0 }

/-- FOLIO_PUT and FOLIO_SETTLE on a cached folio: the carried terms or the moved balance, with the standing compared again;
the write-back is on its way and the reply is DONE. A field off its range is answered BAD_FIELD with nothing looked up, a
balance carried over a pending commit STATE, and an amount that leaves the balance, or the balance less the pending total,
off its range BAD_FIELD (R124, R137, R138). The set of sticky flags as one byte of bits is the model's choice (log 59). -/
def Obligations.FolioRequestsRecompareTheStanding : Prop :=
  (∀ (s : State) (tag : Tag), s.servesRequest →
    (∀ f : FolioPut,
      1023 < f.folio ∨ 2 < f.status ∨ 98999999 < f.limit ∨ 999999 < f.floorAllowance
        ∨ (∃ b, f.balance = some b ∧ (b < -99999999 ∨ 99999999 < b)) ∨ (∃ v, f.clear = some v ∧ 63 < v) →
      exec (.folioPut tag (some f)) s = .next (s.heard.answered tag 0x31 .badField .empty))
    ∧ ∀ f : FolioSettle, 1023 < f.folio ∨ f.amount < -199999998 ∨ 199999998 < f.amount →
      exec (.folioSettle tag (some f)) s = .next (s.heard.answered tag 0x32 .badField .empty))
  ∧ ∀ (s : State) (tag : Tag) (n : Fin 1024) (i : Fin 128) (x : Folio), s.servesRequest → s.portSettled →
    s.find (.folio n) = .hit i → (s.slot i).content = some (.folio x) →
    let changed (c : Instr) (kind : Byte) (y : Folio) :=
      ∃ (cache : Cache) (port : Port),
        exec c s = .next { s.heard.answered tag kind .done .empty with cache := cache, port := port }
        ∧ recordChanged s cache port i (.folio y) ∧ s.writesUrgently cache port i
    (∀ (f : FolioPut) (st : FolioStatus), f.folio = n.val → FolioStatus.ofCode f.status = some st → f.limit ≤ 98999999 →
      f.floorAllowance ≤ 999999 → (∀ b, f.balance = some b → -99999999 ≤ b ∧ b ≤ 99999999) →
      (∀ b, f.clear = some b → b < 64) →
      let balance := f.balance.getD x.balance
      (f.balance.isSome = true → 0 < (s.slot i).commitPending →
        exec (.folioPut tag (some f)) s = .next ((s.touch i).heard.answered tag 0x31 .state .empty))
      ∧ ((f.balance.isSome = true → (s.slot i).commitPending = 0) →
        changed (.folioPut tag (some f)) 0x31
          { x with
            status := st, limit := f.limit, floorAllowance := f.floorAllowance, balance := balance
            sticky := x.sticky &&& ~~~(BitVec.ofNat 6 (f.clear.getD 0))
            standing := if balance < f.limit then .under else if balance = f.limit then .at else .over }))
    ∧ ∀ amount : Int, -199999998 ≤ amount → amount ≤ 199999998 →
      let balance := x.balance + amount
      let pending : Int := ((s.journal.commits.filter fun c => decide (c.folio = n)).map (·.total)).sum
      let settle : Instr := .folioSettle tag (some { folio := n.val, amount := amount })
      (balance < -99999999 ∨ 99999999 < balance ∨ balance - pending < -99999999 →
        exec settle s = .next ((s.touch i).heard.answered tag 0x32 .badField .empty))
      ∧ (-99999999 ≤ balance → balance ≤ 99999999 → -99999999 ≤ balance - pending →
        changed settle 0x32
          { x with
            balance := balance
            standing := if balance < x.limit then .under else if balance = x.limit then .at else .over })


/-! ## Bindings (chapter 4) -/

/-- BIND_PUT replaces the serial's binding, or takes the lowest empty slot; BIND_REMOVE empties the serial's slot; every
entry of the serial that is not DUPLICATE is bound again; the block's write is queued, and with the queue full the request
waits in hand with nothing in force. A field off its range, and a serial of 0, are answered BAD_FIELD; a full store without the
serial, and a serial to remove that no slot holds, STATE (R21, R75, R79, R80, R81). -/
def Obligations.BindingChangesReachTheTable : Prop :=
  (∀ (s : State) (tag : Tag), s.servesRequest →
    (∀ f : BindPut, f.serial = 0 ∨ 15 < f.profile ∨ readerKindOfCode f.kind = none
        ∨ (∃ kind, readerKindOfCode f.kind = some kind ∧ match kind with
            | .lock => 9999 < f.locus
            | .bar => f.locus < 1 ∨ 63 < f.locus
            | .laneOut | .laneIn => f.locus < 1 ∨ 4 < f.locus
            | .muster => f.locus < 1 ∨ 8 < f.locus) →
      exec (.bindPut tag (some f)) s = .next (s.heard.answered tag 0x40 .badField .empty))
    ∧ exec (.bindRemove tag (some 0)) s = .next (s.heard.answered tag 0x41 .badField .empty)
    ∧ ∀ serial : ReaderSerial, serial ≠ 0 → (∀ (j : Fin 192) (b : Binding), s.bindings[j] = some b → b.serial ≠ serial) →
      exec (.bindRemove tag (some serial)) s = .next (s.heard.answered tag 0x41 .state .empty)
      ∧ ∀ (f : BindPut) (kind : ReaderKind), f.serial = serial → readerKindOfCode f.kind = some kind → f.profile ≤ 15 →
        locusInRange kind f.locus = true → (∀ j : Fin 192, s.bindings[j] ≠ none) →
        exec (.bindPut tag (some f)) s = .next (s.heard.answered tag 0x40 .state .empty))
  ∧ ∀ (s : State) (tag : Tag) (i : Fin 192), s.servesRequest →
    let full := 16 ≤ s.port.queue.length
    (∀ (f : BindPut) (kind : ReaderKind) (profile : Fin 16), f.serial ≠ 0 → readerKindOfCode f.kind = some kind →
      f.profile = profile.val → locusInRange kind f.locus = true →
      (s.bindingSlot f.serial = some i
        ∨ s.bindingSlot f.serial = none ∧ s.bindings[i] = none ∧ ∀ j : Fin 192, j < i → s.bindings[j] ≠ none) →
      let b : Binding := { serial := f.serial, kind := kind, profile := profile, locus := f.locus }
      (full → exec (.bindPut tag (some f)) s = .next
        (s.heard.holding tag 0x40 (.confPlace (.bindPut b))).waitsForPlace)
      ∧ (s.placeFree → s.portSettled → exec (.bindPut tag (some f)) s = .next
        ({ s.heard.holding tag 0x40 .confWrite with
            bindings := s.bindings.set i (some b)
            entries := s.entries.map fun (e : Entry) =>
              if e.serial = f.serial ∧ e.binding ≠ BindState.duplicate then
                { e with binding := if e.kind = kind then .bound i else .kindMismatch }
              else e }.withJob
          (.confWrite (.conf (.bindings ⟨i.val / 16, by omega⟩)) .hand))))
    ∧ ∀ serial : ReaderSerial, serial ≠ 0 → s.bindingSlot serial = some i →
      (∀ (j : Fin 192) (b : Binding), s.bindings[j] = some b → b.serial = serial → j = i) →
      (full → exec (.bindRemove tag (some serial)) s = .next
        (s.heard.holding tag 0x41 (.confPlace (.bindRemove serial))).waitsForPlace)
      ∧ (s.placeFree → s.portSettled → exec (.bindRemove tag (some serial)) s = .next
        ({ s.heard.holding tag 0x41 .confWrite with
            bindings := s.bindings.set i none
            entries := s.entries.map fun (e : Entry) =>
              if e.serial = serial ∧ e.binding ≠ BindState.duplicate then { e with binding := .noBinding } else e }.withJob
          (.confWrite (.conf (.bindings ⟨i.val / 16, by omega⟩)) .hand)))

/-! ## Deck lines (chapter 3) -/

/-- On a SERVING line between turns the entry at the head of the priority turn list is given its turn first, by VERDICT, and
leaves the list. With no priority turn owed, the first entry above the last round drop that is given a turn in this round
(FAST; SLOW in a multiple of 4 or with a verdict outgoing; LOST in a multiple of 32) is, by CALL, or by VERDICT when a verdict
is outgoing; a round with none left completes. A VERDICT frame carries the outgoing verdict and adds one to its delivery count
(R49, R51, R52, R55, R61). The gap is an operand of the event, it counts in a priority turn from the round's first turn on,
and one CALL completes one round (the model's choices, logs 7 and 11). -/
def Obligations.TurnsGoDownTheLine : Prop :=
  (∀ (s : State) (n : Fin 4) (gap : Nat), s.inReset = false → s.mayCall n = true → s.livePriority n = [] →
    (s.entries.Pairwise fun a b => a.line = b.line → a.drop < b.drop) →
    let round := s.lines[n].round.toNat
    let given (e : Entry) := e.poll = .fast ∨ (e.poll = .slow ∧ (e.outgoing.isSome = true ∨ round % 4 = 0))
      ∨ (e.poll = .lost ∧ round % 32 = 0)
    (∀ e ∈ s.entries, e.line = n → s.lines[n].lastDrop < e.drop → given e → e.outgoing = none →
      (∀ x ∈ s.entries, x.line = n → s.lines[n].lastDrop < x.drop → x.drop < e.drop → ¬given x) →
      let l : Line :=
        { s.lines[n] with
          turn := some (.call e.drop), sent := some (.call e.drop), priority := [], lastDrop := e.drop, roundBegun := true
          roundTime := if s.lines[n].roundBegun then s.lines[n].roundTime + gap else 0 }
      exec (.call n gap) s = .next { s with lines := s.lines.set n l })
    ∧ ((∀ x ∈ s.entries, x.line = n → s.lines[n].lastDrop < x.drop → ¬given x) → ∃ t, exec (.call n gap) s = .next t
      ∧ t.lines[n].round = s.lines[n].round + 1 ∧ t.lines[n].lastDrop = 0 ∧ t.lines[n].turn = none
      ∧ t.lines[n].capture = (if s.lines[n].roundBegun then s.lines[n].roundTime else 0)
      ∧ (t.router.entry (.lineSlow n)).present = decide (1000 * s.settings.roundLimit < t.lines[n].capture)
      ∧ t.entries = s.entries ∧ t.cache = s.cache ∧ t.mem = s.mem))
  ∧ ∀ (s : State) (n : Fin 4) (gap : Nat) (e : Entry) (o : Outgoing), s.inReset = false → s.mayCall n = true →
    e.line = n → s.entryAt n e.drop = some e → e.outgoing = some o →
    let frame : DeckFrame := .verdict e.drop o.seq o.verdict
    let entries := s.entries.map fun (x : Entry) =>
      if x.line = n ∧ x.drop = e.drop then { x with outgoing := x.outgoing.map fun y => { y with deliveries := y.deliveries + 1 } }
      else x
    let time := if s.lines[n].roundBegun then s.lines[n].roundTime + gap else 0
    (∀ rest, s.livePriority n = e.drop :: rest →
      exec (.verdict n gap) s = .next { s with
        entries := entries
        lines := s.lines.set n { s.lines[n] with turn := some frame, sent := some frame, priority := rest, roundTime := time } })
    ∧ (s.livePriority n = [] → s.nextRound n = some e →
      let l : Line :=
        { s.lines[n] with
          turn := some frame, sent := some frame, priority := [], lastDrop := e.drop, roundBegun := true, roundTime := time }
      exec (.verdict n gap) s = .next { s with entries := entries, lines := s.lines.set n l })

/-- IDLE, and RECEIPT to a VERDICT frame: the turn ends, the garble run is 0, the entry's counts follow, and a RECEIPT
TAKEN ends the delivery of the verdict its frame carried while HELD leaves it; no record is touched. A good answer of any kind
from a LOST entry, IDLE, OFFER, CANCEL or RECEIPT, queues READER_BACK, and one from any other queues none. A garble or a
silence ends a round turn: the silent count rises by one, a garble adds one to the garble run and a silence leaves it,
and the quiet count, the offer memory and the outgoing verdict stay; a JOIN in a round turn is such a garble (R48, R49,
R53, R54, R62). That an IDLE which brings an entry back from LOST leaves its quiet count at 0 is the model's reading
(log 12). -/
def Obligations.TurnsEndAsTheyAreAnswered : Prop :=
  (∀ (s : State) (n : Fin 4) (dur : Nat) (e : Entry), s.inReset = false → s.calledEntry n = some e →
    s.port.waiting = [] → s.journal.commits = [] → s.power.state = .normal → s.portSettled → s.cache.flush = none →
    (∃ t, exec (.idle n dur) s = .next t ∧ t.lines[n].turn = none ∧ t.lines[n].garbleRun = 0
      ∧ t.entryAt n e.drop = some
        { e with
          poll := if e.poll = .lost then .fast else e.poll, quiet := if e.poll = .fast then e.quiet + 1 else 0, silent := 0 }
       ∧ t.cache = s.cache ∧ t.port = s.port ∧ t.mem = s.mem)
    ∧ ∀ (d : Nat) (seq : Byte) (v : Verdict) (taken : Bool), s.lines[n].turn = some (.verdict d seq v) →
      ∃ t, exec (.receipt n dur taken) s = .next t ∧ t.lines[n].turn = none ∧ t.lines[n].garbleRun = 0
      ∧ t.entryAt n e.drop = some
          (let x := { e with poll := if e.poll = .lost then .fast else e.poll, quiet := 0, silent := 0 }
           if taken then
             { x with
               outgoing := match e.outgoing with
                 | some o => if o.seq = seq ∧ o.verdict = v then none else some o
                 | none => none
               trail := if v.kind = .grant ∨ v.kind = .deny then e.trail.map Trail.delivered else e.trail }
           else x)
      ∧ t.cache = s.cache ∧ t.port = s.port ∧ t.mem = s.mem)
  ∧ (∀ (s : State) (n : Fin 4) (dur : Nat) (e : Entry), s.awaitsAnswer n e → s.notices.items.length < 64 →
    let back : NoticeBody := .readerBack n e.drop e.serial
    let answers (c : Instr) := ∃ t x, exec c s = .next t ∧ t.entryAt n e.drop = some x ∧ x.silent = 0
      ∧ (e.poll = .lost → x.poll = .fast ∧ t.noticed back) ∧ (e.poll ≠ .lost → t.noticed back → s.noticed back)
    answers (.idle n dur) ∧ (∀ seq : Byte, answers (.cancel n dur seq))
    ∧ (∀ (seq : Byte) (card : CardId) (lines : Option (List SaleLine)), (lines.isSome = true ↔ e.kind = .bar) →
      answers (.offer n dur seq card lines))
    ∧ ∀ (d : Nat) (seq : Byte) (v : Verdict) (taken : Bool), s.lines[n].turn = some (.verdict d seq v) →
      answers (.receipt n dur taken))
  ∧ ∀ (s : State) (n : Fin 4) (dur : Nat) (e : Entry), s.inReset = false → s.calledEntry n = some e →
    let after (t : State) (run : Nat) :=
      t.lines[n].turn = none ∧ t.lines[n].garbleRun = run ∧ t.entryAt n e.drop = some { e with silent := e.silent + 1 }
      ∧ (∀ x ∈ s.entries, ¬(x.line = n ∧ x.drop = e.drop) → x ∈ t.entries) ∧ t.entries.length = s.entries.length
      ∧ (∀ m : Fin 4, m ≠ n → t.lines[m] = s.lines[m]) ∧ t.cache = s.cache ∧ t.port = s.port ∧ t.journal = s.journal
      ∧ t.landing = s.landing ∧ t.mem = s.mem
    (∃ t, exec (.garble n dur) s = .next t ∧ after t (s.lines[n].garbleRun + 1))
    ∧ (∃ t, exec (.silence n dur) s = .next t ∧ after t s.lines[n].garbleRun)
    ∧ ∀ (kind : ReaderKind) (serial : ReaderSerial), exec (.join n dur ⟨kind, serial⟩) s = exec (.garble n dur) s

/-- QUIET_COUNT at 64 makes a FAST entry SLOW; READER_LOST at three silent turns makes an entry LOST with its notice;
GARBLE_RUN at 8 starts an automatic check of the line with nothing else
pending (R53, R54; with a check, an enumeration or an isolation pending it starts none, the model's choice, log 47). -/
def Obligations.CountsReachedChangeTheState : Prop :=
  ∀ (s : State) (n : Fin 4) (drop : Nat) (e : Entry), s.inReset = false → s.entryAt n drop = some e →
    (∀ x ∈ s.entries, x.line = n → x.drop = drop → x = e) →
    let with' (f : Entry → Entry) := s.entries.map fun (x : Entry) => if x = e then f x else x
    (e.poll = .fast → 64 ≤ e.quiet →
      exec (.quietCount n drop) s = .next { s with entries := with' fun x => { x with poll := .slow, quiet := 0 } })
    ∧ (e.poll ≠ .lost → 3 ≤ e.silent →
      exec (.readerLost n drop) s = .next
        ({ s with entries := with' fun x => { x with poll := .lost, quiet := 0 } }.notify
          (.readerLost n drop e.serial e.outgoing.isSome)))
    ∧ (s.lines[n].state = .serving → 8 ≤ s.lines[n].garbleRun → s.lines[n].ops = [] → s.lines[n].isolating = none →
      let l : Line := { s.lines[n] with ops := [.check .automatic], garbleRun := 0 }
      exec (.garbleRun n) s = .next { s with lines := s.lines.set n l })

/-- A repeat of a DECIDED offer is answered from memory: the remembered verdict is outgoing again with a new life and a
delivery count of 0, the entry joins the priority turn list of a SERVING line unless it is LOST or on it already, and no
record, trail, notice, index or count changes. CANCEL as the answer of a turn follows R60: one that names no offer of
the entry is answered NOT_PENDING; a deferred offer is dropped, CANCELLED remembered and outgoing; a committing one is
CANCEL_ASKED, its commit untouched, and so is one asked again, with WAIT outgoing when no verdict was; a DECIDED one is
answered CANCELLED again, or TOO_LATE with the serial of an accepted sale, the remembered verdict kept (R52, R58, R60,
R61, R63). That R60's last row also answers a sale whose commit has failed is the model's reading of R130
(log 40), and that a verdict so replaced queues no notice is its reading too (log 18). -/
def Obligations.RepeatsAndCancelsFollowTheOfferMemory : Prop :=
  (∀ (s : State) (e : Entry) (seq : Byte) (card : CardId) (lines : List SaleLine) (v : Verdict),
    s.entryAt e.line e.drop = some e → e.lastSeq = some seq → e.disposition = .decided → e.remembered = some v →
    let l := s.lines[e.line]
    let priority := if l.state = .serving ∧ e.poll ≠ .lost ∧ e.drop ∉ l.priority then l.priority ++ [e.drop] else l.priority
    s.offered e seq card lines =
      { s with
        lines := s.lines.set e.line { l with priority := priority }
        entries := s.entries.map fun (x : Entry) =>
          if x.line = e.line ∧ x.drop = e.drop then
            { x with outgoing := some <|
              { seq := seq, verdict := v, deliveries := 0
                expiry := min (s.clock.seconds + (match x.kind with | .lock => 3 | .bar => 30 | _ => 10)) 4294967295 } }
          else x })
  ∧ ∀ (s : State) (n : Fin 4) (dur : Nat) (seq : Byte) (e : Entry), s.inReset = false → s.calledEntry n = some e →
    s.port.waiting = [] → s.journal.commits.all (·.queued) = true →
    let gives (x : Entry) (v : Verdict) := x.outgoing = some
      { seq := seq, verdict := v, deliveries := 0
        expiry := min (s.clock.seconds + (match e.kind with | .lock => 3 | .bar => 30 | _ => 10)) 4294967295 }
    let plain (k : VerdictKind) : Verdict := { kind := k, reason := .none, result := .none }
    let waits (x : Entry) := if e.outgoing = none then gives x (plain .wait) else x.outgoing = e.outgoing
    let keeps (x : Entry) := x.lastSeq = e.lastSeq ∧ x.disposition = e.disposition ∧ x.remembered = e.remembered
    ∃ t x, exec (.cancel n dur seq) s = .next t ∧ t.entryAt n e.drop = some x ∧ x.poll = .fast ∧ x.quiet = 0 ∧ x.silent = 0
      ∧ t.lines[n].turn = none ∧ t.lines[n].garbleRun = 0
      ∧ t.journal = s.journal ∧ t.mem = s.mem ∧ t.landing = s.landing
      ∧ (e.lastSeq ≠ some seq → keeps x ∧ gives x (plain .notPending))
      ∧ (e.lastSeq = some seq → e.disposition = .deferred →
          x.disposition = .decided ∧ x.remembered = some (plain .cancelled) ∧ gives x (plain .cancelled)
          ∧ ∀ (i : Fin 128), ∀ h ∈ (t.slot i).holds, ¬(h.line = n ∧ h.drop = e.drop))
      ∧ (e.lastSeq = some seq → e.disposition = .committing ∨ e.disposition = .cancelAsked →
          x.disposition = .cancelAsked ∧ x.lastSeq = e.lastSeq ∧ x.remembered = e.remembered ∧ waits x)
      ∧ (∀ v : Verdict, e.lastSeq = some seq → e.disposition = .decided → e.remembered = some v →
          keeps x
          ∧ (v.kind = .cancelled → gives x v)
          ∧ (v.kind ≠ .cancelled →
              let late (serial : Option PostSerial) := gives x { kind := .tooLate, reason := .none, result := .late serial }
              (∀ total covered rest flags serial, v = { kind := .accept, reason := .none, result := .accept total covered rest flags serial } →
                late (some serial))
              ∧ (v.kind ≠ .accept → late none)))

/-- ASSIGN and JOIN: the controller offers the drop, a good JOIN makes its entry, DUPLICATE when another entry holds the
serial, and the next drop, or the ASSIGN 0 probe after 48, follows. A second silence ends the chain, COMPLETE; a fourth try
with neither a good JOIN nor a second silence ends it CHAIN_FAULT; a failed try before goes on. To ASSIGN 0 any answer, good
or garbled, ends the enumeration OVERFULL, and a second silence COMPLETE. At each end DnCHAIN falls, the line is SERVING at
round 0 with its entries FAST, and LINE_ENUMERATED carries the result and the counts; it ends the line's bring-up, with
START_UP_DONE when it is the last of the census and the four (R66, R67, R68, R75, R198). That START_UP_DONE carries the tallies
as they stand when it is queued is the model's reading (log 31). -/
def Obligations.AssignAndJoinMakeAnEntry : Prop :=
  ∀ (s : State) (n : Fin 4) (run : EnumRun), s.inReset = false → s.lines[n].enumerating = some run →
    (s.lines[n].state = .enumerating → s.lines[n].turn = none → s.lines[n].isolating = none →
      let l : Line :=
        { s.lines[n] with
          turn := some (.assign run.drop), sent := some (.assign run.drop)
          enumerating := some { run with tries := run.tries + 1 } }
      exec (.assign n) s = .next { s with lines := s.lines.set n l })
    ∧ (∀ (dur : Nat) (kind : ReaderKind) (serial : ReaderSerial), 1 ≤ run.drop → s.lines[n].turn = some (.assign run.drop) →
      let l : Line :=
        { s.lines[n] with
          turn := none
          enumerating := some { drop := if run.drop = 48 then 0 else run.drop + 1, tries := 0, silences := 0 } }
      ∃ e : Entry,
        exec (.join n dur ⟨kind, serial⟩) s = .next { s with entries := insertEntry e s.entries, lines := s.lines.set n l }
        ∧ e = { line := n, drop := run.drop, kind := kind, serial := serial, binding := e.binding, poll := .fast, quiet := 0
                silent := 0, lastSeq := none, disposition := .nothing, remembered := none, outgoing := none
                trail := if kind = .lock then some { entries := [], next := 0 } else none }
        ∧ ((∃ x ∈ s.entries, x.serial = serial) ↔ e.binding = .duplicate)
        ∧ ((∀ x ∈ s.entries, x.serial ≠ serial) → e.binding = s.boundAs serial kind))
    ∧ (s.lines[n].turn = some (.assign run.drop) →
      let goesOn (c : Instr) (silences : Nat) :=
        let l : Line := { s.lines[n] with turn := none, enumerating := some { run with silences := silences } }
        exec c s = .next { s with lines := s.lines.set n l }
      let ends (c : Instr) (result : EnumResult) := s.lines[n].isolating = none → ∃ t, exec c s = .next t
        ∧ t.lines[n].state = .serving ∧ t.lines[n].round = 0 ∧ t.lines[n].chain = false ∧ t.lines[n].enumerating = none
        ∧ t.lines[n].turn = none
        ∧ t.entries = s.entries.map (fun (e : Entry) =>
            if e.line = n then { e with poll := .fast, quiet := 0, silent := 0 } else e)
        ∧ (s.notices.items.length < 63 → t.noticed
            (.lineEnumerated n result (s.entriesOf n).length
              ((s.entriesOf n).countP fun e => decide (e.binding = .duplicate))
              ((s.entriesOf n).countP fun e => decide (e.binding = .noBinding) || decide (e.binding = .kindMismatch))))
        ∧ s.bringUpEnded t n (.enumerated (s.entriesOf n).length result)
      ∀ dur : Nat,
        (1 ≤ run.silences → ends (.silence n dur) .complete)
        ∧ (run.silences = 0 → run.drop = 0 ∨ run.tries < 4 → goesOn (.silence n dur) 1)
        ∧ (run.silences = 0 → 1 ≤ run.drop → 4 ≤ run.tries → ends (.silence n dur) .chainFault)
        ∧ (run.silences ≤ 1 → 1 ≤ run.drop → run.tries < 4 → goesOn (.garble n dur) run.silences)
        ∧ (run.silences ≤ 1 → 1 ≤ run.drop → 4 ≤ run.tries → ends (.garble n dur) .chainFault)
        ∧ (run.drop = 0 → ends (.garble n dur) .overfull
          ∧ ∀ (kind : ReaderKind) (serial : ReaderSerial), ends (.join n dur ⟨kind, serial⟩) .overfull))

/-- LINE_ENUMERATE of a SERVING line and LINE_CHECK of a SERVING or ISOLATED one are taken up for the end of the turn in
progress, the first answered STARTED and the second kept in hand; LINE_RESTORE takes an ISOLATED line so; LINE_ISOLATE is
answered DONE. In any other line state each is answered STATE, whatever waits (R48, R65, R70 to R72). Operations that wait
stand in the order accepted, one enumeration for several requests, and an isolation asked before keeps its cause (the model's
choices, log 10). -/
def Obligations.LineRequestsWaitForTheTurn : Prop :=
  ∀ (s : State) (tag : Tag) (n : Fin 4), s.servesRequest →
    let line (l : Line) := { s.heard with lines := s.lines.set n l }
    let l := s.lines[n]
    (s.service = true → l.state = .serving →
      exec (.lineEnumerate tag (some n.val)) s = .next
        ((line { l with ops := if .enumerate ∈ l.ops then l.ops else l.ops ++ [.enumerate] }).answered tag 0x50 .started .empty))
    ∧ (s.service = true → l.state ≠ .serving →
      exec (.lineEnumerate tag (some n.val)) s = .next (s.heard.answered tag 0x50 .state .empty))
    ∧ (l.state = .serving ∨ l.state = .isolated →
      exec (.lineCheck tag (some n.val)) s = .next
        ((line { l with ops := l.ops ++ [.check .request] }).holding tag 0x51 (.check n)))
    ∧ (l.state = .checking ∨ l.state = .enumerating →
      exec (.lineCheck tag (some n.val)) s = .next (s.heard.answered tag 0x51 .state .empty))
    ∧ (l.state = .serving ∨ l.state = .enumerating →
      exec (.lineIsolate tag (some n.val)) s = .next
        ((line { l with isolating := some (l.isolating.getD .request) }).answered tag 0x52 .done .empty))
    ∧ (l.state = .isolated → exec (.lineIsolate tag (some n.val)) s = .next (s.heard.answered tag 0x52 .done .empty))
    ∧ (l.state = .checking → exec (.lineIsolate tag (some n.val)) s = .next (s.heard.answered tag 0x52 .state .empty))
    ∧ (s.service = true → l.state = .isolated →
      exec (.lineRestore tag (some n.val)) s = .next
        ((line { l with ops := l.ops ++ [.check .restore] }).holding tag 0x53 (.check n)))
    ∧ (s.service = true → l.state ≠ .isolated →
      exec (.lineRestore tag (some n.val)) s = .next (s.heard.answered tag 0x53 .state .empty))

/-- Between turns the first of a line's accepted operations begins. A check: the line is CHECKING, the garble run 0, and PROBE
is sent; a line that leaves SERVING gives up its round, its priority turns and its capture, with LINEn_SLOW over. An
enumeration: the line's entries are removed and the other lines' stay, DnCHAIN is raised, DROPALL is sent, and the drops are
offered from 1. A pending isolation comes first: no frame is driven, the priority turn list is empty, LINEn_SLOW is over,
entries, holds and verdicts stay, and LINE_ISOLATED is queued; an enumeration in progress or accepted ends ABANDONED at round
0, which ends the line's bring-up, and of the operations only a requested check is kept (R51, R52, R54, R55, R65, R66, R68,
R69, R71, R198). What an isolation does to accepted operations and to the round of an enumeration not begun (log 10) and the
order of LINE_ENUMERATED before LINE_ISOLATED (log 28) are the model's choices; that START_UP_DONE carries the tallies as they
stand when it is queued is its reading (log 31). -/
def Obligations.LineWorkBeginsBetweenTurns : Prop :=
  (∀ (s : State) (n : Fin 4) (low high : Bool) (cause : CheckCause) (rest : List LineOp), s.inReset = false →
    s.lines[n].ops = .check cause :: rest → s.lines[n].turn = none → s.lines[n].isolating = none →
    s.lines[n].state = .serving ∨ s.lines[n].state = .isolated →
    ∃ t, exec (.lineCheckBegin n low high) s = .next t
      ∧ t.lines[n].state = .checking ∧ t.lines[n].ops = rest ∧ t.lines[n].garbleRun = 0 ∧ t.lines[n].sent = some .probe
      ∧ t.lines[n].driveEnable = true ∧ t.lines[n].biasHigh = false ∧ t.lines[n].biasLow = false
      ∧ t.lines[n].checking = some
          { cause := cause, fromServing := decide (s.lines[n].state = .serving), lowFollowed := low, highFollowed := high }
      ∧ t.lines[n].round = s.lines[n].round
      ∧ (s.lines[n].state = .serving → t.lines[n].priority = [] ∧ t.lines[n].capture = 0 ∧ t.lines[n].lastDrop = 0
          ∧ (t.router.entry (.lineSlow n)).present = false)
      ∧ (∀ m : Fin 4, m ≠ n → t.lines[m] = s.lines[m])
      ∧ t.entries = s.entries ∧ t.cache = s.cache ∧ t.notices = s.notices ∧ t.mem = s.mem)
  ∧ (∀ (s : State) (n : Fin 4) (rest : List LineOp), s.inReset = false → s.lines[n].ops = .enumerate :: rest →
    s.lines[n].turn = none → s.lines[n].isolating = none → s.lines[n].checking = none → s.port.waiting = [] →
    s.lines[n].state = .serving ∨ s.lines[n].state = .checking →
    ∃ t, exec (.enumerationBegin n) s = .next t
      ∧ t.lines[n].state = .enumerating ∧ t.lines[n].chain = true ∧ t.lines[n].sent = some .dropAll
      ∧ t.lines[n].enumerated = true ∧ t.lines[n].ops = rest ∧ t.lines[n].garbleRun = 0
      ∧ t.lines[n].priority = (if s.lines[n].state = .serving then [] else s.lines[n].priority)
      ∧ t.lines[n].enumerating = some { drop := 1, tries := 0, silences := 0 }
      ∧ t.entries = (s.entries.filter fun e => decide (e.line ≠ n))
      ∧ (∀ i : Fin 128, ∀ h ∈ (t.slot i).holds, s.entries.all (fun e => !(e.isAt n h.drop && decide (h.line = n))) = true)
      ∧ t.mem = s.mem)
  ∧ ∀ (s : State) (n : Fin 4) (cause : IsolateCause), s.inReset = false → s.lines[n].isolating = some cause →
    s.lines[n].turn = none →
    let enumerates := s.lines[n].state = .enumerating ∨ .enumerate ∈ s.lines[n].ops
    let created := if s.lines[n].state = .enumerating then s.entriesOf n else []
    ∃ t, exec (.lineIsolated n) s = .next t
      ∧ t.lines[n].state = .isolated ∧ t.lines[n].driveEnable = false ∧ t.lines[n].chain = false
      ∧ t.lines[n].isolating = none ∧ t.lines[n].enumerating = none ∧ t.lines[n].priority = [] ∧ t.lines[n].capture = 0
      ∧ t.lines[n].round = (if enumerates then 0 else s.lines[n].round)
      ∧ t.lines[n].ops = s.lines[n].ops.filter
          (fun op => decide (op = .check .request) || decide (op = .check .restore))
      ∧ (t.router.entry (.lineSlow n)).present = false
      ∧ t.entries = s.entries ∧ t.cache = s.cache ∧ t.journal = s.journal ∧ t.mem = s.mem
      ∧ (s.startUp.phase ≠ .bringingUp ∨ ¬enumerates → t.notices =
          (if enumerates then
            s.notices.push s.clock.seconds (.lineEnumerated n .abandoned created.length
              (created.countP fun e => decide (e.binding = .duplicate))
              (created.countP fun e => decide (e.binding = .noBinding) || decide (e.binding = .kindMismatch)))
           else s.notices).push s.clock.seconds (.lineIsolated n cause))
      ∧ (enumerates → s.bringUpEnded t n (.enumerated created.length .abandoned))
      ∧ (¬enumerates → t.startUp = s.startUp)

/-- A check ends: GOOD when both biases were followed and the probe returned, SHORTED when a bias was not, OPEN else;
the line's next state is the one R50 gives, LINEn_FAULT is present unless the result is GOOD, LINE_CHECKED is queued
with the result and the cause, and the request in hand is answered: LINE_CHECK DONE with the result, LINE_RESTORE DONE,
or STATE with the result. A start-up check that is not GOOD ends the line's bring-up, with START_UP_DONE when it is the last of
the census and the four (R50, R69, R70, R72, R73, R198). The order of LINE_CHECKED before the other notices of the step is
the model's choice (log 28), and that START_UP_DONE carries the tallies as they stand when it is queued its reading (log 31). -/
def Obligations.ChecksEndAsTheirResultSays : Prop :=
  ∀ (s : State) (n : Fin 4) (probe : Bool) (c : CheckRun), s.inReset = false → s.lines[n].checking = some c →
    let result : CheckResult :=
      if c.lowFollowed ∧ c.highFollowed then (if probe then .good else .broken) else .shorted
    let isolates := (s.router.entry (.lineFault n)).plan.isolate
    ∃ t, exec (.lineChecked n probe) s = .next t
      ∧ t.lines[n].check = some result ∧ t.lines[n].checking = none ∧ t.lines[n].driveEnable = false
      ∧ ((t.router.entry (.lineFault n)).present = true ↔ result ≠ .good)
      ∧ (s.notices.items.length < 64 → t.notices.items[s.notices.items.length]? = some
          { number := s.notices.next, time := s.clock.seconds, body := .lineChecked n result c.cause })
      ∧ (c.cause = .startUp → result = .good → t.lines[n].ops = .enumerate :: s.lines[n].ops)
      ∧ (c.cause = .startUp ∨ c.cause = .restore → result ≠ .good → t.lines[n].state = .isolated)
      ∧ (c.cause = .restore → result = .good → t.lines[n].round = 0
          ∧ (s.lines[n].enumerated = true → t.lines[n].state = .serving)
          ∧ (s.lines[n].enumerated = false → t.lines[n].ops = .enumerate :: s.lines[n].ops))
      ∧ (c.cause = .request ∨ c.cause = .automatic →
          t.lines[n].state = if c.fromServing = true ∧ (result = .good ∨ isolates = false) then .serving else .isolated)
      ∧ (∀ (tag : Tag) (kind : Byte), s.link.tx.length < 8 →
          s.link.inHand = some { tag := tag, kind := kind, work := .check n } →
          (c.cause = .request → t.link = (s.answered tag kind .done (.checkResult result)).link)
          ∧ (c.cause = .restore → result = .good → t.link = (s.answered tag kind .done .empty).link)
          ∧ (c.cause = .restore → result ≠ .good → t.link = (s.answered tag kind .state (.checkResult result)).link))
      ∧ (c.cause = .startUp ∨ c.cause = .automatic → t.link = s.link)
      ∧ (c.cause = .startUp → c.fromServing = false →
          (result = .good → t.startUp = s.startUp)
          ∧ (result ≠ .good → s.bringUpEnded t n (.isolated (some result))))
      ∧ t.mem = s.mem ∧ t.cache = s.cache


/-! ## Offers (chapters 5 to 9) -/

/-- An offer, new or deferred, that needs no record. While the power state is not NORMAL it is told WAIT with no lookup.
In NORMAL an entry that is not BOUND is refused UNBOUND, a sale not well formed MALFORMED, and a card that is not
indexed UNKNOWN_CARD, or is told WAIT while a census runs (an identity of zero never waits). At a LOCK reader a refusal
joins the trail. No record is looked up, changed or held, holds of an earlier deferral end but for a repeat out of
NORMAL, and no count moves (R5, R44, R56, R86 to R88, R98, R102 to R104, R148, R169). -/
def Obligations.OffersAnsweredBeforeAnyRecord : Prop :=
  ∀ (s : State) (n : Fin 4) (dur : Nat) (seq : Byte) (card : CardId) (lines : Option (List SaleLine)) (e : Entry),
    s.awaitsAnswer n e → (lines.isSome = true ↔ e.kind = .bar) →
    e.lastSeq ≠ some seq ∨ e.disposition = .deferred →
    let now := s.clock.seconds
    let bound := ∃ (slot : Fin 192) (b : Binding), e.binding = .bound slot ∧ s.bindings[slot] = some b
    let formed := ∀ ls, lines = some ls → saleOk ls = true
    let indexed := ∃ x ∈ s.index, x.card = card
    let ends (answer : Entry → Prop) := ∃ t y, exec (.offer n dur seq card lines) s = .next t
      ∧ t.entryAt n e.drop = some y ∧ y.lastSeq = some seq ∧ answer y ∧ t.lines[n].turn = none
      ∧ (s.power.state = .normal ∨ e.lastSeq ≠ some seq → t.holdsOnly n e.drop [])
      ∧ s.recordsKept t ∧ t.landing = s.landing ∧ t.muster = s.muster
    let waits := ends fun y => y.toldWait now seq ∧ y.trail = e.trail
    let refused (r : Reason) := ends fun y => y.decidedAs now seq (refusing e.kind r)
      ∧ y.trail = e.trailAfter none card (refusing e.kind r) now
    (s.power.state ≠ .normal → waits)
    ∧ (s.power.state = .normal →
      (¬bound → refused .unbound)
      ∧ (bound → ¬formed → refused .malformed)
      ∧ (bound → formed → ¬indexed → s.landing.census.running = false ∨ card = 0 → refused .unknownCard)
      ∧ (bound → formed → ¬indexed → s.landing.census.running = true → card ≠ 0 → waits))

/-- An offer, new or deferred, whose card is indexed but whose records are not all cached is told WAIT. It waits with
the slot that brings the record in, or claims an EMPTY slot for it; a lock or till whose guest record is a hit so asks
for the folio it names. A hold of 2 s is placed or renewed on every slot it looked up, and its other holds end; a miss
that cannot start runs the stall timer. A fill that fails refuses its waiting offers RECORD_FAULT at once and ends their
holds, and leaves an offer that is no longer the entry's alone (R32 to R34, R36, R37, R59, R89, R105, R148, R169). Which
hold is placed before the folio's claim is the model's choice (log 13), and so are the offer a waiter names and what a failed
fill does with a waiter whose offer is over (log 14). -/
def Obligations.OffersWaitForTheirRecords : Prop :=
  (∀ (s : State) (n : Fin 4) (dur : Nat) (seq : Byte) (card : CardId) (lines : Option (List SaleLine)) (e : Entry)
    (slot : Fin 192) (b : Binding) (x : IndexEntry), s.awaitsAnswer n e → (lines.isSome = true ↔ e.kind = .bar) →
    (∀ ls, lines = some ls → saleOk ls = true) → e.lastSeq ≠ some seq ∨ e.disposition = .deferred →
    s.power.state = .normal → e.binding = .bound slot → s.bindings[slot] = some b →
    s.index.find? (fun y => decide (y.card = card)) = some x →
    let k : RecKey := .guest x.record
    let w : Waiter := .reader n e.drop seq card x.record
    let until' := min (s.clock.seconds + 2) 4294967295
    let lowest (i : Fin 128) := (s.slot i).state = .empty ∧ ∀ j : Fin 128, j < i → (s.slot j).state ≠ .empty
    let full := 16 ≤ s.port.queue.length ∧ ∀ j : Fin 128, (s.slot j).wbQueued = false
    let busy (j : Fin 128) := (s.slot j).state = .filling ∨ (s.slot j).state = .writing
      ∨ (s.slot j).state ≠ .empty ∧ 0 < (s.slot j).commitPending
    let filling (t : State) (i : Fin 128) (r : RecKey) :=
      t.slot i = { Slot.blank with
        state := .filling, key := some r, waiters := [w]
        holds := [{ line := n, drop := e.drop, key := r, expiry := until' }] }
      ∧ (.fill i ∈ t.port.queue ∨ t.port.job = some (.fill i))
    let waits (keys : List RecKey) (more : State → Prop) := ∃ t y, exec (.offer n dur seq card lines) s = .next t
      ∧ t.entryAt n e.drop = some y ∧ y.toldWait s.clock.seconds seq ∧ y.trail = e.trail ∧ t.holdsOnly n e.drop keys
      ∧ t.index = s.index ∧ t.landing = s.landing ∧ t.muster = s.muster ∧ t.journal.next = s.journal.next ∧ t.mem = s.mem
      ∧ more t
    (∀ i : Fin 128, s.find k = .join i →
      waits [k] fun t => (t.slot i).heldFor n e.drop k until' ∧ w ∈ (t.slot i).waiters ∧ s.recordsKept t)
    ∧ (s.find k = .miss →
      (∀ i : Fin 128, lowest i → s.placeFree → s.portSettled → waits [k] fun t => filling t i k)
      ∧ (full ∨ (∀ j : Fin 128, busy j) → waits [] fun t => t.cache.stalling = true ∧ s.recordsKept t))
    ∧ ∀ (i : Fin 128) (g : Guest) (f : Fin 1024), e.kind = .lock ∨ e.kind = .bar → s.find k = .hit i →
      (s.slot i).content = some (.guest g) → g.folio = some f →
      (∀ j : Fin 128, s.find (.folio f) = .join j → waits [k, .folio f] fun t =>
        (t.slot i).heldFor n e.drop k until' ∧ (t.slot j).heldFor n e.drop (.folio f) until' ∧ w ∈ (t.slot j).waiters
        ∧ s.recordsKept t)
      ∧ (s.find (.folio f) = .miss →
        (∀ j : Fin 128, lowest j → s.placeFree → s.portSettled → waits [k, .folio f] fun t =>
          (t.slot i).heldFor n e.drop k until' ∧ filling t j (.folio f))
        ∧ (full ∨ (∀ j : Fin 128, j ≠ i → busy j) → waits [k] fun t =>
          (t.slot i).heldFor n e.drop k until' ∧ t.cache.stalling = true ∧ s.recordsKept t)))
  ∧ ∀ (s : State) (i : Fin 128) (k : RecKey) (n : Fin 4) (drop : Nat) (seq : Byte) (card : CardId) (record : Fin 2048)
    (e : Entry) (r : ReadResult), s.readFails k r ∨ s.port.silent = true → s.inReset = false → s.port.waiting = [] →
    s.port.job = some (.fill i) ∨ s.port.job = some (.pairRead i) → s.port.record = some k → (s.slot i).state = .filling → (s.slot i).key = some k →
    (s.slot i).waiters = [.reader n drop seq card record] → .writeBack i ∉ s.port.queue → s.entryAt n drop = some e →
    ∃ t y, exec (.fill r) s = .next t ∧ t.entryAt n drop = some y ∧ t.slot i = Slot.blank
      ∧ (s.port.silent = false → (t.router.entry .memCheck).present = true)
      ∧ (s.port.silent = true → s.memoryConditionsStay t)
      ∧ (e.disposition = .deferred ∧ e.lastSeq = some seq →
          y.decidedAs s.clock.seconds seq (refusing e.kind .recordFault) ∧ t.holdsOnly n drop []
          ∧ y.trail = e.trailAfter (some record) card (refusing e.kind .recordFault) s.clock.seconds)
      ∧ (¬(e.disposition = .deferred ∧ e.lastSeq = some seq) → y = e)

/-- A new lock offer of a BOUND entry for an indexed card whose guest record, and folio if it names one, are cached: the
first check of R86 that does not pass gives the DENY, else GRANT with the profile's open time; the verdict is remembered,
outgoing with a 3 s life and on the trail, its holds end, and a LOST card and an ASHORE holder are reported; no record, count
or commit changes (R86, R90 to R95, R98). -/
def Obligations.LockOffersAreDecidedInOrder : Prop :=
  ∀ (s : State) (n : Fin 4) (dur : Nat) (seq : Byte) (card : CardId) (e : Entry) (slot : Fin 192) (b : Binding)
    (x : IndexEntry) (i : Fin 128) (g : Guest),
    s.inReset = false → s.power.state = .normal → s.port.waiting = [] → s.journal.commits.all (·.queued) = true →
    s.calledEntry n = some e → e.kind = .lock → e.binding = .bound slot → s.bindings[slot] = some b →
    e.lastSeq ≠ some seq → s.index.find? (fun y => decide (y.card = card)) = some x →
    s.find (.guest x.record) = .hit i → (s.slot i).content = some (.guest g) →
    (∀ f, g.folio = some f → ∃ j y, s.find (.folio f) = .hit j ∧ (s.slot j).content = some (.folio y)) →
    let p := s.profiles[b.profile]
    let reason : Reason :=
      if (g.card x.slot).map (·.state) = some .lost then .lostCard
      else if g.status = .suspended then .suspended
      else if g.status ≠ .active then .notActive
      else if s.clock.day < g.firstDay then .notYet
      else if g.lastDay < s.clock.day then .expired
      else if g.presence = .ashore then .ashore
      else if g.presence ≠ .aboard then .notAboard
      else if s.muster.active = true ∧ g.category = .guest then .muster
      else if (b.locus ≠ 0 ∧ b.locus ∈ g.cabins) ∨ p.mask &&& g.privileges = p.mask then .none
      else .noAccess
    let v : Verdict :=
      if reason = .none then { kind := .grant, reason := .none, result := .openTime p.openTime }
      else { kind := .deny, reason := reason, result := .none }
    ∃ t y, exec (.offer n dur seq card none) s = .next t
      ∧ t.entryAt n e.drop = some y ∧ y.lastSeq = some seq ∧ y.disposition = .decided ∧ y.remembered = some v
      ∧ y.outgoing = some { seq := seq, verdict := v, deliveries := 0, expiry := min (s.clock.seconds + 3) 4294967295 }
      ∧ y.trail = e.trail.map (fun tr => tr.append
          { record := some x.record, card := card, verdict := v.kind, reason := reason, time := s.clock.seconds,
            delivered := false })
      ∧ (∀ k : Fin 128, (t.slot k).content = (s.slot k).content) ∧ t.landing = s.landing ∧ t.muster = s.muster
      ∧ t.index = s.index ∧ t.journal.next = s.journal.next
      ∧ t.journal.head = s.journal.head ∧ t.journal.tail = s.journal.tail ∧ t.mem = s.mem
      ∧ t.holdsOnly n e.drop []
      ∧ (s.notices.items.length < 56 → (reason = .lostCard → t.noticed (.lostCardSeen n e.drop card x.record))
        ∧ (reason = .ashore → t.noticed (.presenceAnomaly n e.drop .lock card x.record g.site g.stamp false)))

/-- The figures of a sale: the subtotal and the charge make the total, the charge is the subtotal at the rate in basis points
rounded to the nearest cent with a half upward, a sale without a plan is covered in nothing, a plan with an allowance covers
no more than remains of it, ROUNDED marks a charge that is no whole number of cents, and the figures fit a posting. Cover goes
line by line: a covered line takes its units from the remaining allowance as the lines before it left it, each covered at the
price or the plan's cap, and sets COVER_PARTIAL when it takes fewer than its quantity; any other line is charged whole (R110
to R114, R127). -/
def Obligations.SaleFiguresFollowTheLines : Prop :=
  (∀ (plan : Option Plan) (used rate : Nat) (lines : List SaleLine), saleOk lines = true → rate ≤ 3000 →
    let v := priceSale plan used rate lines
    let full := (lines.map fun l => l.qty * l.price).sum
    v.service = (v.subtotal * rate + 5000) / 10000 ∧ v.total = v.subtotal + v.service ∧ v.subtotal ≤ full
    ∧ (plan = none → v.covered = 0 ∧ v.subtotal = full)
    ∧ (∀ p, plan = some p → p.allowance ≠ 0 →
        v.remaining = some (p.allowance - used - v.covered) ∧ v.covered ≤ p.allowance - used)
    ∧ (∀ p, plan = some p → p.allowance = 0 → v.remaining = none
        ∧ v.covered = ((lines.filter fun l => p.covered.getLsbD l.cls).map (·.qty)).sum)
    ∧ (v.flags &&& flagRounded ≠ 0 ↔ v.subtotal * rate % 10000 ≠ 0)
    ∧ v.covered ≤ 1188 ∧ v.subtotal ≤ 118798812 ∧ v.service ≤ 35639644 ∧ v.total ≤ 154438456)
  ∧ ∀ (plan : Option Plan) (used rate : Nat),
    let figures (lines : List SaleLine) := priceSale plan used rate lines
    let short (lines : List SaleLine) := (figures lines).flags &&& flagCoverPartial ≠ 0
    (figures []).covered = 0 ∧ (figures []).subtotal = 0 ∧ ¬short []
    ∧ (∀ p, plan = some p → (figures []).remaining = if p.allowance = 0 then none else some (p.allowance - used))
    ∧ ∀ (before : List SaleLine) (l : SaleLine),
      let u := figures before
      let v := figures (before ++ [l])
      ((∀ p, plan = some p → p.covered.getLsbD l.cls = false) →
        v.remaining = u.remaining ∧ v.covered = u.covered ∧ v.subtotal = u.subtotal + l.qty * l.price
        ∧ (short (before ++ [l]) ↔ short before))
      ∧ ∀ p, plan = some p → p.covered.getLsbD l.cls = true →
        let units := match u.remaining with | none => l.qty | some r => min l.qty r
        let perUnit := if p.cap ≠ 0 ∧ p.cap < l.price then p.cap else l.price
        v.remaining = u.remaining.map (· - units) ∧ v.covered = u.covered + units
        ∧ v.subtotal = u.subtotal + (l.qty * l.price - units * perUnit)
        ∧ (short (before ++ [l]) ↔ short before ∨ units < l.qty)

/-- A new till offer whose records are cached is refused by the first check that does not pass: the card, the status,
the presence, a muster, the window, the folio and its status; then the first line over a ceiling or a limit whose mask
is clear, with its index; then the offline ceiling in standalone service, a folio OVER, the floor, and a full journal.
The refusal is remembered and outgoing, its holds end, and no record, serial or count changes (R103, R106, R107, R109,
R115 to R118, R121). -/
def Obligations.SaleOffersAreRefusedInOrder : Prop :=
  ∀ (s : State) (n : Fin 4) (dur : Nat) (seq : Byte) (card : CardId) (lines : List SaleLine) (e : Entry) (slot : Fin 192)
    (b : Binding) (x : IndexEntry) (i : Fin 128) (g : Guest),
    s.awaitsAnswer n e → s.power.state = .normal → e.kind = .bar → e.binding = .bound slot → s.bindings[slot] = some b →
    e.lastSeq ≠ some seq → saleOk lines = true → s.index.find? (fun z => decide (z.card = card)) = some x →
    s.find (.guest x.record) = .hit i → (s.slot i).content = some (.guest g) →
    (∀ f, g.folio = some f → ∃ j y, s.find (.folio f) = .hit j ∧ (s.slot j).content = some (.folio y)) →
    let p := s.profiles[b.profile]
    let refused (r : Reason) (line : Nat) := ∃ t z, exec (.offer n dur seq card (some lines)) s = .next t
      ∧ t.entryAt n e.drop = some z ∧ z.lastSeq = some seq
      ∧ z.decidedAs s.clock.seconds seq { kind := .refuse, reason := r, result := .lineIndex line }
      ∧ t.holdsOnly n e.drop [] ∧ s.recordsKept t ∧ t.landing = s.landing ∧ t.muster = s.muster
      ∧ (s.notices.items.length < 56 → (r = .lostCard → t.noticed (.lostCardSeen n e.drop card x.record))
        ∧ (r = .ashore → t.noticed (.presenceAnomaly n e.drop .sale card x.record g.site g.stamp false)))
    let first : Reason :=
      if (g.card x.slot).map (·.state) = some .lost then .lostCard
      else if g.status = .suspended then .suspended
      else if g.status ≠ .active then .notActive
      else if g.presence = .ashore then .ashore
      else if g.presence ≠ .aboard then .notAboard
      else if s.muster.active = true then .muster
      else if s.clock.day < g.firstDay then .notYet
      else if g.lastDay < s.clock.day then .expired
      else if g.folio = none then .noFolio
      else .none
    let barred (l : SaleLine) : Reason :=
      if p.priceCeiling ≠ 0 ∧ p.priceCeiling < l.price ∧ p.maskPrice = false then .price
      else if p.qtyLimit < l.qty ∧ p.maskQty = false then .qty
      else .none
    let total := (priceSale (s.planOf g.plan) (g.effectiveUsed s.clock.day) p.rate lines).total
    (first ≠ .none → refused first 0)
    ∧ ∀ (f : Fin 1024) (j : Fin 128) (y : Folio), first = .none → g.folio = some f → s.find (.folio f) = .hit j →
      (s.slot j).content = some (.folio y) →
      (y.status = .hold → refused .hold 0) ∧ (y.status = .closed → refused .closed 0)
      ∧ (y.status = .open →
        (∀ (before after : List SaleLine) (l : SaleLine), lines = before ++ l :: after → (∀ m ∈ before, barred m = .none) →
          barred l ≠ .none → refused (barred l) (before.length + 1))
        ∧ ((∀ l ∈ lines, barred l = .none) →
          let last : Reason :=
            if s.router.standalone = true ∧ (p.offlineCeiling = 0 ∨ p.offlineCeiling < total) then .offline
            else if 0 < total ∧ y.standing = .over then .over
            else if 0 < total ∧ (y.limit + y.floorAllowance : Int) < y.balance + total then .limit
            else if 2048 ≤ (s.journal.next - s.journal.head).toNat then .journalFull
            else .none
          last ≠ .none → refused last 0))

/-- A new till offer that passes every check is accepted: both records change in the cache at once, which makes their slots
DIRTY or marks them dirty again, the sale takes the next serial and joins the commit list with the figures of its verdict,
both slots count it, JOURNAL_HIGH and JOURNAL_FULL are judged, the reader's holds end, and it is told WAIT until the commit.
Each sale flag has its one cause: a line over the ceiling or over the limit whose mask is set, cover cut short, a charge of no
whole cents, a balance over the limit but within the floor, standalone service (R38, R40, R109, R115 to R120, R125, R126,
R133). -/
def Obligations.AcceptedSalesCommit : Prop :=
  ∀ (s : State) (n : Fin 4) (dur : Nat) (seq : Byte) (card : CardId) (lines : List SaleLine) (e : Entry) (slot : Fin 192)
    (b : Binding) (x : IndexEntry) (i j : Fin 128) (g : Guest) (f : Fin 1024) (y : Folio),
    s.inReset = false → s.power.state = .normal → s.port.waiting = [] → s.portSettled →
    s.calledEntry n = some e → e.kind = .bar → e.binding = .bound slot → s.bindings[slot] = some b →
    e.lastSeq ≠ some seq → saleOk lines = true → s.index.find? (fun z => decide (z.card = card)) = some x →
    s.find (.guest x.record) = .hit i → (s.slot i).content = some (.guest g) → g.folio = some f →
    s.find (.folio f) = .hit j → (s.slot j).content = some (.folio y) →
    (g.card x.slot).map (·.state) ≠ some .lost → g.status = .active → g.presence = .aboard → s.muster.active = false →
    g.firstDay ≤ s.clock.day → s.clock.day ≤ g.lastDay → y.status = .open →
    let p := s.profiles[b.profile]
    let v := priceSale (s.planOf g.plan) (g.effectiveUsed s.clock.day) p.rate lines
    let balance := y.balance + v.total
    let dear (l : SaleLine) := p.priceCeiling ≠ 0 ∧ p.priceCeiling < l.price
    let many (l : SaleLine) := p.qtyLimit < l.qty
    (∀ l ∈ lines, (dear l → p.maskPrice = true) ∧ (many l → p.maskQty = true)) →
    (s.router.standalone = true → p.offlineCeiling ≠ 0 ∧ v.total ≤ p.offlineCeiling) →
    (0 < v.total → y.standing ≠ .over ∧ balance ≤ y.limit + y.floorAllowance) →
    (s.journal.next - s.journal.head).toNat < 2048 →
    ∃ t z c, exec (.offer n dur seq card (some lines)) s = .next t
      ∧ t.entryAt n e.drop = some z ∧ z.lastSeq = some seq ∧ z.disposition = .committing
      ∧ z.outgoing = some
          { seq := seq, verdict := { kind := .wait, reason := .none, result := .none }, deliveries := 0
            expiry := min (s.clock.seconds + 30) 4294967295 }
      ∧ s.bothDirtied t i j
          (.guest { g with allowDay := s.clock.day, allowUsed := min 250 (g.effectiveUsed s.clock.day + v.covered) })
          (.folio
            { y with
              balance := balance, sticky := y.sticky ||| c.flags
              standing := if balance < y.limit then .under else if balance = y.limit then .at else .over })
      ∧ t.holdsOnly n e.drop [] ∧ s.journalJudged t ((s.journal.next - s.journal.head).toNat + 1)
      ∧ (t.slot i).commitPending = (s.slot i).commitPending + 1 ∧ (t.slot j).commitPending = (s.slot j).commitPending + 1
      ∧ t.journal.next = s.journal.next + 1 ∧ t.journal.head = s.journal.head ∧ t.journal.tail = s.journal.tail
      ∧ t.journal.commits.map (·.serial) = s.journal.commits.map (·.serial) ++ [s.journal.next]
      ∧ c ∈ t.journal.commits.getLast? ∧ c.guest = x.record ∧ c.folio = f ∧ c.subtotal = v.subtotal ∧ c.service = v.service
      ∧ c.total = v.total ∧ c.covered = v.covered ∧ c.remaining = v.remaining ∧ c.seq = seq ∧ c.outlet = b.locus
      ∧ c.day = s.clock.day ∧ c.reader = .current
      ∧ c.time = s.clock.seconds ∧ c.readerSerial = e.serial ∧ c.line = n ∧ c.drop = e.drop
      ∧ (c.flags &&& flagPrice ≠ 0 ↔ ∃ l ∈ lines, dear l) ∧ (c.flags &&& flagQty ≠ 0 ↔ ∃ l ∈ lines, many l)
      ∧ (c.flags &&& flagCoverPartial ≠ 0 ↔ v.flags &&& flagCoverPartial ≠ 0)
      ∧ (c.flags &&& flagRounded ≠ 0 ↔ v.subtotal * p.rate % 10000 ≠ 0)
      ∧ (c.flags &&& flagFloor ≠ 0 ↔ 0 < v.total ∧ (y.limit : Int) < balance)
      ∧ (c.flags &&& flagOffline ≠ 0 ↔ s.router.standalone = true)
      ∧ (∀ k : Fin 128, k ≠ i → k ≠ j → (t.slot k).content = (s.slot k).content)
      ∧ t.landing = s.landing ∧ t.muster = s.muster ∧ t.mem = s.mem

/-- A new lane offer whose guest record is cached. A LOST card, a holder who is neither ACTIVE nor SUSPENDED, and the
presences, sites, muster and window that bar a lane are refused in order, with nothing moved. An ABOARD holder goes
ASHORE at the lane's OPEN site; an ASHORE holder comes ABOARD, late when the site is OVERDUE, with LATE_RETURN; one
NOT_EMBARKED embarks; any other is answered REPEAT with nothing moved. A pass moves the record, the counts and the
roster together (`CountsMoveWithTheHolder`), makes the slot DIRTY or marks it dirty again, with its urgent write-back on its
way, and the verdict carries the site and its count after it; one that leaves a
LAST_CALL or OVERDUE site at 0 with no census running queues SITE_CLEAR (R3, R38, R42, R140, R143, R147 to R151, R160). -/
def Obligations.LanesMoveTheHolder : Prop :=
  ∀ (s : State) (n : Fin 4) (dur : Nat) (seq : Byte) (card : CardId) (e : Entry) (slot : Fin 192) (b : Binding)
    (x : IndexEntry) (i : Fin 128) (g : Guest),
    s.awaitsAnswer n e → s.power.state = .normal → e.kind = .laneOut ∨ e.kind = .laneIn → e.binding = .bound slot →
    s.bindings[slot] = some b → e.lastSeq ≠ some seq → s.index.find? (fun y => decide (y.card = card)) = some x →
    s.find (.guest x.record) = .hit i → (s.slot i).content = some (.guest g) →
    let now := s.clock.seconds
    let lane : Option (Fin 4) :=
      if h : 1 ≤ b.locus ∧ b.locus ≤ 4 then s.landing.lanes[b.locus - 1]'(by omega) else none
    let ends (v : Verdict) (more : State → Prop) := ∃ t y, exec (.offer n dur seq card none) s = .next t
      ∧ t.entryAt n e.drop = some y ∧ y.lastSeq = some seq ∧ y.decidedAs now seq v ∧ t.holdsOnly n e.drop []
      ∧ (∀ k : Fin 128, k ≠ i → (t.slot k).content = (s.slot k).content) ∧ t.index = s.index ∧ t.mem = s.mem ∧ more t
    let stays (t : State) := s.recordsKept t ∧ t.landing = s.landing ∧ t.muster = s.muster
    let moves (g' : Guest) (t : State) :=
      let u := if s.counted x.record then (s.countOut x.record (s.muster.has g)).countIn x.record g' false else s
      s.changedUrgently t i (.guest g') ∧ t.landing = u.landing ∧ t.muster = u.muster
    let count (g' : Guest) (k : Fin 4) :=
      (if s.counted x.record then (s.countOut x.record (s.muster.has g)).countIn x.record g' false else s).landing.sites[k].count
    let lost := (g.card x.slot).map (·.state) = some .lost
    let reason : Reason :=
      if lost then .lostCard
      else if g.status ≠ .active ∧ g.status ≠ .suspended then .notActive
      else if e.kind = .laneOut then
        match g.presence with
        | .ashore => .none
        | .aboard =>
          if s.muster.active = true then .muster
          else match lane with
            | none => .noLanding
            | some k =>
              match s.landing.sites[k].state with
              | .closed => .noLanding
              | .lastCall | .overdue => .siteClosing
              | .open => .none
        | .notEmbarked | .landed => .notAboard
      else
        match g.presence with
        | .notEmbarked => if s.clock.day < g.firstDay then .notYet else if g.lastDay < s.clock.day then .expired else .none
        | .landed => .landed
        | .ashore | .aboard => .none
    (reason ≠ .none → ends (refusing e.kind reason) fun t => stays t
      ∧ (lost → s.notices.items.length < 56 → t.noticed (.lostCardSeen n e.drop card x.record)))
    ∧ (reason = .none →
      (e.kind = .laneOut ∧ g.presence = .ashore ∨ e.kind = .laneIn ∧ g.presence = .aboard →
        ends
          { kind := .repeated, reason := .none
            result := .lane g.site (g.site.map fun k => s.landing.sites[k].count) } stays)
      ∧ (∀ k : Fin 4, e.kind = .laneOut → g.presence = .aboard → lane = some k →
        let g' : Guest := { g with presence := .ashore, stamp := now, site := some k }
        ends { kind := .pass, reason := .none, result := .lane (some k) (some (count g' k)) } (moves g'))
      ∧ (∀ k : Fin 4, e.kind = .laneIn → g.presence = .ashore → g.site = some k →
        let g' : Guest := { g with presence := .aboard, stamp := now, site := none }
        let late := s.landing.sites[k].state = .overdue
        ends { kind := if late then .passLate else .pass, reason := .none, result := .lane (some k) (some (count g' k)) }
          fun t => moves g' t ∧ (late → s.notices.items.length < 56 → t.noticed
            (.lateReturn x.record g.category k b.locus now s.landing.sites[k].deadline (count g' k)))
            ∧ (let clear : NoticeBody := .siteClear k s.landing.sites[k].state now
               let clears := s.counted x.record = true ∧ s.landing.census.running = false ∧ count g' k = 0
                 ∧ (late ∨ s.landing.sites[k].state = .lastCall)
               (clears → s.notices.items.length < 56 → t.noticed clear) ∧ (¬clears → t.noticed clear → s.noticed clear)))
      ∧ (e.kind = .laneIn → g.presence = .notEmbarked →
        ends { kind := .passEmbark, reason := .none, result := .lane none none }
          (moves { g with presence := .aboard, stamp := now, site := none })))

/-- PRESENCE_SET off its ranges, with ASHORE and no site or with a site and another presence, is answered BAD_FIELD. Of a
cached record, a VACANT one and ASHORE at a CLOSED site are answered STATE; a presence
already as asked is answered DONE with nothing changed; else the record, its stamp, the counts and the roster move
(`CountsMoveWithTheHolder`), and SITE_CLEAR is queued where the site left is LAST_CALL or OVERDUE, its count now 0, and no
census runs (R3, R38, R42, R143, R147, R153). A holder who enters ABOARD stands in no mustered count until presented (R165), by
the list of those counted aboard, which is the model's (log 32). -/
def Obligations.PresenceSetMovesTheHolder : Prop :=
  (∀ (s : State) (tag : Tag) (f : PresenceSet), s.servesRequest →
    2047 < f.record ∨ 3 < f.presence ∨ (∃ v, f.site = some v ∧ (v = 0 ∨ 4 < v)) ∨ (f.presence = 2 ∧ f.site = none)
      ∨ (f.presence ≠ 2 ∧ f.site ≠ none) →
    exec (.presenceSet tag (some f)) s = .next (s.heard.answered tag 0x60 .badField .empty))
  ∧ ∀ (s : State) (tag : Tag) (n : Fin 2048) (p : Presence) (site : Option (Fin 4)) (i : Fin 128) (g : Guest),
    s.servesRequest → s.portSettled → s.find (.guest n) = .hit i → (s.slot i).content = some (.guest g) →
    (site.isSome = true ↔ p = .ashore) →
    let body : Option PresenceSet := some { record := n.val, presence := p.code, site := site.map fun t => t.val + 1 }
    (g.status = .vacant ∨ (∃ t, site = some t ∧ s.landing.sites[t].state = .closed) →
      exec (.presenceSet tag body) s = .next ((s.touch i).heard.answered tag 0x60 .state .empty))
    ∧ (g.status ≠ .vacant → (∀ t, site = some t → s.landing.sites[t].state ≠ .closed) → g.presence = p → g.site = site →
      exec (.presenceSet tag body) s = .next ((s.touch i).heard.answered tag 0x60 .done .empty))
    ∧ (g.status ≠ .vacant → (∀ t, site = some t → s.landing.sites[t].state ≠ .closed) → ¬(g.presence = p ∧ g.site = site) →
      let g' : Guest :=
        { g with
          presence := p, stamp := s.clock.seconds, site := site
          musterStamp := if s.muster.active = true ∧ g.presence = .aboard ∧ p ≠ .aboard then none else g.musterStamp }
      ∃ (cache : Cache) (port : Port) (notices : NoticeQueue) (pins : Pins),
        exec (.presenceSet tag body) s = .next
          { s.heard.answered tag 0x60 .done .empty with
            cache := cache, port := port, notices := notices, pins := pins
            landing := (if s.counted n then (s.countOut n (s.muster.has g)).countIn n g' false else s).landing
            muster := (if s.counted n then (s.countOut n (s.muster.has g)).countIn n g' false else s).muster }
        ∧ recordChanged s cache port i (.guest g') ∧ s.writesUrgently cache port i
        ∧ (g.presence ≠ .ashore → notices = s.notices ∧ pins = s.pins)
        ∧ ∀ k : Fin 4, g.presence = .ashore → g.site = some k →
          let state := s.landing.sites[k].state
          let left := ((s.countOut n (s.muster.has g)).countIn n g' false).landing.sites[k].count
          let clears := s.counted n = true ∧ s.landing.census.running = false ∧ left = 0
            ∧ (state = .lastCall ∨ state = .overdue)
          (clears → notices = s.notices.push s.clock.seconds (.siteClear k state s.clock.seconds) ∧ pins.attn = true)
          ∧ (¬clears → notices = s.notices ∧ pins = s.pins))

/-- A new muster offer whose guest record is cached is refused NOT_ACTIVE, NO_MUSTER or NOT_ABOARD in order. Past these
an ASHORE holder is corrected to ABOARD first, with PRESENCE_ANOMALY, the counts and the roster moved; a holder already
mustered is answered REPEAT; any other is mustered: the muster stamp is set, the count it stands in rises, and the
verdict says whether the reader stands at the holder's own station, else WRONG_STATION is queued. The verdict carries
the figures after the decision, and a LOST card is reported. A change makes the slot DIRTY or marks it dirty again, with its
urgent write-back on its way (R38, R39, R42, R143, R164, R165, R169 to R171). Which count a holder
stands in is kept in a list of those counted aboard, the model's (log 32; `CountsMoveWithTheHolder`). -/
def Obligations.MusterOffersCountTheHolder : Prop :=
  ∀ (s : State) (n : Fin 4) (dur : Nat) (seq : Byte) (card : CardId) (e : Entry) (slot : Fin 192) (b : Binding)
    (x : IndexEntry) (i : Fin 128) (g : Guest),
    s.awaitsAnswer n e → s.power.state = .normal → e.kind = .muster → e.binding = .bound slot → s.bindings[slot] = some b →
    e.lastSeq ≠ some seq → s.index.find? (fun y => decide (y.card = card)) = some x → s.find (.guest x.record) = .hit i →
    (s.slot i).content = some (.guest g) →
    let now := s.clock.seconds
    let reason : Reason :=
      if g.status ≠ .active ∧ g.status ≠ .suspended then .notActive
      else if s.muster.active = false then .noMuster
      else if g.presence ≠ .aboard ∧ g.presence ≠ .ashore then .notAboard
      else .none
    let ends (v : Verdict) (t : State) := ∃ y, exec (.offer n dur seq card none) s = .next t
      ∧ t.entryAt n e.drop = some y ∧ y.lastSeq = some seq ∧ y.decidedAs now seq v ∧ t.holdsOnly n e.drop []
      ∧ (∀ k : Fin 128, k ≠ i → (t.slot k).content = (s.slot k).content) ∧ t.index = s.index ∧ t.mem = s.mem
    let ashore := g.presence = .ashore
    let g' : Guest := if ashore then { g with presence := .aboard, stamp := now, site := none } else g
    let u := if ashore ∧ s.counted x.record = true then (s.countOut x.record (s.muster.has g)).countIn x.record g' false else s
    let mustered := ∃ m, g'.musterStamp = some m ∧ s.muster.beginStamp ≤ m
    let stamp := max now s.muster.beginStamp
    let here := g.station.val + 1 = b.locus
    let figures (t : State) : VResult :=
      match g.category with
      | .guest => .muster (some g.station) t.muster.mustered[g.station] t.landing.stations[g.station]
      | .crew => .muster none t.muster.crewMustered t.landing.aboardCrew
    (reason ≠ .none → ∃ t, ends (refusing .muster reason) t ∧ s.recordsKept t ∧ t.landing = s.landing ∧ t.muster = s.muster)
    ∧ (reason = .none →
      (mustered → ∃ t, ends { kind := .repeated, reason := .none, result := figures t } t
        ∧ (if ashore then s.changedUrgently t i (.guest g') else s.recordsKept t)
        ∧ t.landing = u.landing ∧ t.muster = u.muster)
      ∧ (¬mustered → ∃ t,
        ends { kind := if here then .mustered else .musteredElsewhere, reason := .none, result := figures t } t
        ∧ (let r : Rec := .guest { g' with musterStamp := some stamp }
           s.changedUrgently t i r ∨ ashore ∧ s.changedAgain t i r)
        ∧ t.landing = (u.musterIn x.record).landing ∧ t.muster = (u.musterIn x.record).muster
        ∧ (s.notices.items.length < 56 → ¬here →
            t.noticed (.wrongStation n e.drop x.record g.category g.station b.locus stamp)))
      ∧ (s.notices.items.length < 56 → ∃ t, exec (.offer n dur seq card none) s = .next t
        ∧ ((g.card x.slot).map (·.state) = some .lost → t.noticed (.lostCardSeen n e.drop card x.record))
        ∧ (ashore → t.noticed (.presenceAnomaly n e.drop .muster card x.record g.site g.stamp true))))

/-! ## Journal (chapter 7) -/

/-- A commit whose two writes pass: the posting stands in its journal slot, the tail is one past its serial and the
folio keeps the serial. One of whose writes fails, the posting's or the marks', leaves the tail, gives the serial back
to the later sales and reverses both records, and JOURNAL_HIGH and JOURNAL_FULL are judged. Each change makes its slot DIRTY
or marks it dirty again. Either way the sale leaves the commit list and both slots count one pending commit fewer. The till is
given ACCEPT, or REFUSE RECORD_FAULT; one that asked to cancel TOO_LATE with the serial and ACCEPT remembered, or CANCELLED; a
superseded or removed offer leaves VERDICT_UNDELIVERED after a success and nothing after a failure. A commit that finds the
memory silent, in either half, fails alike, MEM_CHECK and MEM_SILENT as the silence left them (R25, R30, R38, R60, R127 to R130,
R133). How the writes end are operands of the event, memory after a failed write the former block, and the silence an event
before it: the model's choices (logs 9 and 33). That a superseded sale's VERDICT_UNDELIVERED carries a delivery
count of 0, as a removed one's does, is the model's reading (log 18). -/
def Obligations.CommitsEndAsTheirWritesDo : Prop :=
  ∀ (s : State) (c : CommitEntry) (rest : List CommitEntry) (i j : Fin 128) (g : Guest) (f : Folio)
    (posting marks : WriteResult),
    s.inReset = false → s.mem.wf = true → s.power.state = .normal → s.port.waiting = [] → rest.all (·.queued) = true →
    s.port.job = some .commit → s.journal.commits = c :: rest →
    s.port.data = sealBlock (postingBytes c.posting) →
    s.find (.guest c.guest) = .hit i → (s.slot i).content = some (.guest g) →
    s.find (.folio c.folio) = .hit j → (s.slot j).content = some (.folio f) →
    let passes := posting = .good ∧ marks = .good ∧ s.port.silent = false
    let now := s.clock.seconds
    let accept : Verdict :=
      { kind := .accept, reason := .none, result := .accept c.total c.covered c.remaining c.flags c.serial }
    let undelivered (cause : UndeliveredCause) : NoticeBody :=
      .verdictUndelivered c.line c.drop c.readerSerial c.seq .accept .none (some c.serial) 0 cause
    ∃ t, exec (.commit posting marks) s = .next t
      ∧ (posting = .good → s.port.silent = false → t.mem.readBlock (journalAddress c.serial) s.port.data.length = s.port.data)
      ∧ (posting = .differs ∨ s.port.silent = true → t.mem = s.mem)
      ∧ (passes → t.mem.readBlock ConfBlock.journalMarks.address 10 = sealBlock (marksBytes s.journal.head (c.serial + 1)))
      ∧ (¬passes → t.mem.readBlock ConfBlock.journalMarks.address 10 = s.mem.readBlock ConfBlock.journalMarks.address 10)
      ∧ (∀ a, ¬(journalAddress c.serial ≤ a ∧ a < journalAddress c.serial + s.port.data.length) →
          ¬(ConfBlock.journalMarks.address ≤ a ∧ a < ConfBlock.journalMarks.address + 10) → t.mem.read a = s.mem.read a)
      ∧ (s.port.silent = false → ((t.router.entry .memCheck).present = true ↔ ¬passes))
      ∧ (s.port.silent = true → s.memoryConditionsStay t)
      ∧ t.journal.head = s.journal.head
      ∧ (passes → t.journal.tail = c.serial + 1 ∧ t.journal.next = s.journal.next ∧ t.journal.commits = rest
        ∧ s.dirtied t j (.folio { f with lastSerial := some c.serial })
        ∧ ((∀ k, .censusRead k ∉ s.port.queue) → t.cache.recency = j :: s.cache.recency.erase j)
        ∧ (t.slot i).content = some (.guest g)
        ∧ t.router.entry .journalHigh = s.router.entry .journalHigh
        ∧ t.router.entry .journalFull = s.router.entry .journalFull)
      ∧ (¬passes → t.journal.tail = s.journal.tail ∧ t.journal.next = s.journal.next - 1
        ∧ t.journal.commits = rest.map (fun d => { d with serial := d.serial - 1 })
        ∧ s.journalJudged t (t.journal.next - t.journal.head).toNat
        ∧ (let balance := f.balance - c.total
           let y : Rec := .folio
             { f with
               balance := balance
               standing := if balance < f.limit then .under else if balance = f.limit then .at else .over }
           let x : Rec := .guest
             { g with allowUsed := if g.allowDay = c.day then g.allowUsed - c.covered else g.allowUsed }
           s.dirtied t i x ∧ s.dirtied t j y
           ∧ ((∀ k, .censusRead k ∉ s.port.queue) → s.bothDirtied t i j x y)))
      ∧ (t.slot i).commitPending = (s.slot i).commitPending - 1 ∧ (t.slot j).commitPending = (s.slot j).commitPending - 1
      ∧ (∀ e : Entry, c.reader = .current → s.entryAt c.line c.drop = some e →
          ∃ y, t.entryAt c.line c.drop = some y ∧ y.lastSeq = e.lastSeq
          ∧ (e.disposition = .committing →
              t.holdsOnly c.line c.drop [] ∧ (passes → y.decidedAs now c.seq accept)
              ∧ (¬passes → y.decidedAs now c.seq { kind := .refuse, reason := .recordFault, result := .lineIndex 0 }))
          ∧ (e.disposition = .cancelAsked →
              (passes → y.disposition = .decided ∧ y.remembered = some accept
                ∧ y.outgoingSince now c.seq { kind := .tooLate, reason := .none, result := .late (some c.serial) })
              ∧ (¬passes → y.decidedAs now c.seq { kind := .cancelled, reason := .none, result := .none })))
      ∧ (c.reader ≠ .current → t.entries = s.entries
          ∧ (passes → s.notices.items.length < 56 →
              (c.reader = .superseded → t.noticed (undelivered .superseded))
              ∧ (c.reader = .gone → t.noticed (undelivered .removed)))
          ∧ (¬passes → ∀ cause, t.noticed (undelivered cause) → s.noticed (undelivered cause)))

/-- TAKE_POSTINGS reads up to the number asked, 1 to 16, of committed postings from the head on, and replies at once when there
is none. When the last read is in, the head passes the postings read, JOURNAL_HIGH and JOURNAL_FULL are judged, the journal
marks write is queued and the reply carries the postings: one whose block fails its check, with MEM_CHECK, or holds another
serial or a content fault, marked damaged without its content. When a read found the memory silent the reply is MEMORY_FAULT and
the head stays (R131, R133, R134, R202). How a read ends is an operand of its event (the model's choice, log 9); that the reply
waits for the reads after a silent one, and that a content fault raises no MEM_CHECK, are the model's readings (logs 23, 24).
Which bytes that no field names are a content fault is the model's choice (log 61). -/
def Obligations.TakePostingsMovesTheHead : Prop :=
  (∀ (s : State) (tag : Tag) (most : Nat), s.servesRequest →
    (most = 0 ∨ 16 < most → exec (.takePostings tag (some most)) s = .next (s.heard.answered tag 0x33 .badField .empty))
    ∧ (1 ≤ most → most ≤ 16 → s.journal.tail = s.journal.head →
      exec (.takePostings tag (some most)) s = .next
        (s.heard.answered tag 0x33 .done (.postings [] s.journal.head (s.journal.next - s.journal.head).toNat)))
    ∧ (1 ≤ most → most ≤ 16 → s.journal.tail ≠ s.journal.head → s.port.queue = [] →
      let count := min most (s.journal.tail - s.journal.head).toNat
      ∃ t, exec (.takePostings tag (some most)) s = .next t
        ∧ t.work = some (.postings
            { first := s.journal.head, count := count, queued := count, read := [], silent := false, withdrawn := false })
        ∧ (∀ k, k < count → .journalRead (s.journal.head + BitVec.ofNat 32 k) ∈ t.port.queue
            ∨ t.port.job = some (.journalRead (s.journal.head + BitVec.ofNat 32 k)))
        ∧ t.journal = s.journal ∧ t.cache = s.cache ∧ t.mem = s.mem))
  ∧ ∀ (s : State) (tag : Tag) (serial : PostSerial) (run : TakeRun) (r : ReadResult), s.inReset = false →
    s.power.state = .normal → s.port.waiting = [] → s.journal.commits = [] → s.link.tx.length < 8 →
    s.link.inHand = some { tag := tag, kind := 0x33, work := .postings run } → run.withdrawn = false →
    run.read.length + 1 = run.count → s.port.job = some (.journalRead serial) →
    let block := openBlock (s.mem.readBlock (journalAddress serial) 32)
    let replied (t : State) (result : Result) (body : ReplyBody) :=
      t.link = { s.link with
        inHand := none, tx := s.link.tx ++ [{ tag := tag, kind := 0x33, result := result, body := body }] }
    let brings (content : Option Posting) (checked : Bool) := ∃ t, exec (.journalRead r) s = .next t
      ∧ t.journal = { s.journal with head := s.journal.head + BitVec.ofNat 32 run.count }
      ∧ s.journalJudged t (s.journal.next - t.journal.head).toNat
      ∧ (t.router.entry .memCheck).present = !checked
      ∧ replied t .done (.postings (run.read ++ [{ serial := serial, content := content }]) t.journal.head
          (s.journal.next - t.journal.head).toNat)
      ∧ (.confWrite (.conf .journalMarks) .unit ∈ t.port.queue ∨ t.port.job = some (.confWrite (.conf .journalMarks) .unit)
          ∨ .block .journalMarks ∈ t.port.waiting)
      ∧ t.mem = s.mem
    (run.silent = false → s.port.silent = false →
      (r = .good → ∀ p : Posting, p.inRange = true → block = some (postingBytes p) →
        brings (if p.serial = serial then some p else none) true)
      ∧ (r = .good → ∀ content, block = some content → postingOfBytes content = none → brings none true)
      ∧ (r = .corrupt ∨ block = none → brings none false))
    ∧ (run.silent = true ∨ s.port.silent = true → ∃ t, exec (.journalRead r) s = .next t
        ∧ t.journal = s.journal ∧ replied t .memoryFault .empty ∧ t.port.waiting = [] ∧ t.mem = s.mem)


/-! ## Sites, census and muster (chapters 8 and 9) -/

/-- SITE_OPEN opens a CLOSED site over lanes that serve no other, SITE_LASTCALL sets the deadline and the state its passing
gives, SITE_CLOSE closes an empty site and unmaps its lanes while no census runs; each is else refused STATE, and each
queues the sites write its reply waits for (R21, R145, R146, R147). That a SITE_CLOSE refused while a census runs carries no
count, whatever the count is, is the model's choice (log 43). -/
def Obligations.SiteRequestsMoveTheSite : Prop :=
  ∀ (s : State) (tag : Tag) (t : Fin 4), s.servesRequest → s.service = true → s.placeFree → s.portSettled →
    let x := s.landing.sites[t]
    let accepted (kind : Byte) (landing : Landing) :=
      { s.heard.holding tag kind .confWrite with landing := landing }.withJob (.confWrite (.conf .sites) .hand)
    (∀ lanes : List (Fin 4), lanes ≠ [] → lanes.Nodup →
      let body : Option SiteOpen := some { site := t.val + 1, lanes := lanes.map fun l => l.val + 1 }
      let free := x.state = .closed ∧ ∀ l ∈ lanes, s.landing.lanes[l] = none ∨ s.landing.lanes[l] = some t
      (¬free → exec (.siteOpen tag body) s = .next (s.heard.answered tag 0x63 .state .empty))
      ∧ (free → ∃ map : Vector (Option (Fin 4)) 4,
        (∀ l : Fin 4, map[l] = if l ∈ lanes then some t else s.landing.lanes[l])
        ∧ exec (.siteOpen tag body) s = .next (accepted 0x63
            { s.landing with
              sites := s.landing.sites.set t { x with state := .open, deadline := none, due := false }, lanes := map })))
    ∧ (∀ d : Nat, d ≤ 4294967295 →
      let body : Option SiteLastCall := some { site := t.val + 1, deadline := d }
      (s.clock.isSet = false ∨ x.state = .closed ∨ x.state = .overdue →
        exec (.siteLastCall tag body) s = .next (s.heard.answered tag 0x64 .state .empty))
      ∧ (s.clock.isSet = true → x.state = .open ∨ x.state = .lastCall →
        let y : Site :=
          { x with
            state := if d ≤ s.clock.seconds then .overdue else .lastCall, deadline := some d, due := false }
        let u := accepted 0x64 { s.landing with sites := s.landing.sites.set t y }
        exec (.siteLastCall tag body) s = .next
          (if d ≤ s.clock.seconds then u.notify (.siteOverdue t d x.count s.landing.census.running) else u)))
    ∧ (s.landing.census.running = true →
      exec (.siteClose tag (some (t.val + 1))) s = .next (s.heard.answered tag 0x65 .state .empty))
    ∧ (s.landing.census.running = false → 0 < x.count →
      exec (.siteClose tag (some (t.val + 1))) s = .next (s.heard.answered tag 0x65 .state (.siteCount x.count)))
    ∧ (s.landing.census.running = false → x.count = 0 →
      exec (.siteClose tag (some (t.val + 1))) s = .next (accepted 0x65
        { s.landing with
          sites := s.landing.sites.set t { x with state := .closed, deadline := none, due := false }
          lanes := s.landing.lanes.map fun (l : Option (Fin 4)) => if l = some t then none else l }))

/-- CENSUS is refused STATE in a muster and in a census; else it is answered STARTED, and in one step the card index,
the roster and every count are emptied, sites and lanes stay, and the first four reads are handed to the port. A record
that a slot holds is read there and over at once. A record read whole adds an index entry for each of its cards, with the
record and its slot, but for an identity indexed already, which counts as a duplicate, and stands in the counts its presence
gives (`CountsMoveWithTheHolder`); at a CLOSED site one found ASHORE makes it OVERDUE; a VACANT one adds nothing. A record whose
read fails its check, with MEM_CHECK, or finds the memory silent is skipped. The cursor passes each, and past the last the census
ends: CENSUS_DONE is queued, SITE_CLEAR for every LAST_CALL or OVERDUE site whose count is then 0 and for no other, and
START_UP_DONE when it was the last of start-up (R6, R24, R27, R147, R157 to R159, R161, R162, R172, R198). How a read ends is an
operand of its event, and its silence an event before it: the model's choices (logs 9 and 33). That START_UP_DONE carries the
tallies as they stand when it is queued is its reading (log 31). -/
def Obligations.CensusesCountTheRecords : Prop :=
  (∀ (s : State) (tag : Tag), s.servesRequest → s.service = true →
    let free (n : Fin 2048) := ∀ i : Fin 128, (s.slot i).has (.guest n) = false
    (s.muster.active = true ∨ s.landing.census.running = true →
      exec (.census tag true) s = .next (s.heard.answered tag 0x66 .state .empty))
    ∧ (s.muster.active = false → s.landing.census.running = false → s.port.job ≠ none ∨ (∀ n, free n) →
      ∃ t, exec (.census tag true) s = .next t
      ∧ t.link = (s.heard.answered tag 0x66 .started .empty).link
      ∧ t.index = [] ∧ t.landing.roster = [] ∧ t.landing.aboard = [] ∧ t.landing.aboardGuest = 0 ∧ t.landing.aboardCrew = 0
      ∧ t.landing.ashoreGuest = 0 ∧ t.landing.ashoreCrew = 0 ∧ t.muster.crewMustered = 0
      ∧ (∀ x : Fin 8, t.landing.stations[x] = 0 ∧ t.muster.mustered[x] = 0)
      ∧ (∀ x : Fin 4, t.landing.sites[x] = { s.landing.sites[x] with count := 0 })
      ∧ t.landing.lanes = s.landing.lanes
      ∧ t.landing.census.running = true ∧ t.landing.census.cursor = 0 ∧ t.landing.census.cause = .request
      ∧ t.landing.census.skipped = [] ∧ t.landing.census.duplicates = 0
      ∧ (s.port.queue.length ≤ 12 → t.landing.census.next = 4 ∧
          ∀ n : Fin 2048, n < 4 → .censusRead n ∈ t.port.queue ∨ t.port.job = some (.censusRead n))
      ∧ t.entries = s.entries ∧ t.journal = s.journal ∧ t.mem = s.mem)
    ∧ ∀ (i : Fin 128) (g : Guest), s.muster.active = false → s.landing.census.running = false → s.port.job = none →
      s.port.queue = [] → s.port.waiting = [] → s.journal.commits = [] → s.cache.flush = none →
      s.find (.guest 0) = .hit i → (s.slot i).content = some (.guest g) → (∀ n, n ≠ 0 → free n) → g.status = .active →
      g.presence = .aboard →
      ∃ t, exec (.census tag true) s = .next t ∧ t.landing.census.cursor = 1 ∧ t.port.job = some (.censusRead 1)
        ∧ t.landing.aboard = [{ record := 0, category := g.category, station := g.station, mustered := false }]
        ∧ t.landing.aboardGuest + t.landing.aboardCrew = 1 ∧ t.landing.roster = [] ∧ t.mem = s.mem)
  ∧ ∀ (s : State) (n : Fin 2048) (r : ReadResult), s.inReset = false → s.port.job = some (.censusRead n) →
    s.landing.census.running = true → s.port.waiting = [] →
    (∀ (m : Fin 2048) (i : Fin 128), (s.slot i).has (.guest m) = false) →
    let passed (t : State) (l : Landing) (skipped : List (Fin 2048)) (more : Nat) :=
      t.landing =
        { l with
          census :=
            { s.landing.census with
              running := decide (n.val < 2047), cursor := n.val + 1, next := t.landing.census.next, skipped := skipped
              duplicates := s.landing.census.duplicates + more } }
    (∀ g : Guest, s.readRecord (.guest n) r = some (.guest g) →
      (g.status ≠ .vacant →
        let strays (k : Fin 4) := g.presence = .ashore ∧ g.site = some k ∧ s.landing.sites[k].state = .closed
        let again (k : Fin 2) : Bool := (g.card k).any fun c =>
          (s.index.any fun x => decide (x.card = c.id))
            || decide (k = 1) && decide (c.id ≠ 0) && decide (g.card0.map (·.id) = some c.id)
        let more := (again 0).toNat + (again 1).toNat
        let base (landing : Landing) := ({ s with landing := landing }.countOut n false).countIn n g (s.muster.has g)
        ∃ t, exec (.censusRead r) s = .next t
          ∧ ((∀ k, ¬strays k) → passed t (base s.landing).landing s.landing.census.skipped more)
          ∧ (∀ k : Fin 4, strays k →
              (let y : Site := { s.landing.sites[k] with state := .overdue, deadline := some s.clock.seconds, due := false }
               passed t (base { s.landing with sites := s.landing.sites.set k y }).landing s.landing.census.skipped more)
              ∧ (s.notices.items.length < 56 →
                  t.noticed (.siteOverdue k s.clock.seconds s.landing.sites[k].count true))
              ∧ (.confWrite (.conf .sites) .unit ∈ t.port.queue ∨ t.port.job = some (.confWrite (.conf .sites) .unit)
                  ∨ .block .sites ∈ t.port.waiting))
          ∧ t.muster = (base s.landing).muster
          ∧ (∀ x : IndexEntry, x ∈ t.index ↔ x ∈ s.index
              ∨ x.record = n ∧ x.card ≠ 0 ∧ (g.card x.slot).map (·.id) = some x.card ∧ again x.slot = false)
          ∧ t.mem = s.mem)
      ∧ (g.status = .vacant → ∃ t, exec (.censusRead r) s = .next t ∧ passed t s.landing s.landing.census.skipped 0
          ∧ t.muster = s.muster ∧ t.index = s.index ∧ t.mem = s.mem))
    ∧ (s.readFails (.guest n) r ∨ s.port.silent = true →
      ∃ t, exec (.censusRead r) s = .next t ∧ passed t s.landing (s.landing.census.skipped ++ [n]) 0
        ∧ t.muster = s.muster ∧ t.index = s.index
        ∧ (s.port.silent = false → (t.router.entry .memCheck).present = true) ∧ t.mem = s.mem)
    ∧ (n.val = 2047 → s.notices.items.length < 56 → ∃ t, exec (.censusRead r) s = .next t
        ∧ t.landing.census.running = false
        ∧ (s.startUp.phase = .bringingUp → s.landing.census.cause = .startUp →
            t.startUp.censusEnded = true ∧ t.startUp.bringUp = s.startUp.bringUp ∧ s.startUpJudged t)
        ∧ (s.landing.census.cause ≠ .startUp → t.startUp = s.startUp)
        ∧ t.noticed (.censusDone s.landing.census.cause t.landing.aboardGuest t.landing.aboardCrew
            t.landing.ashoreGuest t.landing.ashoreCrew (t.landing.sites.toList.map (·.count))
            t.landing.census.skipped.length (t.landing.census.skipped.take 16) t.landing.census.duplicates)
        ∧ ∀ k : Fin 4,
          let x := t.landing.sites[k]
          let clear : NoticeBody := .siteClear k x.state s.clock.seconds
          let clears := x.count = 0 ∧ (x.state = .lastCall ∨ x.state = .overdue)
          (clears → t.noticed clear) ∧ (¬clears → t.noticed clear → s.noticed clear))

/-- MUSTER_BEGIN is refused STATE with the clock unset, in a census, in a muster, or where no later begin stamp can follow;
else the muster is ACTIVE from the next second on with every mustered count 0. MUSTER_END is refused STATE with no muster;
else it freezes the figures in SERVICE and ends the muster. Either queues the muster write and a clock mark (R166, R167). -/
def Obligations.MusterBeginsAndEnds : Prop :=
  ∀ (s : State) (tag : Tag), s.servesRequest → s.placeFree → s.portSettled →
    let accepted (c : Instr) (kind : Byte) (muster : Muster) :=
      ∃ port : Port,
        exec c s = .next { s.heard.holding tag kind .confWrite with
          muster := muster, clock := { s.clock with sinceMark := 0 }, port := port
          landing := { s.landing with aboard := s.landing.aboard.map fun x => { x with mustered := false } } }
        ∧ (.confWrite (.conf .muster) .hand ∈ port.queue ∨ port.job = some (.confWrite (.conf .muster) .hand))
        ∧ (.confWrite (.conf .clockMark) .unit ∈ port.queue ∨ .block .clockMark ∈ port.waiting)
    (s.service = true →
      let barred := s.clock.isSet = false ∨ s.landing.census.running = true ∨ s.muster.active = true
        ∨ s.clock.seconds < s.muster.beginStamp ∨ s.clock.seconds = 4294967295
      (barred → exec (.musterBegin tag true) s = .next (s.heard.answered tag 0x70 .state .empty))
      ∧ (¬barred → accepted (.musterBegin tag true) 0x70
          { active := true, beginStamp := s.clock.seconds + 1, mustered := Vector.replicate 8 0, crewMustered := 0
            frozen := s.muster.frozen }))
    ∧ (s.muster.active = false → exec (.musterEnd tag true) s = .next (s.heard.answered tag 0x71 .state .empty))
    ∧ (s.muster.active = true → accepted (.musterEnd tag true) 0x71
        { active := false, beginStamp := s.muster.beginStamp, mustered := Vector.replicate 8 0, crewMustered := 0
          frozen := if s.service then
              some
                { beginStamp := s.muster.beginStamp, endStamp := s.clock.seconds
                  stations := s.landing.stations.toList.zip s.muster.mustered.toList
                  crewAboard := s.landing.aboardCrew, crewMustered := s.muster.crewMustered
                  partialAt := if s.landing.census.running then some s.landing.census.cursor else none }
            else none })

/-! ## Fault router (chapter 10) -/

/-- A condition that begins, the cache's stall or the link's silence: present, raised, counted; FAULT_RAISED at a raise
under NOTE, before STANDALONE_ENTERED in one step (the order of notices is the model's choice, log 28), standalone
service under STANDALONE, the escalation timer under DELAY, and FAULT as the marks and plans have it (R34, R174 to R177,
R179, R184). The escalation timer's expiry queues ESCALATED and enters standalone service (R180). The event of a
condition that is present already changes nothing (log 4), and ESCALATED lists its sources in the order of the fault sources
table (log 55): the model's choices. -/
def Obligations.ConditionsActAsPlanned : Prop :=
  ∀ s : State, s.inReset = false → s.startUp.phase ≠ .readingConfig →
    let now := s.clock.seconds
    let begins (c : Instr) (src : FaultSource) :=
      let e := s.router.entry src
      (e.present = true → exec c s = .next s)
      ∧ (e.present = false → ∃ t, exec c s = .next t
        ∧ t.router.entry src = { e with present := true, raised := true, count := min (e.count + 1) 65535 }
        ∧ (∀ other : FaultSource, other ≠ src → t.router.entry other = s.router.entry other)
        ∧ t.pins.fault = t.router.drivesFault
        ∧ t.router.timer = (if e.plan.delay = true ∧ s.router.timer = .stopped then .running else s.router.timer)
        ∧ t.router.standalone = (s.router.standalone || e.plan.standalone)
        ∧ t.notices =
          (let q :=
             if e.raised = false ∧ e.plan.note = true then s.notices.push now (.faultRaised src now 1 e.plan) else s.notices
           if e.plan.standalone = true ∧ s.router.standalone = false then
             q.push now (.standaloneEntered (.source src) now)
           else q)
        ∧ t.lines = s.lines ∧ t.cache = s.cache ∧ t.port = s.port ∧ t.entries = s.entries ∧ t.mem = s.mem)
    (s.cache.stalling = true → begins .cacheStall .cacheStall)
    ∧ (s.settings.linkSilence ≤ s.link.silence → begins .linkSilent .linkSilent)
    ∧ (s.router.timer = .running → s.settings.escalation ≤ s.router.run → ∃ t, exec .escalation s = .next t
      ∧ t.router.timer = .expired ∧ t.router.standalone = true ∧ t.router.entries = s.router.entries
      ∧ (s.router.standalone = false → t.router.cause = some .escalation ∧ t.router.since = some now)
      ∧ (s.router.standalone = true → t.router.cause = s.router.cause ∧ t.router.since = s.router.since)
      ∧ t.notices =
        (let q := s.notices.push now (.escalated now s.settings.escalation s.router.escalationSet (!s.router.standalone))
         if s.router.standalone then q else q.push now (.standaloneEntered .escalation now))
      ∧ t.lines = s.lines ∧ t.cache = s.cache ∧ t.entries = s.entries ∧ t.mem = s.mem)

/-- FAULT_PLAN_PUT replaces each named plan, evaluates FAULT and the escalation set again and enters nothing; FAULT_CLEAR
clears a mark and count whose condition is absent, and is refused STATE while it is present; RESUME is refused STATE when
ONLINE or while a STANDALONE source is present, and else returns to ONLINE; outside NORMAL each is refused STATE (R177, R179,
R182, R183, R186). A set of actions as one byte of bits in FAULT_PLAN_PUT (log 59), the order of the sources in the replies of
FAULT_CLEAR ALL and RESUME (log 55) and the time run that a timer keeps (log 51) are the model's choices. -/
def Obligations.FaultRequestsFollowTheConditions : Prop :=
  (∀ (s : State) (tag : Tag), s.takesRequest → s.power.state ≠ .normal →
    (∀ body, exec (.faultPlanPut tag body) s = .next (s.heard.answered tag 0x80 .state .empty))
    ∧ (∀ body, exec (.faultClear tag body) s = .next (s.heard.answered tag 0x81 .state .empty))
    ∧ ∀ form, exec (.resume tag form) s = .next (s.heard.answered tag 0x82 .state .empty))
  ∧ ∀ (s : State) (tag : Tag), s.servesRequest →
    let r := s.heard.router
    let timer (q : Router) :=
      if q.escalationSet = [] then EscalationState.stopped
      else if s.router.timer = .stopped then .running else s.router.timer
    (∀ plans : List (FaultSource × FaultPlan), 1 ≤ plans.length → plans.length ≤ 16 → (plans.map (·.1)).Nodup →
      (∀ x ∈ plans, x.2.isolate = true → x.1.isLine = true) → s.placeFree → s.portSettled →
      let pairs := plans.map fun (src, p) =>
        (src.index.val + 1,
          p.note.toNat + 2 * p.pin.toNat + 4 * p.isolate.toNat + 8 * p.standalone.toNat + 16 * p.delay.toNat)
      ∃ t, exec (.faultPlanPut tag (some pairs)) s = .next t
        ∧ (∀ src : FaultSource, t.router.entry src =
            { r.entry src with
              plan := ((plans.find? fun x => decide (x.1 = src)).map (·.2)).getD (s.router.entry src).plan })
        ∧ t.pins.fault = t.router.drivesFault ∧ t.router.timer = timer t.router
        ∧ t.router.standalone = s.router.standalone ∧ t.notices = s.notices ∧ t.lines = s.lines
        ∧ t.link = (s.heard.holding tag 0x80 .confWrite).link
        ∧ (.confWrite (.conf .faultPlan) .hand ∈ t.port.queue
            ∨ t.port.job = some (.confWrite (.conf .faultPlan) .hand))
        ∧ t.mem = s.mem)
    ∧ (∀ pairs : List (Nat × Nat),
      pairs = [] ∨ 16 < pairs.length ∨ ¬(pairs.map (·.1)).Nodup
        ∨ (∃ x ∈ pairs, x.1 = 0 ∨ 16 < x.1 ∨ 31 < x.2 ∨ (x.2 / 4 % 2 = 1 ∧ (x.1 < 3 ∨ 10 < x.1))) →
      exec (.faultPlanPut tag (some pairs)) s = .next (s.heard.answered tag 0x80 .badField .empty))
    ∧ (∀ src : FaultSource,
      ((r.entry src).present = true →
        exec (.faultClear tag (some (src.index.val + 1))) s = .next (s.heard.answered tag 0x81 .state (.source src)))
      ∧ ((r.entry src).present = false → ∃ t, exec (.faultClear tag (some (src.index.val + 1))) s = .next t
        ∧ t.router.entry src = { r.entry src with raised := false, count := 0 }
        ∧ (∀ other : FaultSource, other ≠ src → t.router.entry other = r.entry other)
        ∧ t.pins.fault = t.router.drivesFault
        ∧ t.router.timer = (if t.router.escalationSet = [] then .stopped else s.router.timer)
        ∧ t.router.standalone = s.router.standalone ∧ t.link = (s.heard.answered tag 0x81 .done .empty).link
        ∧ t.lines = s.lines ∧ t.notices = s.notices))
    ∧ (∀ v : Nat, 16 < v → exec (.faultClear tag (some v)) s = .next (s.heard.answered tag 0x81 .badField .empty))
    ∧ (∃ t, exec (.faultClear tag (some 0)) s = .next t
      ∧ (∀ src : FaultSource, t.router.entry src =
          if (r.entry src).present then r.entry src else { r.entry src with raised := false, count := 0 })
      ∧ t.pins.fault = t.router.drivesFault
      ∧ t.router.timer = (if t.router.escalationSet = [] then .stopped else s.router.timer)
      ∧ t.router.standalone = s.router.standalone ∧ t.lines = s.lines ∧ t.notices = s.notices
      ∧ t.link = (s.heard.answered tag 0x81 .done
          (.sources (FaultSource.all.filter fun src => (r.entry src).present))).link)
    ∧ (let held := FaultSource.all.filter fun src => (r.entry src).present && (r.entry src).plan.standalone
      (s.router.standalone = false → exec (.resume tag true) s = .next (s.heard.answered tag 0x82 .state .empty))
      ∧ (s.router.standalone = true → held ≠ [] →
        exec (.resume tag true) s = .next (s.heard.answered tag 0x82 .state (.sources held)))
      ∧ (s.router.standalone = true → held = [] →
        let again := r.escalationSet ≠ [] ∧ s.router.timer ≠ .running
        exec (.resume tag true) s = .next { s.heard.answered tag 0x82 .done .empty with
          router :=
            { r with
              standalone := false, timer := if again then .running else s.router.timer
              run := if again then 0 else s.router.run } }))

/-! ## Timers (chapters 1, 2, 3 and 8) -/

/-- A deadline found reached makes its site OVERDUE with its write and notice; a life that has ended drops its verdict, with
VERDICT_UNDELIVERED for a final verdict or TOO_LATE at a reader other than a lock, and none for a lock's verdict, WAIT,
CANCELLED and NOT_PENDING; an expiry that has passed ends its hold; the flusher queues the old and the urgent
DIRTY slots, earliest dirty-since first, below 12 waiting jobs; 3,600 s from the last a clock mark is queued (R18, R37, R41,
R63, R64, R146). The events are the model's (log 8); before its time an expiry or a clock mark changes nothing (log 4). -/
def Obligations.TimersActWhenTheirTimeHasCome : Prop :=
  ∀ s : State, s.inReset = false →
    let written (t : State) (b : ConfBlock) :=
      .confWrite (.conf b) .unit ∈ t.port.queue ∨ t.port.job = some (.confWrite (.conf b) .unit)
        ∨ .block b ∈ t.port.waiting
    (∀ (n : Fin 4) (d : Nat), s.landing.sites[n].state = .lastCall → s.landing.sites[n].deadline = some d →
      s.landing.sites[n].due = true →
      ∃ t, exec (.siteDeadline n) s = .next t
        ∧ t.landing =
          { s.landing with sites := s.landing.sites.set n { s.landing.sites[n] with state := .overdue, due := false } }
        ∧ t.notices = s.notices.push s.clock.seconds
            (.siteOverdue n d s.landing.sites[n].count s.landing.census.running)
        ∧ written t .sites ∧ t.entries = s.entries ∧ t.mem = s.mem)
    ∧ (∀ (n : Fin 4) (drop : Nat) (e : Entry) (o : Outgoing), s.entryAt n drop = some e → e.outgoing = some o →
      (s.clock.seconds < o.expiry → exec (.verdictLifeExpiry n drop) s = .next s)
      ∧ (o.expiry ≤ s.clock.seconds → ∃ t, exec (.verdictLifeExpiry n drop) s = .next t
        ∧ t.entryAt n drop = some { e with outgoing := none }
        ∧ (e.kind = .lock ∨ o.verdict.kind ∈ [VerdictKind.wait, .cancelled, .notPending] → t.notices = s.notices)
        ∧ (e.kind ≠ .lock → o.verdict.kind ∈ [VerdictKind.accept, .refuse, .deny, .pass, .passLate, .passEmbark, .repeated,
              .mustered, .musteredElsewhere, .tooLate] →
            let posting := match o.verdict.result with
              | .accept _ _ _ _ serial => some serial
              | .late serial => serial
              | _ => none
            t.notices = s.notices.push s.clock.seconds
              (.verdictUndelivered n drop e.serial o.seq o.verdict.kind o.verdict.reason posting o.deliveries .expired))
        ∧ t.lines = s.lines ∧ t.cache = s.cache ∧ t.journal = s.journal ∧ t.landing = s.landing ∧ t.mem = s.mem))
    ∧ (∀ (n : Fin 4) (drop : Nat) (k : RecKey), s.port.waiting = [] →
      ∃ t, exec (.holdExpiry n drop k) s = .next t
        ∧ (∀ i : Fin 128, (t.slot i).content = (s.slot i).content ∧ (t.slot i).holds = (s.slot i).holds.filter fun h =>
            !(decide (h.line = n) && decide (h.drop = drop) && decide (h.key = k) && decide (h.expiry ≤ s.clock.seconds)))
        ∧ t.entries = s.entries ∧ t.mem = s.mem)
    ∧ (s.clock.flusherDue = true → s.power.state = .normal → s.portSettled → ∃ t, exec .flusher s = .next t
      ∧ t.clock = { s.clock with flusherDue := false }
      ∧ (let old (i : Fin 128) := (s.slot i).state = .dirty ∧ (s.slot i).wbQueued = false
           ∧ ((s.slot i).urgent = true ∨ s.settings.flushAge ≤ s.clock.seconds - (s.slot i).dirtySince)
         (∀ i, ¬old i → t.slot i = s.slot i)
         ∧ (∀ i, old i → t.slot i = s.slot i
             ∨ t.slot i = { s.slot i with wbQueued := true }
             ∨ t.slot i = { s.slot i with state := .writing, urgent := false })
         ∧ (∀ i j, old i → (s.slot i).dirtySince < (s.slot j).dirtySince → t.slot j ≠ s.slot j → t.slot i ≠ s.slot i)
         ∧ (∀ i, old i → t.slot i = s.slot i → 12 ≤ t.port.queue.length)
         ∧ t.port.queue.length ≤ max 12 s.port.queue.length)
      ∧ t.mem = s.mem)
    ∧ (s.clock.sinceMark < 3600 → exec .clockMark s = .next s)
    ∧ (3600 ≤ s.clock.sinceMark → ∃ t, exec .clockMark s = .next t ∧ t.clock = { s.clock with sinceMark := 0 }
        ∧ written t .clockMark ∧ t.mem = s.mem)

/-! ## Record memory and cache (chapter 2) -/

/-- A fill ends CLEAN with the record read, or EMPTY when its check fails, with the host request it served answered; MEM_CHECK
follows. A silent memory begins MEM_SILENT and changes no slot (R24, R25, R30, R36, R202). How the transfer ends is an operand of the
event (the model's choice, log 9). The silence is an event before its job's own end, and its operand says whether a commit's
posting had passed (the model's choices, logs 9, 33 and 45). A fill that ends after it fails alike, MEM_CHECK and MEM_SILENT as
the silence left them. -/
def Obligations.FillsEndAsTheirReadDoes : Prop :=
  (∀ (s : State) (i : Fin 128) (k : RecKey), s.inReset = false → s.port.waiting = [] →
    (s.port.job = some (.fill i) ∨ s.port.job = some (.pairRead i)) → s.port.record = some k →
    (s.slot i).state = .filling → (s.slot i).key = some k → .writeBack i ∉ s.port.queue →
    (∀ v : Rec, s.port.silent = false → Rec.ofBlock k (s.mem.readBlock (recordAddress k) (recordSize k)) = some v → (s.slot i).waiters = [] →
      ∃ t, exec (.fill .good) s = .next t
        ∧ t.slot i = { s.slot i with state := .clean, content := some v }
        ∧ (t.router.entry .memCheck).present = false ∧ (t.router.entry .memSilent).present = false
        ∧ t.link = s.link ∧ t.mem = s.mem)
    ∧ (∀ (tag : Tag) (n : Fin 2048) (g : Guest), k = .guest n → (s.slot i).waiters = [.host] → s.link.tx.length < 8 →
      s.link.inHand = some { tag := tag, kind := 0x20, work := .record (.guestGet n) } →
      (s.port.silent = false → Rec.ofBlock k (s.mem.readBlock (recordAddress k) (recordSize k)) = some (.guest g) →
        ∃ t, exec (.fill .good) s = .next t
        ∧ t.slot i = { s.slot i with state := .clean, content := some (.guest g), waiters := [] }
        ∧ t.link = (s.answered tag 0x20 .done
            (.guest g (s.landing.census.running && decide (s.landing.census.cursor ≤ n.val)))).link)
      ∧ ∀ r : ReadResult, s.readFails k r ∨ s.port.silent = true → ∃ t, exec (.fill r) s = .next t ∧ t.slot i = Slot.blank
        ∧ (s.port.silent = false → (t.router.entry .memCheck).present = true)
        ∧ (s.port.silent = true → s.memoryConditionsStay t)
        ∧ t.link = (s.answered tag 0x20 .memoryFault .empty).link ∧ t.mem = s.mem))
  ∧ ∀ (s : State) (j : Job) (secondHalf : Bool), s.inReset = false → s.port.job = some j → s.port.silent = false →
    ∃ t, exec (.memSilent secondHalf) s = .next t ∧ t.port = { s.port with silent := true }
      ∧ (t.router.entry .memSilent).present = true ∧ t.cache = s.cache ∧ t.link = s.link ∧ t.journal = s.journal
      ∧ t.landing = s.landing ∧ (¬(secondHalf = true ∧ j = .commit) → t.mem = s.mem)
      ∧ (s.mem.wf = true → secondHalf = true → j = .commit → ∀ a, s.jobAddress = some a →
          t.mem.readBlock a s.port.data.length = s.port.data
          ∧ ∀ b, b < a ∨ a + s.port.data.length ≤ b → t.mem.read b = s.mem.read b)

/-- A write-back ends CLEAN, or DIRTY since the change that came while it was written, with the block in memory; a write that
reads back otherwise, or finds the memory silent, leaves memory as it was and the slot DIRTY since now, and MEM_CHECK or
MEM_SILENT follows; no other byte of memory changes. FLUSH is refused STATE while one runs, and else takes every DIRTY and
WRITING slot into its set; the end of a member's write finishes it as well or failed, or is the one before its own, and when
every member is finished FLUSH_DONE is queued with both counts (R24, R25, R30, R39, R43). How the write ends is an operand of
the event, and memory after a failed write the former block: the model's choices (log 9); the mark of a write-back that failed in
the emergency flush is a field of the model (log 25). -/
def Obligations.WriteBacksEndAsTheirWriteDoes : Prop :=
  (∀ (s : State) (i : Fin 128) (k : RecKey) (w : WriteResult), s.inReset = false → s.mem.wf = true →
    s.power.state = .normal → s.port.waiting = [] → s.port.job = some (.writeBack i) →
    s.port.record = some k → (s.slot i).state = .writing → .writeBack i ∉ s.port.queue →
    let a := recordAddress k
    let n := s.port.data.length
    let passes := w = .good ∧ s.port.silent = false
    ∃ t, exec (.writeBack w) s = .next t
      ∧ (passes → t.mem.readBlock a n = s.port.data ∧ (∀ b, b < a ∨ a + n ≤ b → t.mem.read b = s.mem.read b)
          ∧ (t.router.entry .memCheck).present = false ∧ (t.router.entry .memSilent).present = false)
      ∧ (¬passes → t.mem = s.mem ∧ (s.port.silent = false → (t.router.entry .memCheck).present = true))
      ∧ (s.cache.flush = none → t.cache.flush = none ∧ t.slot i =
          if passes then
            match (s.slot i).dirtyAgain with
            | none => { s.slot i with state := .clean, emergencyFailed := false }
            | some d => { s.slot i with state := .dirty, dirtySince := d, dirtyAgain := none, emergencyFailed := false }
          else
            { s.slot i with
              state := .dirty, dirtySince := s.clock.seconds, dirtyAgain := none
              emergencyFailed := (s.slot i).dirtyAgain.isNone })
      ∧ ∀ run : FlushRun, s.cache.flush = some run → (run.members.map (·.1)).Nodup →
          let rest := run.members.filter fun m => decide (m.1 ≠ i)
          let ok := if passes then run.ok + 1 else run.ok
          let failed := if passes then run.failed else run.failed + 1
          ((i, false) ∈ run.members → rest = [] →
            t.cache.flush = none ∧ (s.notices.items.length < 56 → t.noticed (.flushDone ok failed)))
          ∧ ((i, false) ∈ run.members → rest ≠ [] →
            t.cache.flush = some { members := rest, ok := ok, failed := failed })
          ∧ ((i, true) ∈ run.members → t.cache.flush = some
            { run with members := run.members.map fun m => if m.1 = i then (i, false) else m })
          ∧ (run.members ≠ [] → (∀ m ∈ run.members, m.1 ≠ i) → t.cache.flush = some run))
  ∧ ∀ (s : State) (tag : Tag), s.servesRequest →
    (s.cache.flush ≠ none → exec (.flush tag true) s = .next (s.heard.answered tag 0x78 .state .empty))
    ∧ (s.cache.flush = none →
      ((∀ i : Fin 128, (s.slot i).state ≠ .dirty ∧ (s.slot i).state ≠ .writing) →
        exec (.flush tag true) s = .next ((s.heard.answered tag 0x78 .started .empty).notify (.flushDone 0 0)))
      ∧ ((∃ i : Fin 128, (s.slot i).state = .dirty ∨ (s.slot i).state = .writing) →
        ∃ t run, exec (.flush tag true) s = .next t ∧ t.link = (s.heard.answered tag 0x78 .started .empty).link
          ∧ t.cache.flush = some run ∧ run.ok = 0 ∧ run.failed = 0
          ∧ (∀ i : Fin 128, ((s.slot i).state = .dirty ∨ (s.slot i).state = .writing) ↔ ∃ b, (i, b) ∈ run.members)
          ∧ (∀ i : Fin 128, (t.slot i).content = (s.slot i).content)
          ∧ t.notices = s.notices ∧ t.mem = s.mem))

/-- The write half of a pair ends. Written, with nothing new in the victim, no hold for it and no commit pending, the
victim goes and the port reads the incoming record into the slot. Written, but with one of these, the slot keeps the
victim, CLEAN or DIRTY since the change, and the incoming record's miss starts again for its waiters with their holds,
in the slot R33 gives; when it cannot start the stall timer runs and a host request asks again. Not written, the victim
stays DIRTY since now, memory as it was, the host request that waited is answered MEMORY_FAULT and the incoming record's
holds go; so does a pair that finds the memory silent, MEM_CHECK and MEM_SILENT as the silence left them (R25, R30, R33 to R35).
How the write ends is an operand of the event, and the silence an event before it (the model's choices, logs 9 and 33); what
becomes of the waiters of a miss that cannot start again is logs 21 and 22, and the mark of a failed write log 25. -/
def Obligations.PairsGiveTheSlotOver : Prop :=
  ∀ (s : State) (i : Fin 128) (v k : RecKey), s.inReset = false → s.mem.wf = true → s.power.state = .normal →
    s.port.waiting = [] → s.cache.flush = none → s.port.job = some (.pair i) →
    s.port.record = some v → (s.slot i).state = .writing → (s.slot i).key = some v → (s.slot i).incoming = some k →
    .writeBack i ∉ s.port.queue → v ≠ k →
    let x := s.slot i
    let obstacle := x.dirtyAgain ≠ none ∨ 0 < x.commitPending ∨ ∃ h ∈ x.holds, h.key = v
    let stands := 0 < x.commitPending ∨ ∃ h ∈ x.holds, h.key = v
    let written (t : State) := t.mem.readBlock (recordAddress v) s.port.data.length = s.port.data
      ∧ ∀ b, b < recordAddress v ∨ recordAddress v + s.port.data.length ≤ b → t.mem.read b = s.mem.read b
    let kept (state : SlotState) (since : Nat) (failed : Bool) : Slot :=
      { x with
        state := state, dirtySince := since, dirtyAgain := none, incoming := none, waiters := [], emergencyFailed := failed
        holds := x.holds.filter fun h => decide (h.key = v) }
    let mine : List Hold := x.holds.filter fun h => decide (h.key = k)
    let busy (j : Fin 128) := (s.slot j).state = .filling ∨ (s.slot j).state = .writing
      ∨ (s.slot j).state ≠ .empty ∧ 0 < (s.slot j).commitPending
    let givesUp (t : State) := written t
      ∧ t.slot i = (match x.dirtyAgain with | none => kept .clean x.dirtySince false | some d => kept .dirty d false)
    (¬obstacle → s.port.silent = false →
      ∃ t, exec (.dirtyMissPair .good) s = .next t
        ∧ t.slot i = { Slot.blank with state := .filling, key := some k, waiters := x.waiters, holds := x.holds }
        ∧ t.port.job = some (.pairRead i) ∧ t.port.record = some k ∧ t.port.queue = s.port.queue
        ∧ written t ∧ t.link = s.link)
    ∧ (∀ j : Fin 128, obstacle → s.port.silent = false → (s.slot j).state = .empty → (∀ l : Fin 128, l < j → (s.slot l).state ≠ .empty) →
      s.port.queue.length < 16 →
      ∃ t, exec (.dirtyMissPair .good) s = .next t ∧ givesUp t
        ∧ t.slot j = { Slot.blank with state := .filling, key := some k, waiters := x.waiters, holds := mine }
        ∧ (.fill j ∈ t.port.queue ∨ t.port.job = some (.fill j)) ∧ t.link = s.link
        ∧ (t.router.entry .cacheStall).present = false ∧ t.cache.stalling = false)
    ∧ (stands → s.port.silent = false → (∀ j : Fin 128, j ≠ i → busy j) →
      (.host ∉ x.waiters → ∃ t, exec (.dirtyMissPair .good) s = .next t ∧ givesUp t ∧ t.cache.stalling = true
        ∧ t.link = s.link ∧ t.entries = s.entries)
      ∧ ∀ (tag : Tag) (kind : Byte) (req : RecordReq), x.waiters = [.host] → req.key = k → s.refusedEarly req = false →
        (∀ j : Fin 128, j ≠ i → ¬(s.slot j).names k) →
        s.link.inHand = some { tag := tag, kind := kind, work := .record req } →
        ∃ t, exec (.dirtyMissPair .good) s = .next t ∧ givesUp t ∧ t.cache.stalling = true ∧ t.link = s.link
          ∧ .handMiss ∈ t.port.waiting)
    ∧ ∀ (tag : Tag) (kind : Byte) (req : RecordReq) (w : WriteResult), w = .differs ∨ s.port.silent = true →
      x.waiters = [.host] → s.link.tx.length < 8 →
      s.link.inHand = some { tag := tag, kind := kind, work := .record req } →
      ∃ t, exec (.dirtyMissPair w) s = .next t ∧ t.mem = s.mem
        ∧ t.slot i = kept .dirty s.clock.seconds x.dirtyAgain.isNone
        ∧ (s.port.silent = false → (t.router.entry .memCheck).present = true)
        ∧ (s.port.silent = true → s.memoryConditionsStay t) ∧ t.link = (s.answered tag kind .memoryFault .empty).link

/-! ## Start-up, power and reset (chapters 2 and 11) -/

/-- A configuration read of start-up ends. A good block is loaded: settings, fault plan, bindings but for a serial that
a lower slot holds, a profile, a plan, sites and lanes, muster, journal marks with the next serial at the tail, or the
clock mark. A block that fails its check, that does not open or holds a content fault, or that finds the memory silent loads
its FORMAT values and is counted, and a failed check raises MEM_CHECK. The next block is read. After the last the emergency
flush begins when PWRWARN is asserted; in SERVICE the census and the line checks begin, and in MAINTENANCE start-up is over
with START_UP_DONE (R19, R77, R125, R131, R144, R181, R197 to R199, R202). How the read ends is an operand of the event, and its
silence an event before it (logs 9 and 33); which bytes that no field names are a content fault is log 61: the model's choices. -/
def Obligations.ConfigurationReadsLeadToService : Prop :=
  ∀ (s : State) (k : Fin 49), s.inReset = false → s.startUp.phase = .readingConfig → s.port.job = some (.confRead k) →
    s.port.queue = [] → s.port.waiting = [] → s.power.state = .normal → s.journal.commits = [] → s.cache.flush = none →
    (∀ i : Fin 128, (s.slot i).state = .empty) →
    let block := ConfBlock.ofNumber k
    let good (content : List Byte) (loaded : State → Prop) := s.port.silent = false →
      s.mem.readBlock block.address (content.length + 2) = sealBlock content →
      ∃ t, exec (.configurationRead .good) s = .next t ∧ loaded t ∧ t.startUp.defaulted = s.startUp.defaulted
        ∧ (t.router.entry .memCheck).present = false ∧ (t.router.entry .memSilent).present = false
    let marked (t : State) (head tail : PostSerial) := t.journal.head = head ∧ t.journal.tail = tail ∧ t.journal.next = tail
      ∧ ((t.router.entry .journalHigh).present = true ↔ 1792 ≤ (tail - head).toNat)
      ∧ ((t.router.entry .journalFull).present = true ↔ 2048 ≤ (tail - head).toNat)
    let clocked (t : State) (seconds day : Nat) (o : Int) :=
      t.clock.seconds = seconds ∧ t.clock.day = day ∧ t.clock.offset = o ∧ t.clock.isSet = s.clock.isSet
    (∀ v : Settings, block = .settings → v.inRange = true → good (settingsBytes v) fun t => t.settings = v)
    ∧ (∀ v : Vector FaultPlan 16, block = .faultPlan →
        (∀ src : FaultSource, src.isLine = false → v[src.index].isolate = false) →
        good (faultPlanBytes v) fun t => ∀ src : FaultSource, (t.router.entry src).plan = v[src.index])
    ∧ (∀ (b : Fin 12) (v : Vector (Option Binding) 16), block = .bindings b →
        (∀ (m : Fin 16) (x : Binding), v[m] = some x → x.serial ≠ 0 ∧ locusInRange x.kind x.locus = true) →
        good (v.toList.map bindingBytes).flatten fun t =>
          (∀ m : Fin 192, m.val / 16 ≠ b.val → t.bindings[m] = s.bindings[m])
          ∧ ∀ (m : Fin 16) (h : 16 * b.val + m.val < 192),
            let taken := ∃ x, v[m] = some x ∧
              ((∃ (l : Fin 192) (y : Binding), l.val < 16 * b.val ∧ s.bindings[l] = some y ∧ y.serial = x.serial)
                ∨ ∃ (l : Fin 16) (y : Binding), l < m ∧ v[l] = some y ∧ y.serial = x.serial)
            (taken → t.bindings[16 * b.val + m.val] = none) ∧ (¬taken → t.bindings[16 * b.val + m.val] = v[m]))
    ∧ (∀ (p : Fin 16) (v : Profile), block = .profile p → v.inRange = true →
        good (profileBytes v) fun t => t.profiles = s.profiles.set p v)
    ∧ (∀ (p : Fin 15) (v : Plan), block = .plan p → v.inRange = true →
        good (planBytes v) fun t => t.plans = s.plans.set p v)
    ∧ (∀ (sites : Vector Site 4) (lanes : Vector (Option (Fin 4)) 4), block = .sites →
        (∀ (n : Fin 4) (d : Nat), sites[n].deadline = some d → d ≤ voyageMax) →
        (∀ (n x : Fin 4), lanes[n] = some x → sites[x].state ≠ .closed) →
        good (sitesBytes sites lanes) fun t => t.landing.lanes = lanes
          ∧ ∀ n : Fin 4, t.landing.sites[n] = { sites[n] with count := s.landing.sites[n].count, due := false })
    ∧ (∀ (active : Bool) (stamp : Nat), block = .muster → stamp ≤ voyageMax →
        good (musterBytes active stamp) fun t => t.muster = { s.muster with active := active, beginStamp := stamp })
    ∧ (∀ head tail : PostSerial, block = .journalMarks → (tail - head).toNat ≤ 2048 →
        good (marksBytes head tail) fun t => marked t head tail)
    ∧ (∀ (seconds day : Nat) (o : Int), block = .clockMark → seconds ≤ voyageMax → day ≤ 65535 → offsetInRange o = true →
        good (clockBytes seconds day o) fun t => clocked t seconds day o)
    ∧ (∀ r : ReadResult,
      let read := openBlock (s.mem.readBlock block.address (block.size + 2))
      let faulty (bs : List Byte) := match block with
        | .settings => settingsOfBytes bs = none
        | .faultPlan => faultPlanOfBytes bs = none
        | .bindings _ => bindingsOfBytes bs = none
        | .profile _ => profileOfBytes bs = none
        | .plan _ => planOfBytes bs = none
        | .sites => sitesOfBytes bs = none
        | .muster => musterOfBytes bs = none
        | .journalMarks => marksOfBytes bs = none
        | .clockMark => clockOfBytes bs = none
      s.port.silent = true ∨ r = .corrupt ∨ read = none ∨ (∃ bs, read = some bs ∧ faulty bs) →
      ∃ t, exec (.configurationRead r) s = .next t
      ∧ t.startUp.defaulted = s.startUp.defaulted + 1
      ∧ (s.port.silent = false → (t.router.entry .memCheck).present = true)
      ∧ match block with
        | .settings => t.settings = Settings.blank
        | .faultPlan => ∀ src : FaultSource, (t.router.entry src).plan = FaultPlan.defaults[src.index]
        | .bindings b => ∀ m : Fin 192, t.bindings[m] = if m.val / 16 = b.val then none else s.bindings[m]
        | .profile p => t.profiles = s.profiles.set p Profile.blank
        | .plan p => t.plans = s.plans.set p Plan.blank
        | .sites => (∀ n : Fin 4, t.landing.lanes[n] = none
            ∧ t.landing.sites[n] = { Site.blank with count := s.landing.sites[n].count })
        | .muster => t.muster = { s.muster with active := false, beginStamp := 0 }
        | .journalMarks => marked t 1 1
        | .clockMark => clocked t 0 0 0)
    ∧ ∀ r : ReadResult, ∃ t, exec (.configurationRead r) s = .next t
      ∧ (∀ n : Fin 49, n.val = k.val + 1 → t.port.job = some (.confRead n) ∧ t.startUp.phase = .readingConfig)
      ∧ (k = 48 → t.pins.fault = t.router.drivesFault ∧ t.router.deferred = []
        ∧ t.power.state = (if s.pins.pwrwarn then .emergencyFlush else .normal)
        ∧ (s.service = true → t.startUp.phase = .bringingUp ∧ t.landing.census.running = true
            ∧ t.landing.census.cursor = 0 ∧ t.landing.census.cause = .startUp
            ∧ (∀ n : Fin 4, t.lines[n].ops = [.check .startUp])
            ∧ ∀ lines census defaulted untaken muster,
                t.noticed (.startUpDone false lines census defaulted untaken muster) →
                s.noticed (.startUpDone false lines census defaulted untaken muster))
        ∧ (s.service = false → t.startUp.phase = .running ∧ t.landing.census.running = s.landing.census.running
            ∧ (s.notices.items.length + 2 * s.router.deferred.length < 60 → t.noticed
                (.startUpDone true (List.replicate 4 (some (.isolated none))) none t.startUp.defaulted
                  (t.journal.next - t.journal.head).toNat t.muster.active))
            ∧ ∀ n : Fin 4, t.lines[n].ops = s.lines[n].ops))
      ∧ t.mem = s.mem

/-- PWRWARN in NORMAL begins EMERGENCY_FLUSH: queued fills leave their slots EMPTY, without waiters and holds, queued pairs
become write-backs of their victims in the same places, every other slot keeps its record, every DIRTY slot has its write-back
queued or waits for a place, and a request waiting for its record is answered STATE. While the configuration is read PWRWARN
begins POWER_WARN, on which the router acts later, and nothing else (R197). Once everything is written the marks are; then SAFE
is asserted in HALTED_SAFE, or the state is NORMAL when PWRWARN is gone; PWRWARN withdrawn in HALTED_SAFE drops SAFE (R39, R44,
R45, R46). RESTART replies DONE and begins the same write-out, its
slots and jobs alike, with the restart mark, and readers, lines, clock, records in memory and every setting stay (R200). A configuration write that arises
after the mark writes does not hold SAFE back (log 44), the places of withdrawn jobs go to the flush's write-backs, before commits
not yet queued (log 50), and PWRWARN asserted again begins nothing (log 4): the model's choices. -/
def Obligations.PowerWarningsAndRestartRunTheFlush : Prop :=
  (∀ s : State, s.inReset = false →
    (s.power.state = .normal → s.startUp.phase ≠ .readingConfig → ∃ t, exec .pwrwarnAsserted s = .next t
      ∧ t.power = { s.power with state := .emergencyFlush, marks := none } ∧ t.pins.pwrwarn = true
      ∧ t.pins.safe = s.pins.safe ∧ (t.router.entry .powerWarn).present = true
      ∧ s.flushEntered t.cache t.port
      ∧ (∀ (tag : Tag) (kind : Byte) (req : RecordReq), s.link.tx.length < 8 →
          s.link.inHand = some { tag := tag, kind := kind, work := .record req } →
          t.link = (s.answered tag kind .state .empty).link)
      ∧ t.entries = s.entries ∧ t.journal = s.journal ∧ t.landing = s.landing ∧ t.mem = s.mem)
    ∧ (s.startUp.phase = .readingConfig → s.power.state = .normal →
      let e := s.router.entry .powerWarn
      let raised := s.router.setEntry .powerWarn { e with present := true, raised := true, count := min (e.count + 1) 65535 }
      let begun : Begun := { source := .powerWarn, time := s.clock.seconds, raise := !e.raised }
      exec .pwrwarnAsserted s = .next { s with
        pins := { s.pins with pwrwarn := true }
        router := if e.present then s.router else { raised with deferred := s.router.deferred ++ [begun] } })
    ∧ (s.power.state ≠ .normal → ∃ t, exec .pwrwarnAsserted s = .next t ∧ t.power = s.power ∧ t.cache = s.cache
      ∧ t.port = s.port ∧ t.pins.pwrwarn = true ∧ (t.router.entry .powerWarn).present = true)
    ∧ (let ended := { s with
         pins := { s.pins with pwrwarn := false }
         router := s.router.setEntry .powerWarn { s.router.entry .powerWarn with present := false } }
      (s.power.state ≠ .haltedSafe → exec .pwrwarnWithdrawn s = .next ended)
      ∧ (s.power.state = .haltedSafe → ∃ t, exec .pwrwarnWithdrawn s = .next t
        ∧ t.power = { s.power with state := .normal, marks := none } ∧ t.pins.safe = false ∧ t.pins.pwrwarn = false
        ∧ (t.router.entry .powerWarn).present = false ∧ t.mem = s.mem))
    ∧ (s.power.state = .emergencyFlush → s.power.marks = none → s.journal.commits = [] → s.port.job = none →
      s.port.queue = [] → (∀ i : Fin 128, (s.slot i).state ≠ .dirty) →
      ∃ t, exec .emergencyMarkWrites s = .next t ∧ t.power = { s.power with marks := some 2 }
        ∧ t.port.job = some (.confWrite (.conf .journalMarks) .flush)
        ∧ t.port.data = sealBlock (marksBytes s.journal.head s.journal.tail)
        ∧ t.port.queue = [.confWrite (.conf .clockMark) .flush] ∧ t.clock = { s.clock with sinceMark := 0 }
        ∧ t.cache = s.cache ∧ t.mem = s.mem)
    ∧ (s.power.state = .emergencyFlush → s.power.marks = some 0 → s.power.restart = false →
      (s.pins.pwrwarn = true → exec .safe s = .next
        { s with power := { s.power with state := .haltedSafe, marks := none }, pins := { s.pins with safe := true } })
      ∧ (s.pins.pwrwarn = false → ∃ t, exec .safe s = .next t
        ∧ t.power = { s.power with state := .normal, marks := none } ∧ t.pins.safe = s.pins.safe ∧ t.mem = s.mem)))
  ∧ ∀ (s : State) (tag : Tag), s.servesRequest →
    ∃ (cache : Cache) (port : Port),
      exec (.restart tag true) s = .next
        { s.heard.answered tag 0x03 .done .empty with
          power := { state := .emergencyFlush, marks := none, restart := true }
          clock := { s.clock with flusherDue := false }, cache := cache, port := port }
      ∧ s.flushEntered cache port

/-- RESET held low abandons everything but the memory: outputs at their reset levels, nothing cached, chained, counted
or in hand; until its release no command but a change of PWRWARN acts. The release, and RESTART's end once its DONE is
sent, start the part afresh from reset with the straps sampled and memory as it was, but for the block of a write that
either reset cuts short; with PWRWARN asserted POWER_WARN's condition begins too, after CLOCK_UNSET's, and the router acts on
both later (R44, R47, R174, R194, R196, R197, R200). That a command given in reset changes nothing is log 4, what
memory a cut write leaves log 30, the state after reset logs 2 and 3, the order of the two conditions log 60: the model's
choices. -/
def Obligations.ResetsStartAfresh : Prop :=
  ∀ s : State,
    let warn := s.pins.pwrwarn
    let warned : Router :=
      { State.reset.router.setEntry .powerWarn
          { present := true, raised := true, count := 1, plan := (State.reset.router.entry .powerWarn).plan } with
        deferred := [{ source := .clockUnset, time := 0, raise := true }, { source := .powerWarn, time := 0, raise := true }] }
    let fresh (straps : Straps) (mem : Memory) := { State.reset with
      pending := s.pending, mem := mem, straps := straps, pins := { State.reset.pins with pwrwarn := warn }
      router := if warn then warned else State.reset.router }
    (s.inReset = false → ∀ cut : CutAt, ∃ t, exec (.resetAsserted cut) s = .next t ∧ t.inReset = true
      ∧ t.pins.attn = false ∧ t.pins.fault = false ∧ t.pins.safe = false ∧ t.entries = [] ∧ t.index = []
      ∧ t.landing.roster = [] ∧ t.journal.commits = [] ∧ t.port.job = none ∧ t.port.queue = [] ∧ t.link.inHand = none
      ∧ t.link.tx = [] ∧ t.notices.items = [] ∧ t.power.state = .normal
      ∧ (∀ i : Fin 128, t.slot i = Slot.blank)
      ∧ (∀ n : Fin 4, t.lines[n].state = .isolated ∧ t.lines[n].driveEnable = false ∧ t.lines[n].chain = false
          ∧ t.lines[n].biasHigh = false ∧ t.lines[n].biasLow = false)
      ∧ t.mem = s.cutMemory cut)
    ∧ (∀ cut : CutAt, s.port.job = none ∨ cut = .before → s.cutMemory cut = s.mem)
    ∧ (s.inReset = true →
      (∀ c : Instr, (match c with | .resetRelease _ | .pwrwarnAsserted | .pwrwarnWithdrawn => False | _ => True) →
        exec c s = .next s)
      ∧ ∀ straps : Straps, exec (.resetRelease straps) s = .next (fresh straps s.mem))
    ∧ ∀ (straps : Straps) (cut : CutAt), s.inReset = false → s.power.restart = true → s.power.marks = some 0 →
      (∀ r ∈ s.link.tx, ¬(r.kind = 0x03 ∧ r.result = .done)) →
      (∀ (h : InHand) (r : Reply), s.link.inHand = some h → h.work = .formed r → ¬(r.kind = 0x03 ∧ r.result = .done)) →
      exec (.restartReset ⟨straps, cut⟩) s = .next (fresh straps (s.cutMemory cut))


end
end

