-- ==== Sys2Proof/Laws/State.lean ====
section
/-! SUPPORT. One lemma for each field of State that an update leaves as it was, and what the updates set. -/
namespace Sys2Proof.Machine
set_option Elab.async false

/-! ## What the plain updates set -/

@[simp] theorem State.setSlot_port_queue (s : State) (i : Fin 128) (x : Slot) : (s.setSlot i x).port.queue = s.port.queue := rfl
@[simp] theorem State.setQueue_queue (s : State) (q : List Job) : (s.setQueue q).port.queue = q := rfl
@[simp] theorem State.setQueue_job (s : State) (q : List Job) : (s.setQueue q).port.job = s.port.job := rfl
@[simp] theorem State.setQueue_data (s : State) (q : List Job) : (s.setQueue q).port.data = s.port.data := rfl
@[simp] theorem State.setQueue_waiting (s : State) (q : List Job) : (s.setQueue q).port.waiting = s.port.waiting := rfl
@[simp] theorem State.setWaiting_queue (s : State) (w : List PlaceWaiter) : (s.setWaiting w).port.queue = s.port.queue := rfl
@[simp] theorem State.setWaiting_job (s : State) (w : List PlaceWaiter) : (s.setWaiting w).port.job = s.port.job := rfl
@[simp] theorem State.setWaiting_data (s : State) (w : List PlaceWaiter) : (s.setWaiting w).port.data = s.port.data := rfl
@[simp] theorem State.setWaiting_waiting (s : State) (w : List PlaceWaiter) : (s.setWaiting w).port.waiting = w := rfl
@[simp] theorem State.notify_notices (s : State) (b : NoticeBody) :
    (s.notify b).notices = s.notices.push s.clock.seconds b := rfl
@[simp] theorem State.notify_attn (s : State) (b : NoticeBody) : (s.notify b).pins.attn = true := rfl
@[simp] theorem State.notify_fault (s : State) (b : NoticeBody) : (s.notify b).pins.fault = s.pins.fault := rfl
@[simp] theorem State.notify_safe (s : State) (b : NoticeBody) : (s.notify b).pins.safe = s.pins.safe := rfl
@[simp] theorem State.setWork_tx (s : State) (w : Work) : (s.setWork w).link.tx = s.link.tx := rfl
@[simp] theorem State.slot_setSlot_same (s : State) (i : Fin 128) (x : Slot) : (s.setSlot i x).slot i = x := by
  simp [State.slot, State.setSlot]
@[simp] theorem State.slot_setSlot_ne (s : State) (i j : Fin 128) (x : Slot) (h : i ≠ j) :
    (s.setSlot i x).slot j = s.slot j := by
  have : i.val ≠ j.val := fun e => h (Fin.ext e)
  simp [State.slot, State.setSlot, this]
@[simp] theorem Router.entry_setEntry_same (r : Router) (src : FaultSource) (e : FaultEntry) :
    (r.setEntry src e).entry src = e := by
  simp [Router.entry, Router.setEntry]

/-! ## What they leave -/

@[simp] theorem State.notify_pending (s : State) (b : NoticeBody) : (s.notify b).pending = s.pending := rfl
@[simp] theorem State.notify_inReset (s : State) (b : NoticeBody) : (s.notify b).inReset = s.inReset := rfl
@[simp] theorem State.notify_straps (s : State) (b : NoticeBody) : (s.notify b).straps = s.straps := rfl
@[simp] theorem State.notify_startUp (s : State) (b : NoticeBody) : (s.notify b).startUp = s.startUp := rfl
@[simp] theorem State.notify_power (s : State) (b : NoticeBody) : (s.notify b).power = s.power := rfl
@[simp] theorem State.notify_mem (s : State) (b : NoticeBody) : (s.notify b).mem = s.mem := rfl
@[simp] theorem State.notify_clock (s : State) (b : NoticeBody) : (s.notify b).clock = s.clock := rfl
@[simp] theorem State.notify_settings (s : State) (b : NoticeBody) : (s.notify b).settings = s.settings := rfl
@[simp] theorem State.notify_plans (s : State) (b : NoticeBody) : (s.notify b).plans = s.plans := rfl
@[simp] theorem State.notify_profiles (s : State) (b : NoticeBody) : (s.notify b).profiles = s.profiles := rfl
@[simp] theorem State.notify_bindings (s : State) (b : NoticeBody) : (s.notify b).bindings = s.bindings := rfl
@[simp] theorem State.notify_index (s : State) (b : NoticeBody) : (s.notify b).index = s.index := rfl
@[simp] theorem State.notify_cache (s : State) (b : NoticeBody) : (s.notify b).cache = s.cache := rfl
@[simp] theorem State.notify_port (s : State) (b : NoticeBody) : (s.notify b).port = s.port := rfl
@[simp] theorem State.notify_lines (s : State) (b : NoticeBody) : (s.notify b).lines = s.lines := rfl
@[simp] theorem State.notify_entries (s : State) (b : NoticeBody) : (s.notify b).entries = s.entries := rfl
@[simp] theorem State.notify_journal (s : State) (b : NoticeBody) : (s.notify b).journal = s.journal := rfl
@[simp] theorem State.notify_landing (s : State) (b : NoticeBody) : (s.notify b).landing = s.landing := rfl
@[simp] theorem State.notify_muster (s : State) (b : NoticeBody) : (s.notify b).muster = s.muster := rfl
@[simp] theorem State.notify_router (s : State) (b : NoticeBody) : (s.notify b).router = s.router := rfl
@[simp] theorem State.notify_link (s : State) (b : NoticeBody) : (s.notify b).link = s.link := rfl
@[simp] theorem State.setSlot_pending (s : State) (i : Fin 128) (x : Slot) : (s.setSlot i x).pending = s.pending := rfl
@[simp] theorem State.setSlot_inReset (s : State) (i : Fin 128) (x : Slot) : (s.setSlot i x).inReset = s.inReset := rfl
@[simp] theorem State.setSlot_straps (s : State) (i : Fin 128) (x : Slot) : (s.setSlot i x).straps = s.straps := rfl
@[simp] theorem State.setSlot_startUp (s : State) (i : Fin 128) (x : Slot) : (s.setSlot i x).startUp = s.startUp := rfl
@[simp] theorem State.setSlot_power (s : State) (i : Fin 128) (x : Slot) : (s.setSlot i x).power = s.power := rfl
@[simp] theorem State.setSlot_pins (s : State) (i : Fin 128) (x : Slot) : (s.setSlot i x).pins = s.pins := rfl
@[simp] theorem State.setSlot_mem (s : State) (i : Fin 128) (x : Slot) : (s.setSlot i x).mem = s.mem := rfl
@[simp] theorem State.setSlot_clock (s : State) (i : Fin 128) (x : Slot) : (s.setSlot i x).clock = s.clock := rfl
@[simp] theorem State.setSlot_settings (s : State) (i : Fin 128) (x : Slot) : (s.setSlot i x).settings = s.settings := rfl
@[simp] theorem State.setSlot_plans (s : State) (i : Fin 128) (x : Slot) : (s.setSlot i x).plans = s.plans := rfl
@[simp] theorem State.setSlot_profiles (s : State) (i : Fin 128) (x : Slot) : (s.setSlot i x).profiles = s.profiles := rfl
@[simp] theorem State.setSlot_bindings (s : State) (i : Fin 128) (x : Slot) : (s.setSlot i x).bindings = s.bindings := rfl
@[simp] theorem State.setSlot_index (s : State) (i : Fin 128) (x : Slot) : (s.setSlot i x).index = s.index := rfl
@[simp] theorem State.setSlot_port (s : State) (i : Fin 128) (x : Slot) : (s.setSlot i x).port = s.port := rfl
@[simp] theorem State.setSlot_lines (s : State) (i : Fin 128) (x : Slot) : (s.setSlot i x).lines = s.lines := rfl
@[simp] theorem State.setSlot_entries (s : State) (i : Fin 128) (x : Slot) : (s.setSlot i x).entries = s.entries := rfl
@[simp] theorem State.setSlot_journal (s : State) (i : Fin 128) (x : Slot) : (s.setSlot i x).journal = s.journal := rfl
@[simp] theorem State.setSlot_landing (s : State) (i : Fin 128) (x : Slot) : (s.setSlot i x).landing = s.landing := rfl
@[simp] theorem State.setSlot_muster (s : State) (i : Fin 128) (x : Slot) : (s.setSlot i x).muster = s.muster := rfl
@[simp] theorem State.setSlot_router (s : State) (i : Fin 128) (x : Slot) : (s.setSlot i x).router = s.router := rfl
@[simp] theorem State.setSlot_link (s : State) (i : Fin 128) (x : Slot) : (s.setSlot i x).link = s.link := rfl
@[simp] theorem State.setSlot_notices (s : State) (i : Fin 128) (x : Slot) : (s.setSlot i x).notices = s.notices := rfl
@[simp] theorem State.setQueue_pending (s : State) (q : List Job) : (s.setQueue q).pending = s.pending := rfl
@[simp] theorem State.setQueue_inReset (s : State) (q : List Job) : (s.setQueue q).inReset = s.inReset := rfl
@[simp] theorem State.setQueue_straps (s : State) (q : List Job) : (s.setQueue q).straps = s.straps := rfl
@[simp] theorem State.setQueue_startUp (s : State) (q : List Job) : (s.setQueue q).startUp = s.startUp := rfl
@[simp] theorem State.setQueue_power (s : State) (q : List Job) : (s.setQueue q).power = s.power := rfl
@[simp] theorem State.setQueue_pins (s : State) (q : List Job) : (s.setQueue q).pins = s.pins := rfl
@[simp] theorem State.setQueue_mem (s : State) (q : List Job) : (s.setQueue q).mem = s.mem := rfl
@[simp] theorem State.setQueue_clock (s : State) (q : List Job) : (s.setQueue q).clock = s.clock := rfl
@[simp] theorem State.setQueue_settings (s : State) (q : List Job) : (s.setQueue q).settings = s.settings := rfl
@[simp] theorem State.setQueue_plans (s : State) (q : List Job) : (s.setQueue q).plans = s.plans := rfl
@[simp] theorem State.setQueue_profiles (s : State) (q : List Job) : (s.setQueue q).profiles = s.profiles := rfl
@[simp] theorem State.setQueue_bindings (s : State) (q : List Job) : (s.setQueue q).bindings = s.bindings := rfl
@[simp] theorem State.setQueue_index (s : State) (q : List Job) : (s.setQueue q).index = s.index := rfl
@[simp] theorem State.setQueue_cache (s : State) (q : List Job) : (s.setQueue q).cache = s.cache := rfl
@[simp] theorem State.setQueue_lines (s : State) (q : List Job) : (s.setQueue q).lines = s.lines := rfl
@[simp] theorem State.setQueue_entries (s : State) (q : List Job) : (s.setQueue q).entries = s.entries := rfl
@[simp] theorem State.setQueue_journal (s : State) (q : List Job) : (s.setQueue q).journal = s.journal := rfl
@[simp] theorem State.setQueue_landing (s : State) (q : List Job) : (s.setQueue q).landing = s.landing := rfl
@[simp] theorem State.setQueue_muster (s : State) (q : List Job) : (s.setQueue q).muster = s.muster := rfl
@[simp] theorem State.setQueue_router (s : State) (q : List Job) : (s.setQueue q).router = s.router := rfl
@[simp] theorem State.setQueue_link (s : State) (q : List Job) : (s.setQueue q).link = s.link := rfl
@[simp] theorem State.setQueue_notices (s : State) (q : List Job) : (s.setQueue q).notices = s.notices := rfl
@[simp] theorem State.setWaiting_pending (s : State) (w : List PlaceWaiter) : (s.setWaiting w).pending = s.pending := rfl
@[simp] theorem State.setWaiting_inReset (s : State) (w : List PlaceWaiter) : (s.setWaiting w).inReset = s.inReset := rfl
@[simp] theorem State.setWaiting_straps (s : State) (w : List PlaceWaiter) : (s.setWaiting w).straps = s.straps := rfl
@[simp] theorem State.setWaiting_startUp (s : State) (w : List PlaceWaiter) : (s.setWaiting w).startUp = s.startUp := rfl
@[simp] theorem State.setWaiting_power (s : State) (w : List PlaceWaiter) : (s.setWaiting w).power = s.power := rfl
@[simp] theorem State.setWaiting_pins (s : State) (w : List PlaceWaiter) : (s.setWaiting w).pins = s.pins := rfl
@[simp] theorem State.setWaiting_mem (s : State) (w : List PlaceWaiter) : (s.setWaiting w).mem = s.mem := rfl
@[simp] theorem State.setWaiting_clock (s : State) (w : List PlaceWaiter) : (s.setWaiting w).clock = s.clock := rfl
@[simp] theorem State.setWaiting_settings (s : State) (w : List PlaceWaiter) : (s.setWaiting w).settings = s.settings := rfl
@[simp] theorem State.setWaiting_plans (s : State) (w : List PlaceWaiter) : (s.setWaiting w).plans = s.plans := rfl
@[simp] theorem State.setWaiting_profiles (s : State) (w : List PlaceWaiter) : (s.setWaiting w).profiles = s.profiles := rfl
@[simp] theorem State.setWaiting_bindings (s : State) (w : List PlaceWaiter) : (s.setWaiting w).bindings = s.bindings := rfl
@[simp] theorem State.setWaiting_index (s : State) (w : List PlaceWaiter) : (s.setWaiting w).index = s.index := rfl
@[simp] theorem State.setWaiting_cache (s : State) (w : List PlaceWaiter) : (s.setWaiting w).cache = s.cache := rfl
@[simp] theorem State.setWaiting_lines (s : State) (w : List PlaceWaiter) : (s.setWaiting w).lines = s.lines := rfl
@[simp] theorem State.setWaiting_entries (s : State) (w : List PlaceWaiter) : (s.setWaiting w).entries = s.entries := rfl
@[simp] theorem State.setWaiting_journal (s : State) (w : List PlaceWaiter) : (s.setWaiting w).journal = s.journal := rfl
@[simp] theorem State.setWaiting_landing (s : State) (w : List PlaceWaiter) : (s.setWaiting w).landing = s.landing := rfl
@[simp] theorem State.setWaiting_muster (s : State) (w : List PlaceWaiter) : (s.setWaiting w).muster = s.muster := rfl
@[simp] theorem State.setWaiting_router (s : State) (w : List PlaceWaiter) : (s.setWaiting w).router = s.router := rfl
@[simp] theorem State.setWaiting_link (s : State) (w : List PlaceWaiter) : (s.setWaiting w).link = s.link := rfl
@[simp] theorem State.setWaiting_notices (s : State) (w : List PlaceWaiter) : (s.setWaiting w).notices = s.notices := rfl
@[simp] theorem State.setWork_pending (s : State) (w : Work) : (s.setWork w).pending = s.pending := rfl
@[simp] theorem State.setWork_inReset (s : State) (w : Work) : (s.setWork w).inReset = s.inReset := rfl
@[simp] theorem State.setWork_straps (s : State) (w : Work) : (s.setWork w).straps = s.straps := rfl
@[simp] theorem State.setWork_startUp (s : State) (w : Work) : (s.setWork w).startUp = s.startUp := rfl
@[simp] theorem State.setWork_power (s : State) (w : Work) : (s.setWork w).power = s.power := rfl
@[simp] theorem State.setWork_pins (s : State) (w : Work) : (s.setWork w).pins = s.pins := rfl
@[simp] theorem State.setWork_mem (s : State) (w : Work) : (s.setWork w).mem = s.mem := rfl
@[simp] theorem State.setWork_clock (s : State) (w : Work) : (s.setWork w).clock = s.clock := rfl
@[simp] theorem State.setWork_settings (s : State) (w : Work) : (s.setWork w).settings = s.settings := rfl
@[simp] theorem State.setWork_plans (s : State) (w : Work) : (s.setWork w).plans = s.plans := rfl
@[simp] theorem State.setWork_profiles (s : State) (w : Work) : (s.setWork w).profiles = s.profiles := rfl
@[simp] theorem State.setWork_bindings (s : State) (w : Work) : (s.setWork w).bindings = s.bindings := rfl
@[simp] theorem State.setWork_index (s : State) (w : Work) : (s.setWork w).index = s.index := rfl
@[simp] theorem State.setWork_cache (s : State) (w : Work) : (s.setWork w).cache = s.cache := rfl
@[simp] theorem State.setWork_port (s : State) (w : Work) : (s.setWork w).port = s.port := rfl
@[simp] theorem State.setWork_lines (s : State) (w : Work) : (s.setWork w).lines = s.lines := rfl
@[simp] theorem State.setWork_entries (s : State) (w : Work) : (s.setWork w).entries = s.entries := rfl
@[simp] theorem State.setWork_journal (s : State) (w : Work) : (s.setWork w).journal = s.journal := rfl
@[simp] theorem State.setWork_landing (s : State) (w : Work) : (s.setWork w).landing = s.landing := rfl
@[simp] theorem State.setWork_muster (s : State) (w : Work) : (s.setWork w).muster = s.muster := rfl
@[simp] theorem State.setWork_router (s : State) (w : Work) : (s.setWork w).router = s.router := rfl
@[simp] theorem State.setWork_notices (s : State) (w : Work) : (s.setWork w).notices = s.notices := rfl
@[simp] theorem State.touch_pending (s : State) (i : Fin 128) : (s.touch i).pending = s.pending := rfl
@[simp] theorem State.touch_inReset (s : State) (i : Fin 128) : (s.touch i).inReset = s.inReset := rfl
@[simp] theorem State.touch_straps (s : State) (i : Fin 128) : (s.touch i).straps = s.straps := rfl
@[simp] theorem State.touch_startUp (s : State) (i : Fin 128) : (s.touch i).startUp = s.startUp := rfl
@[simp] theorem State.touch_power (s : State) (i : Fin 128) : (s.touch i).power = s.power := rfl
@[simp] theorem State.touch_pins (s : State) (i : Fin 128) : (s.touch i).pins = s.pins := rfl
@[simp] theorem State.touch_mem (s : State) (i : Fin 128) : (s.touch i).mem = s.mem := rfl
@[simp] theorem State.touch_clock (s : State) (i : Fin 128) : (s.touch i).clock = s.clock := rfl
@[simp] theorem State.touch_settings (s : State) (i : Fin 128) : (s.touch i).settings = s.settings := rfl
@[simp] theorem State.touch_plans (s : State) (i : Fin 128) : (s.touch i).plans = s.plans := rfl
@[simp] theorem State.touch_profiles (s : State) (i : Fin 128) : (s.touch i).profiles = s.profiles := rfl
@[simp] theorem State.touch_bindings (s : State) (i : Fin 128) : (s.touch i).bindings = s.bindings := rfl
@[simp] theorem State.touch_index (s : State) (i : Fin 128) : (s.touch i).index = s.index := rfl
@[simp] theorem State.touch_port (s : State) (i : Fin 128) : (s.touch i).port = s.port := rfl
@[simp] theorem State.touch_lines (s : State) (i : Fin 128) : (s.touch i).lines = s.lines := rfl
@[simp] theorem State.touch_entries (s : State) (i : Fin 128) : (s.touch i).entries = s.entries := rfl
@[simp] theorem State.touch_journal (s : State) (i : Fin 128) : (s.touch i).journal = s.journal := rfl
@[simp] theorem State.touch_landing (s : State) (i : Fin 128) : (s.touch i).landing = s.landing := rfl
@[simp] theorem State.touch_muster (s : State) (i : Fin 128) : (s.touch i).muster = s.muster := rfl
@[simp] theorem State.touch_router (s : State) (i : Fin 128) : (s.touch i).router = s.router := rfl
@[simp] theorem State.touch_link (s : State) (i : Fin 128) : (s.touch i).link = s.link := rfl
@[simp] theorem State.touch_notices (s : State) (i : Fin 128) : (s.touch i).notices = s.notices := rfl
@[simp] theorem State.missStuck_pending (s : State) : s.missStuck.pending = s.pending := rfl
@[simp] theorem State.missStuck_inReset (s : State) : s.missStuck.inReset = s.inReset := rfl
@[simp] theorem State.missStuck_straps (s : State) : s.missStuck.straps = s.straps := rfl
@[simp] theorem State.missStuck_startUp (s : State) : s.missStuck.startUp = s.startUp := rfl
@[simp] theorem State.missStuck_power (s : State) : s.missStuck.power = s.power := rfl
@[simp] theorem State.missStuck_pins (s : State) : s.missStuck.pins = s.pins := rfl
@[simp] theorem State.missStuck_mem (s : State) : s.missStuck.mem = s.mem := rfl
@[simp] theorem State.missStuck_clock (s : State) : s.missStuck.clock = s.clock := rfl
@[simp] theorem State.missStuck_settings (s : State) : s.missStuck.settings = s.settings := rfl
@[simp] theorem State.missStuck_plans (s : State) : s.missStuck.plans = s.plans := rfl
@[simp] theorem State.missStuck_profiles (s : State) : s.missStuck.profiles = s.profiles := rfl
@[simp] theorem State.missStuck_bindings (s : State) : s.missStuck.bindings = s.bindings := rfl
@[simp] theorem State.missStuck_index (s : State) : s.missStuck.index = s.index := rfl
@[simp] theorem State.missStuck_port (s : State) : s.missStuck.port = s.port := rfl
@[simp] theorem State.missStuck_lines (s : State) : s.missStuck.lines = s.lines := rfl
@[simp] theorem State.missStuck_entries (s : State) : s.missStuck.entries = s.entries := rfl
@[simp] theorem State.missStuck_journal (s : State) : s.missStuck.journal = s.journal := rfl
@[simp] theorem State.missStuck_landing (s : State) : s.missStuck.landing = s.landing := rfl
@[simp] theorem State.missStuck_muster (s : State) : s.missStuck.muster = s.muster := rfl
@[simp] theorem State.missStuck_router (s : State) : s.missStuck.router = s.router := rfl
@[simp] theorem State.missStuck_link (s : State) : s.missStuck.link = s.link := rfl
@[simp] theorem State.missStuck_notices (s : State) : s.missStuck.notices = s.notices := rfl
@[simp] theorem State.missStarted_pending (s : State) : s.missStarted.pending = s.pending := rfl
@[simp] theorem State.missStarted_inReset (s : State) : s.missStarted.inReset = s.inReset := rfl
@[simp] theorem State.missStarted_straps (s : State) : s.missStarted.straps = s.straps := rfl
@[simp] theorem State.missStarted_startUp (s : State) : s.missStarted.startUp = s.startUp := rfl
@[simp] theorem State.missStarted_power (s : State) : s.missStarted.power = s.power := rfl
@[simp] theorem State.missStarted_pins (s : State) : s.missStarted.pins = s.pins := rfl
@[simp] theorem State.missStarted_mem (s : State) : s.missStarted.mem = s.mem := rfl
@[simp] theorem State.missStarted_clock (s : State) : s.missStarted.clock = s.clock := rfl
@[simp] theorem State.missStarted_settings (s : State) : s.missStarted.settings = s.settings := rfl
@[simp] theorem State.missStarted_plans (s : State) : s.missStarted.plans = s.plans := rfl
@[simp] theorem State.missStarted_profiles (s : State) : s.missStarted.profiles = s.profiles := rfl
@[simp] theorem State.missStarted_bindings (s : State) : s.missStarted.bindings = s.bindings := rfl
@[simp] theorem State.missStarted_index (s : State) : s.missStarted.index = s.index := rfl
@[simp] theorem State.missStarted_port (s : State) : s.missStarted.port = s.port := rfl
@[simp] theorem State.missStarted_lines (s : State) : s.missStarted.lines = s.lines := rfl
@[simp] theorem State.missStarted_entries (s : State) : s.missStarted.entries = s.entries := rfl
@[simp] theorem State.missStarted_journal (s : State) : s.missStarted.journal = s.journal := rfl
@[simp] theorem State.missStarted_landing (s : State) : s.missStarted.landing = s.landing := rfl
@[simp] theorem State.missStarted_muster (s : State) : s.missStarted.muster = s.muster := rfl
@[simp] theorem State.missStarted_link (s : State) : s.missStarted.link = s.link := rfl
@[simp] theorem State.missStarted_notices (s : State) : s.missStarted.notices = s.notices := rfl
@[simp] theorem State.endCondition_pending (s : State) (x : FaultSource) : (s.endCondition x).pending = s.pending := rfl
@[simp] theorem State.endCondition_inReset (s : State) (x : FaultSource) : (s.endCondition x).inReset = s.inReset := rfl
@[simp] theorem State.endCondition_straps (s : State) (x : FaultSource) : (s.endCondition x).straps = s.straps := rfl
@[simp] theorem State.endCondition_startUp (s : State) (x : FaultSource) : (s.endCondition x).startUp = s.startUp := rfl
@[simp] theorem State.endCondition_power (s : State) (x : FaultSource) : (s.endCondition x).power = s.power := rfl
@[simp] theorem State.endCondition_pins (s : State) (x : FaultSource) : (s.endCondition x).pins = s.pins := rfl
@[simp] theorem State.endCondition_mem (s : State) (x : FaultSource) : (s.endCondition x).mem = s.mem := rfl
@[simp] theorem State.endCondition_clock (s : State) (x : FaultSource) : (s.endCondition x).clock = s.clock := rfl
@[simp] theorem State.endCondition_settings (s : State) (x : FaultSource) : (s.endCondition x).settings = s.settings := rfl
@[simp] theorem State.endCondition_plans (s : State) (x : FaultSource) : (s.endCondition x).plans = s.plans := rfl
@[simp] theorem State.endCondition_profiles (s : State) (x : FaultSource) : (s.endCondition x).profiles = s.profiles := rfl
@[simp] theorem State.endCondition_bindings (s : State) (x : FaultSource) : (s.endCondition x).bindings = s.bindings := rfl
@[simp] theorem State.endCondition_index (s : State) (x : FaultSource) : (s.endCondition x).index = s.index := rfl
@[simp] theorem State.endCondition_cache (s : State) (x : FaultSource) : (s.endCondition x).cache = s.cache := rfl
@[simp] theorem State.endCondition_port (s : State) (x : FaultSource) : (s.endCondition x).port = s.port := rfl
@[simp] theorem State.endCondition_lines (s : State) (x : FaultSource) : (s.endCondition x).lines = s.lines := rfl
@[simp] theorem State.endCondition_entries (s : State) (x : FaultSource) : (s.endCondition x).entries = s.entries := rfl
@[simp] theorem State.endCondition_journal (s : State) (x : FaultSource) : (s.endCondition x).journal = s.journal := rfl
@[simp] theorem State.endCondition_landing (s : State) (x : FaultSource) : (s.endCondition x).landing = s.landing := rfl
@[simp] theorem State.endCondition_muster (s : State) (x : FaultSource) : (s.endCondition x).muster = s.muster := rfl
@[simp] theorem State.endCondition_link (s : State) (x : FaultSource) : (s.endCondition x).link = s.link := rfl
@[simp] theorem State.endCondition_notices (s : State) (x : FaultSource) : (s.endCondition x).notices = s.notices := rfl
@[simp] theorem State.refreshFault_pending (s : State) : s.refreshFault.pending = s.pending := rfl
@[simp] theorem State.refreshFault_inReset (s : State) : s.refreshFault.inReset = s.inReset := rfl
@[simp] theorem State.refreshFault_straps (s : State) : s.refreshFault.straps = s.straps := rfl
@[simp] theorem State.refreshFault_startUp (s : State) : s.refreshFault.startUp = s.startUp := rfl
@[simp] theorem State.refreshFault_power (s : State) : s.refreshFault.power = s.power := rfl
@[simp] theorem State.refreshFault_mem (s : State) : s.refreshFault.mem = s.mem := rfl
@[simp] theorem State.refreshFault_clock (s : State) : s.refreshFault.clock = s.clock := rfl
@[simp] theorem State.refreshFault_settings (s : State) : s.refreshFault.settings = s.settings := rfl
@[simp] theorem State.refreshFault_plans (s : State) : s.refreshFault.plans = s.plans := rfl
@[simp] theorem State.refreshFault_profiles (s : State) : s.refreshFault.profiles = s.profiles := rfl
@[simp] theorem State.refreshFault_bindings (s : State) : s.refreshFault.bindings = s.bindings := rfl
@[simp] theorem State.refreshFault_index (s : State) : s.refreshFault.index = s.index := rfl
@[simp] theorem State.refreshFault_cache (s : State) : s.refreshFault.cache = s.cache := rfl
@[simp] theorem State.refreshFault_port (s : State) : s.refreshFault.port = s.port := rfl
@[simp] theorem State.refreshFault_lines (s : State) : s.refreshFault.lines = s.lines := rfl
@[simp] theorem State.refreshFault_entries (s : State) : s.refreshFault.entries = s.entries := rfl
@[simp] theorem State.refreshFault_journal (s : State) : s.refreshFault.journal = s.journal := rfl
@[simp] theorem State.refreshFault_landing (s : State) : s.refreshFault.landing = s.landing := rfl
@[simp] theorem State.refreshFault_muster (s : State) : s.refreshFault.muster = s.muster := rfl
@[simp] theorem State.refreshFault_router (s : State) : s.refreshFault.router = s.router := rfl
@[simp] theorem State.refreshFault_link (s : State) : s.refreshFault.link = s.link := rfl
@[simp] theorem State.refreshFault_notices (s : State) : s.refreshFault.notices = s.notices := rfl
@[simp] theorem State.askIsolation_pending (s : State) (n : Fin 4) (c : IsolateCause) : (s.askIsolation n c).pending = s.pending := rfl
@[simp] theorem State.askIsolation_inReset (s : State) (n : Fin 4) (c : IsolateCause) : (s.askIsolation n c).inReset = s.inReset := rfl
@[simp] theorem State.askIsolation_straps (s : State) (n : Fin 4) (c : IsolateCause) : (s.askIsolation n c).straps = s.straps := rfl
@[simp] theorem State.askIsolation_startUp (s : State) (n : Fin 4) (c : IsolateCause) : (s.askIsolation n c).startUp = s.startUp := rfl
@[simp] theorem State.askIsolation_power (s : State) (n : Fin 4) (c : IsolateCause) : (s.askIsolation n c).power = s.power := rfl
@[simp] theorem State.askIsolation_pins (s : State) (n : Fin 4) (c : IsolateCause) : (s.askIsolation n c).pins = s.pins := rfl
@[simp] theorem State.askIsolation_mem (s : State) (n : Fin 4) (c : IsolateCause) : (s.askIsolation n c).mem = s.mem := rfl
@[simp] theorem State.askIsolation_clock (s : State) (n : Fin 4) (c : IsolateCause) : (s.askIsolation n c).clock = s.clock := rfl
@[simp] theorem State.askIsolation_settings (s : State) (n : Fin 4) (c : IsolateCause) : (s.askIsolation n c).settings = s.settings := rfl
@[simp] theorem State.askIsolation_plans (s : State) (n : Fin 4) (c : IsolateCause) : (s.askIsolation n c).plans = s.plans := rfl
@[simp] theorem State.askIsolation_profiles (s : State) (n : Fin 4) (c : IsolateCause) : (s.askIsolation n c).profiles = s.profiles := rfl
@[simp] theorem State.askIsolation_bindings (s : State) (n : Fin 4) (c : IsolateCause) : (s.askIsolation n c).bindings = s.bindings := rfl
@[simp] theorem State.askIsolation_index (s : State) (n : Fin 4) (c : IsolateCause) : (s.askIsolation n c).index = s.index := rfl
@[simp] theorem State.askIsolation_cache (s : State) (n : Fin 4) (c : IsolateCause) : (s.askIsolation n c).cache = s.cache := rfl
@[simp] theorem State.askIsolation_port (s : State) (n : Fin 4) (c : IsolateCause) : (s.askIsolation n c).port = s.port := rfl
@[simp] theorem State.askIsolation_entries (s : State) (n : Fin 4) (c : IsolateCause) : (s.askIsolation n c).entries = s.entries := rfl
@[simp] theorem State.askIsolation_journal (s : State) (n : Fin 4) (c : IsolateCause) : (s.askIsolation n c).journal = s.journal := rfl
@[simp] theorem State.askIsolation_landing (s : State) (n : Fin 4) (c : IsolateCause) : (s.askIsolation n c).landing = s.landing := rfl
@[simp] theorem State.askIsolation_muster (s : State) (n : Fin 4) (c : IsolateCause) : (s.askIsolation n c).muster = s.muster := rfl
@[simp] theorem State.askIsolation_router (s : State) (n : Fin 4) (c : IsolateCause) : (s.askIsolation n c).router = s.router := rfl
@[simp] theorem State.askIsolation_link (s : State) (n : Fin 4) (c : IsolateCause) : (s.askIsolation n c).link = s.link := rfl
@[simp] theorem State.askIsolation_notices (s : State) (n : Fin 4) (c : IsolateCause) : (s.askIsolation n c).notices = s.notices := rfl
@[simp] theorem State.modEntry_pending (s : State) (l : Fin 4) (d : Nat) (f : Entry → Entry) : (s.modEntry l d f).pending = s.pending := rfl
@[simp] theorem State.modEntry_inReset (s : State) (l : Fin 4) (d : Nat) (f : Entry → Entry) : (s.modEntry l d f).inReset = s.inReset := rfl
@[simp] theorem State.modEntry_straps (s : State) (l : Fin 4) (d : Nat) (f : Entry → Entry) : (s.modEntry l d f).straps = s.straps := rfl
@[simp] theorem State.modEntry_startUp (s : State) (l : Fin 4) (d : Nat) (f : Entry → Entry) : (s.modEntry l d f).startUp = s.startUp := rfl
@[simp] theorem State.modEntry_power (s : State) (l : Fin 4) (d : Nat) (f : Entry → Entry) : (s.modEntry l d f).power = s.power := rfl
@[simp] theorem State.modEntry_pins (s : State) (l : Fin 4) (d : Nat) (f : Entry → Entry) : (s.modEntry l d f).pins = s.pins := rfl
@[simp] theorem State.modEntry_mem (s : State) (l : Fin 4) (d : Nat) (f : Entry → Entry) : (s.modEntry l d f).mem = s.mem := rfl
@[simp] theorem State.modEntry_clock (s : State) (l : Fin 4) (d : Nat) (f : Entry → Entry) : (s.modEntry l d f).clock = s.clock := rfl
@[simp] theorem State.modEntry_settings (s : State) (l : Fin 4) (d : Nat) (f : Entry → Entry) : (s.modEntry l d f).settings = s.settings := rfl
@[simp] theorem State.modEntry_plans (s : State) (l : Fin 4) (d : Nat) (f : Entry → Entry) : (s.modEntry l d f).plans = s.plans := rfl
@[simp] theorem State.modEntry_profiles (s : State) (l : Fin 4) (d : Nat) (f : Entry → Entry) : (s.modEntry l d f).profiles = s.profiles := rfl
@[simp] theorem State.modEntry_bindings (s : State) (l : Fin 4) (d : Nat) (f : Entry → Entry) : (s.modEntry l d f).bindings = s.bindings := rfl
@[simp] theorem State.modEntry_index (s : State) (l : Fin 4) (d : Nat) (f : Entry → Entry) : (s.modEntry l d f).index = s.index := rfl
@[simp] theorem State.modEntry_cache (s : State) (l : Fin 4) (d : Nat) (f : Entry → Entry) : (s.modEntry l d f).cache = s.cache := rfl
@[simp] theorem State.modEntry_port (s : State) (l : Fin 4) (d : Nat) (f : Entry → Entry) : (s.modEntry l d f).port = s.port := rfl
@[simp] theorem State.modEntry_lines (s : State) (l : Fin 4) (d : Nat) (f : Entry → Entry) : (s.modEntry l d f).lines = s.lines := rfl
@[simp] theorem State.modEntry_journal (s : State) (l : Fin 4) (d : Nat) (f : Entry → Entry) : (s.modEntry l d f).journal = s.journal := rfl
@[simp] theorem State.modEntry_landing (s : State) (l : Fin 4) (d : Nat) (f : Entry → Entry) : (s.modEntry l d f).landing = s.landing := rfl
@[simp] theorem State.modEntry_muster (s : State) (l : Fin 4) (d : Nat) (f : Entry → Entry) : (s.modEntry l d f).muster = s.muster := rfl
@[simp] theorem State.modEntry_router (s : State) (l : Fin 4) (d : Nat) (f : Entry → Entry) : (s.modEntry l d f).router = s.router := rfl
@[simp] theorem State.modEntry_link (s : State) (l : Fin 4) (d : Nat) (f : Entry → Entry) : (s.modEntry l d f).link = s.link := rfl
@[simp] theorem State.modEntry_notices (s : State) (l : Fin 4) (d : Nat) (f : Entry → Entry) : (s.modEntry l d f).notices = s.notices := rfl
@[simp] theorem State.modLine_pending (s : State) (n : Fin 4) (f : Line → Line) : (s.modLine n f).pending = s.pending := rfl
@[simp] theorem State.modLine_inReset (s : State) (n : Fin 4) (f : Line → Line) : (s.modLine n f).inReset = s.inReset := rfl
@[simp] theorem State.modLine_straps (s : State) (n : Fin 4) (f : Line → Line) : (s.modLine n f).straps = s.straps := rfl
@[simp] theorem State.modLine_startUp (s : State) (n : Fin 4) (f : Line → Line) : (s.modLine n f).startUp = s.startUp := rfl
@[simp] theorem State.modLine_power (s : State) (n : Fin 4) (f : Line → Line) : (s.modLine n f).power = s.power := rfl
@[simp] theorem State.modLine_pins (s : State) (n : Fin 4) (f : Line → Line) : (s.modLine n f).pins = s.pins := rfl
@[simp] theorem State.modLine_mem (s : State) (n : Fin 4) (f : Line → Line) : (s.modLine n f).mem = s.mem := rfl
@[simp] theorem State.modLine_clock (s : State) (n : Fin 4) (f : Line → Line) : (s.modLine n f).clock = s.clock := rfl
@[simp] theorem State.modLine_settings (s : State) (n : Fin 4) (f : Line → Line) : (s.modLine n f).settings = s.settings := rfl
@[simp] theorem State.modLine_plans (s : State) (n : Fin 4) (f : Line → Line) : (s.modLine n f).plans = s.plans := rfl
@[simp] theorem State.modLine_profiles (s : State) (n : Fin 4) (f : Line → Line) : (s.modLine n f).profiles = s.profiles := rfl
@[simp] theorem State.modLine_bindings (s : State) (n : Fin 4) (f : Line → Line) : (s.modLine n f).bindings = s.bindings := rfl
@[simp] theorem State.modLine_index (s : State) (n : Fin 4) (f : Line → Line) : (s.modLine n f).index = s.index := rfl
@[simp] theorem State.modLine_cache (s : State) (n : Fin 4) (f : Line → Line) : (s.modLine n f).cache = s.cache := rfl
@[simp] theorem State.modLine_port (s : State) (n : Fin 4) (f : Line → Line) : (s.modLine n f).port = s.port := rfl
@[simp] theorem State.modLine_entries (s : State) (n : Fin 4) (f : Line → Line) : (s.modLine n f).entries = s.entries := rfl
@[simp] theorem State.modLine_journal (s : State) (n : Fin 4) (f : Line → Line) : (s.modLine n f).journal = s.journal := rfl
@[simp] theorem State.modLine_landing (s : State) (n : Fin 4) (f : Line → Line) : (s.modLine n f).landing = s.landing := rfl
@[simp] theorem State.modLine_muster (s : State) (n : Fin 4) (f : Line → Line) : (s.modLine n f).muster = s.muster := rfl
@[simp] theorem State.modLine_router (s : State) (n : Fin 4) (f : Line → Line) : (s.modLine n f).router = s.router := rfl
@[simp] theorem State.modLine_link (s : State) (n : Fin 4) (f : Line → Line) : (s.modLine n f).link = s.link := rfl
@[simp] theorem State.modLine_notices (s : State) (n : Fin 4) (f : Line → Line) : (s.modLine n f).notices = s.notices := rfl
@[simp] theorem State.rebind_pending (s : State) (r : ReaderSerial) : (s.rebind r).pending = s.pending := rfl
@[simp] theorem State.rebind_inReset (s : State) (r : ReaderSerial) : (s.rebind r).inReset = s.inReset := rfl
@[simp] theorem State.rebind_straps (s : State) (r : ReaderSerial) : (s.rebind r).straps = s.straps := rfl
@[simp] theorem State.rebind_startUp (s : State) (r : ReaderSerial) : (s.rebind r).startUp = s.startUp := rfl
@[simp] theorem State.rebind_power (s : State) (r : ReaderSerial) : (s.rebind r).power = s.power := rfl
@[simp] theorem State.rebind_pins (s : State) (r : ReaderSerial) : (s.rebind r).pins = s.pins := rfl
@[simp] theorem State.rebind_mem (s : State) (r : ReaderSerial) : (s.rebind r).mem = s.mem := rfl
@[simp] theorem State.rebind_clock (s : State) (r : ReaderSerial) : (s.rebind r).clock = s.clock := rfl
@[simp] theorem State.rebind_settings (s : State) (r : ReaderSerial) : (s.rebind r).settings = s.settings := rfl
@[simp] theorem State.rebind_plans (s : State) (r : ReaderSerial) : (s.rebind r).plans = s.plans := rfl
@[simp] theorem State.rebind_profiles (s : State) (r : ReaderSerial) : (s.rebind r).profiles = s.profiles := rfl
@[simp] theorem State.rebind_bindings (s : State) (r : ReaderSerial) : (s.rebind r).bindings = s.bindings := rfl
@[simp] theorem State.rebind_index (s : State) (r : ReaderSerial) : (s.rebind r).index = s.index := rfl
@[simp] theorem State.rebind_cache (s : State) (r : ReaderSerial) : (s.rebind r).cache = s.cache := rfl
@[simp] theorem State.rebind_port (s : State) (r : ReaderSerial) : (s.rebind r).port = s.port := rfl
@[simp] theorem State.rebind_lines (s : State) (r : ReaderSerial) : (s.rebind r).lines = s.lines := rfl
@[simp] theorem State.rebind_journal (s : State) (r : ReaderSerial) : (s.rebind r).journal = s.journal := rfl
@[simp] theorem State.rebind_landing (s : State) (r : ReaderSerial) : (s.rebind r).landing = s.landing := rfl
@[simp] theorem State.rebind_muster (s : State) (r : ReaderSerial) : (s.rebind r).muster = s.muster := rfl
@[simp] theorem State.rebind_router (s : State) (r : ReaderSerial) : (s.rebind r).router = s.router := rfl
@[simp] theorem State.rebind_link (s : State) (r : ReaderSerial) : (s.rebind r).link = s.link := rfl
@[simp] theorem State.rebind_notices (s : State) (r : ReaderSerial) : (s.rebind r).notices = s.notices := rfl
@[simp] theorem State.indexCard_pending (s : State) (c : CardId) (n : Fin 2048) (k : Fin 2) : (s.indexCard c n k).pending = s.pending := rfl
@[simp] theorem State.indexCard_inReset (s : State) (c : CardId) (n : Fin 2048) (k : Fin 2) : (s.indexCard c n k).inReset = s.inReset := rfl
@[simp] theorem State.indexCard_straps (s : State) (c : CardId) (n : Fin 2048) (k : Fin 2) : (s.indexCard c n k).straps = s.straps := rfl
@[simp] theorem State.indexCard_startUp (s : State) (c : CardId) (n : Fin 2048) (k : Fin 2) : (s.indexCard c n k).startUp = s.startUp := rfl
@[simp] theorem State.indexCard_power (s : State) (c : CardId) (n : Fin 2048) (k : Fin 2) : (s.indexCard c n k).power = s.power := rfl
@[simp] theorem State.indexCard_pins (s : State) (c : CardId) (n : Fin 2048) (k : Fin 2) : (s.indexCard c n k).pins = s.pins := rfl
@[simp] theorem State.indexCard_mem (s : State) (c : CardId) (n : Fin 2048) (k : Fin 2) : (s.indexCard c n k).mem = s.mem := rfl
@[simp] theorem State.indexCard_clock (s : State) (c : CardId) (n : Fin 2048) (k : Fin 2) : (s.indexCard c n k).clock = s.clock := rfl
@[simp] theorem State.indexCard_settings (s : State) (c : CardId) (n : Fin 2048) (k : Fin 2) : (s.indexCard c n k).settings = s.settings := rfl
@[simp] theorem State.indexCard_plans (s : State) (c : CardId) (n : Fin 2048) (k : Fin 2) : (s.indexCard c n k).plans = s.plans := rfl
@[simp] theorem State.indexCard_profiles (s : State) (c : CardId) (n : Fin 2048) (k : Fin 2) : (s.indexCard c n k).profiles = s.profiles := rfl
@[simp] theorem State.indexCard_bindings (s : State) (c : CardId) (n : Fin 2048) (k : Fin 2) : (s.indexCard c n k).bindings = s.bindings := rfl
@[simp] theorem State.indexCard_cache (s : State) (c : CardId) (n : Fin 2048) (k : Fin 2) : (s.indexCard c n k).cache = s.cache := rfl
@[simp] theorem State.indexCard_port (s : State) (c : CardId) (n : Fin 2048) (k : Fin 2) : (s.indexCard c n k).port = s.port := rfl
@[simp] theorem State.indexCard_lines (s : State) (c : CardId) (n : Fin 2048) (k : Fin 2) : (s.indexCard c n k).lines = s.lines := rfl
@[simp] theorem State.indexCard_entries (s : State) (c : CardId) (n : Fin 2048) (k : Fin 2) : (s.indexCard c n k).entries = s.entries := rfl
@[simp] theorem State.indexCard_journal (s : State) (c : CardId) (n : Fin 2048) (k : Fin 2) : (s.indexCard c n k).journal = s.journal := rfl
@[simp] theorem State.indexCard_landing (s : State) (c : CardId) (n : Fin 2048) (k : Fin 2) : (s.indexCard c n k).landing = s.landing := rfl
@[simp] theorem State.indexCard_muster (s : State) (c : CardId) (n : Fin 2048) (k : Fin 2) : (s.indexCard c n k).muster = s.muster := rfl
@[simp] theorem State.indexCard_router (s : State) (c : CardId) (n : Fin 2048) (k : Fin 2) : (s.indexCard c n k).router = s.router := rfl
@[simp] theorem State.indexCard_link (s : State) (c : CardId) (n : Fin 2048) (k : Fin 2) : (s.indexCard c n k).link = s.link := rfl
@[simp] theorem State.indexCard_notices (s : State) (c : CardId) (n : Fin 2048) (k : Fin 2) : (s.indexCard c n k).notices = s.notices := rfl
@[simp] theorem State.unindexCard_pending (s : State) (c : CardId) (n : Fin 2048) (k : Fin 2) : (s.unindexCard c n k).pending = s.pending := rfl
@[simp] theorem State.unindexCard_inReset (s : State) (c : CardId) (n : Fin 2048) (k : Fin 2) : (s.unindexCard c n k).inReset = s.inReset := rfl
@[simp] theorem State.unindexCard_straps (s : State) (c : CardId) (n : Fin 2048) (k : Fin 2) : (s.unindexCard c n k).straps = s.straps := rfl
@[simp] theorem State.unindexCard_startUp (s : State) (c : CardId) (n : Fin 2048) (k : Fin 2) : (s.unindexCard c n k).startUp = s.startUp := rfl
@[simp] theorem State.unindexCard_power (s : State) (c : CardId) (n : Fin 2048) (k : Fin 2) : (s.unindexCard c n k).power = s.power := rfl
@[simp] theorem State.unindexCard_pins (s : State) (c : CardId) (n : Fin 2048) (k : Fin 2) : (s.unindexCard c n k).pins = s.pins := rfl
@[simp] theorem State.unindexCard_mem (s : State) (c : CardId) (n : Fin 2048) (k : Fin 2) : (s.unindexCard c n k).mem = s.mem := rfl
@[simp] theorem State.unindexCard_clock (s : State) (c : CardId) (n : Fin 2048) (k : Fin 2) : (s.unindexCard c n k).clock = s.clock := rfl
@[simp] theorem State.unindexCard_settings (s : State) (c : CardId) (n : Fin 2048) (k : Fin 2) : (s.unindexCard c n k).settings = s.settings := rfl
@[simp] theorem State.unindexCard_plans (s : State) (c : CardId) (n : Fin 2048) (k : Fin 2) : (s.unindexCard c n k).plans = s.plans := rfl
@[simp] theorem State.unindexCard_profiles (s : State) (c : CardId) (n : Fin 2048) (k : Fin 2) : (s.unindexCard c n k).profiles = s.profiles := rfl
@[simp] theorem State.unindexCard_bindings (s : State) (c : CardId) (n : Fin 2048) (k : Fin 2) : (s.unindexCard c n k).bindings = s.bindings := rfl
@[simp] theorem State.unindexCard_cache (s : State) (c : CardId) (n : Fin 2048) (k : Fin 2) : (s.unindexCard c n k).cache = s.cache := rfl
@[simp] theorem State.unindexCard_port (s : State) (c : CardId) (n : Fin 2048) (k : Fin 2) : (s.unindexCard c n k).port = s.port := rfl
@[simp] theorem State.unindexCard_lines (s : State) (c : CardId) (n : Fin 2048) (k : Fin 2) : (s.unindexCard c n k).lines = s.lines := rfl
@[simp] theorem State.unindexCard_entries (s : State) (c : CardId) (n : Fin 2048) (k : Fin 2) : (s.unindexCard c n k).entries = s.entries := rfl
@[simp] theorem State.unindexCard_journal (s : State) (c : CardId) (n : Fin 2048) (k : Fin 2) : (s.unindexCard c n k).journal = s.journal := rfl
@[simp] theorem State.unindexCard_landing (s : State) (c : CardId) (n : Fin 2048) (k : Fin 2) : (s.unindexCard c n k).landing = s.landing := rfl
@[simp] theorem State.unindexCard_muster (s : State) (c : CardId) (n : Fin 2048) (k : Fin 2) : (s.unindexCard c n k).muster = s.muster := rfl
@[simp] theorem State.unindexCard_router (s : State) (c : CardId) (n : Fin 2048) (k : Fin 2) : (s.unindexCard c n k).router = s.router := rfl
@[simp] theorem State.unindexCard_link (s : State) (c : CardId) (n : Fin 2048) (k : Fin 2) : (s.unindexCard c n k).link = s.link := rfl
@[simp] theorem State.unindexCard_notices (s : State) (c : CardId) (n : Fin 2048) (k : Fin 2) : (s.unindexCard c n k).notices = s.notices := rfl
@[simp] theorem State.setSite_pending (s : State) (t : Fin 4) (x : Site) : (s.setSite t x).pending = s.pending := rfl
@[simp] theorem State.setSite_inReset (s : State) (t : Fin 4) (x : Site) : (s.setSite t x).inReset = s.inReset := rfl
@[simp] theorem State.setSite_straps (s : State) (t : Fin 4) (x : Site) : (s.setSite t x).straps = s.straps := rfl
@[simp] theorem State.setSite_startUp (s : State) (t : Fin 4) (x : Site) : (s.setSite t x).startUp = s.startUp := rfl
@[simp] theorem State.setSite_power (s : State) (t : Fin 4) (x : Site) : (s.setSite t x).power = s.power := rfl
@[simp] theorem State.setSite_pins (s : State) (t : Fin 4) (x : Site) : (s.setSite t x).pins = s.pins := rfl
@[simp] theorem State.setSite_mem (s : State) (t : Fin 4) (x : Site) : (s.setSite t x).mem = s.mem := rfl
@[simp] theorem State.setSite_clock (s : State) (t : Fin 4) (x : Site) : (s.setSite t x).clock = s.clock := rfl
@[simp] theorem State.setSite_settings (s : State) (t : Fin 4) (x : Site) : (s.setSite t x).settings = s.settings := rfl
@[simp] theorem State.setSite_plans (s : State) (t : Fin 4) (x : Site) : (s.setSite t x).plans = s.plans := rfl
@[simp] theorem State.setSite_profiles (s : State) (t : Fin 4) (x : Site) : (s.setSite t x).profiles = s.profiles := rfl
@[simp] theorem State.setSite_bindings (s : State) (t : Fin 4) (x : Site) : (s.setSite t x).bindings = s.bindings := rfl
@[simp] theorem State.setSite_index (s : State) (t : Fin 4) (x : Site) : (s.setSite t x).index = s.index := rfl
@[simp] theorem State.setSite_cache (s : State) (t : Fin 4) (x : Site) : (s.setSite t x).cache = s.cache := rfl
@[simp] theorem State.setSite_port (s : State) (t : Fin 4) (x : Site) : (s.setSite t x).port = s.port := rfl
@[simp] theorem State.setSite_lines (s : State) (t : Fin 4) (x : Site) : (s.setSite t x).lines = s.lines := rfl
@[simp] theorem State.setSite_entries (s : State) (t : Fin 4) (x : Site) : (s.setSite t x).entries = s.entries := rfl
@[simp] theorem State.setSite_journal (s : State) (t : Fin 4) (x : Site) : (s.setSite t x).journal = s.journal := rfl
@[simp] theorem State.setSite_muster (s : State) (t : Fin 4) (x : Site) : (s.setSite t x).muster = s.muster := rfl
@[simp] theorem State.setSite_router (s : State) (t : Fin 4) (x : Site) : (s.setSite t x).router = s.router := rfl
@[simp] theorem State.setSite_link (s : State) (t : Fin 4) (x : Site) : (s.setSite t x).link = s.link := rfl
@[simp] theorem State.setSite_notices (s : State) (t : Fin 4) (x : Site) : (s.setSite t x).notices = s.notices := rfl
@[simp] theorem State.markCommits_pending (s : State) (n : Fin 4) (d : Nat) (r : CommitReader) : (s.markCommits n d r).pending = s.pending := rfl
@[simp] theorem State.markCommits_inReset (s : State) (n : Fin 4) (d : Nat) (r : CommitReader) : (s.markCommits n d r).inReset = s.inReset := rfl
@[simp] theorem State.markCommits_straps (s : State) (n : Fin 4) (d : Nat) (r : CommitReader) : (s.markCommits n d r).straps = s.straps := rfl
@[simp] theorem State.markCommits_startUp (s : State) (n : Fin 4) (d : Nat) (r : CommitReader) : (s.markCommits n d r).startUp = s.startUp := rfl
@[simp] theorem State.markCommits_power (s : State) (n : Fin 4) (d : Nat) (r : CommitReader) : (s.markCommits n d r).power = s.power := rfl
@[simp] theorem State.markCommits_pins (s : State) (n : Fin 4) (d : Nat) (r : CommitReader) : (s.markCommits n d r).pins = s.pins := rfl
@[simp] theorem State.markCommits_mem (s : State) (n : Fin 4) (d : Nat) (r : CommitReader) : (s.markCommits n d r).mem = s.mem := rfl
@[simp] theorem State.markCommits_clock (s : State) (n : Fin 4) (d : Nat) (r : CommitReader) : (s.markCommits n d r).clock = s.clock := rfl
@[simp] theorem State.markCommits_settings (s : State) (n : Fin 4) (d : Nat) (r : CommitReader) : (s.markCommits n d r).settings = s.settings := rfl
@[simp] theorem State.markCommits_plans (s : State) (n : Fin 4) (d : Nat) (r : CommitReader) : (s.markCommits n d r).plans = s.plans := rfl
@[simp] theorem State.markCommits_profiles (s : State) (n : Fin 4) (d : Nat) (r : CommitReader) : (s.markCommits n d r).profiles = s.profiles := rfl
@[simp] theorem State.markCommits_bindings (s : State) (n : Fin 4) (d : Nat) (r : CommitReader) : (s.markCommits n d r).bindings = s.bindings := rfl
@[simp] theorem State.markCommits_index (s : State) (n : Fin 4) (d : Nat) (r : CommitReader) : (s.markCommits n d r).index = s.index := rfl
@[simp] theorem State.markCommits_cache (s : State) (n : Fin 4) (d : Nat) (r : CommitReader) : (s.markCommits n d r).cache = s.cache := rfl
@[simp] theorem State.markCommits_port (s : State) (n : Fin 4) (d : Nat) (r : CommitReader) : (s.markCommits n d r).port = s.port := rfl
@[simp] theorem State.markCommits_lines (s : State) (n : Fin 4) (d : Nat) (r : CommitReader) : (s.markCommits n d r).lines = s.lines := rfl
@[simp] theorem State.markCommits_entries (s : State) (n : Fin 4) (d : Nat) (r : CommitReader) : (s.markCommits n d r).entries = s.entries := rfl
@[simp] theorem State.markCommits_landing (s : State) (n : Fin 4) (d : Nat) (r : CommitReader) : (s.markCommits n d r).landing = s.landing := rfl
@[simp] theorem State.markCommits_muster (s : State) (n : Fin 4) (d : Nat) (r : CommitReader) : (s.markCommits n d r).muster = s.muster := rfl
@[simp] theorem State.markCommits_router (s : State) (n : Fin 4) (d : Nat) (r : CommitReader) : (s.markCommits n d r).router = s.router := rfl
@[simp] theorem State.markCommits_link (s : State) (n : Fin 4) (d : Nat) (r : CommitReader) : (s.markCommits n d r).link = s.link := rfl
@[simp] theorem State.markCommits_notices (s : State) (n : Fin 4) (d : Nat) (r : CommitReader) : (s.markCommits n d r).notices = s.notices := rfl
@[simp] theorem State.censusSkip_pending (s : State) (n : Fin 2048) : (s.censusSkip n).pending = s.pending := rfl
@[simp] theorem State.censusSkip_inReset (s : State) (n : Fin 2048) : (s.censusSkip n).inReset = s.inReset := rfl
@[simp] theorem State.censusSkip_straps (s : State) (n : Fin 2048) : (s.censusSkip n).straps = s.straps := rfl
@[simp] theorem State.censusSkip_startUp (s : State) (n : Fin 2048) : (s.censusSkip n).startUp = s.startUp := rfl
@[simp] theorem State.censusSkip_power (s : State) (n : Fin 2048) : (s.censusSkip n).power = s.power := rfl
@[simp] theorem State.censusSkip_pins (s : State) (n : Fin 2048) : (s.censusSkip n).pins = s.pins := rfl
@[simp] theorem State.censusSkip_mem (s : State) (n : Fin 2048) : (s.censusSkip n).mem = s.mem := rfl
@[simp] theorem State.censusSkip_clock (s : State) (n : Fin 2048) : (s.censusSkip n).clock = s.clock := rfl
@[simp] theorem State.censusSkip_settings (s : State) (n : Fin 2048) : (s.censusSkip n).settings = s.settings := rfl
@[simp] theorem State.censusSkip_plans (s : State) (n : Fin 2048) : (s.censusSkip n).plans = s.plans := rfl
@[simp] theorem State.censusSkip_profiles (s : State) (n : Fin 2048) : (s.censusSkip n).profiles = s.profiles := rfl
@[simp] theorem State.censusSkip_bindings (s : State) (n : Fin 2048) : (s.censusSkip n).bindings = s.bindings := rfl
@[simp] theorem State.censusSkip_index (s : State) (n : Fin 2048) : (s.censusSkip n).index = s.index := rfl
@[simp] theorem State.censusSkip_cache (s : State) (n : Fin 2048) : (s.censusSkip n).cache = s.cache := rfl
@[simp] theorem State.censusSkip_port (s : State) (n : Fin 2048) : (s.censusSkip n).port = s.port := rfl
@[simp] theorem State.censusSkip_lines (s : State) (n : Fin 2048) : (s.censusSkip n).lines = s.lines := rfl
@[simp] theorem State.censusSkip_entries (s : State) (n : Fin 2048) : (s.censusSkip n).entries = s.entries := rfl
@[simp] theorem State.censusSkip_journal (s : State) (n : Fin 2048) : (s.censusSkip n).journal = s.journal := rfl
@[simp] theorem State.censusSkip_muster (s : State) (n : Fin 2048) : (s.censusSkip n).muster = s.muster := rfl
@[simp] theorem State.censusSkip_router (s : State) (n : Fin 2048) : (s.censusSkip n).router = s.router := rfl
@[simp] theorem State.censusSkip_link (s : State) (n : Fin 2048) : (s.censusSkip n).link = s.link := rfl
@[simp] theorem State.censusSkip_notices (s : State) (n : Fin 2048) : (s.censusSkip n).notices = s.notices := rfl
@[simp] theorem State.goAboard_pending (s : State) (x : AboardEntry) : (s.goAboard x).pending = s.pending := rfl
@[simp] theorem State.goAboard_inReset (s : State) (x : AboardEntry) : (s.goAboard x).inReset = s.inReset := rfl
@[simp] theorem State.goAboard_straps (s : State) (x : AboardEntry) : (s.goAboard x).straps = s.straps := rfl
@[simp] theorem State.goAboard_startUp (s : State) (x : AboardEntry) : (s.goAboard x).startUp = s.startUp := rfl
@[simp] theorem State.goAboard_power (s : State) (x : AboardEntry) : (s.goAboard x).power = s.power := rfl
@[simp] theorem State.goAboard_pins (s : State) (x : AboardEntry) : (s.goAboard x).pins = s.pins := rfl
@[simp] theorem State.goAboard_mem (s : State) (x : AboardEntry) : (s.goAboard x).mem = s.mem := rfl
@[simp] theorem State.goAboard_clock (s : State) (x : AboardEntry) : (s.goAboard x).clock = s.clock := rfl
@[simp] theorem State.goAboard_settings (s : State) (x : AboardEntry) : (s.goAboard x).settings = s.settings := rfl
@[simp] theorem State.goAboard_plans (s : State) (x : AboardEntry) : (s.goAboard x).plans = s.plans := rfl
@[simp] theorem State.goAboard_profiles (s : State) (x : AboardEntry) : (s.goAboard x).profiles = s.profiles := rfl
@[simp] theorem State.goAboard_bindings (s : State) (x : AboardEntry) : (s.goAboard x).bindings = s.bindings := rfl
@[simp] theorem State.goAboard_index (s : State) (x : AboardEntry) : (s.goAboard x).index = s.index := rfl
@[simp] theorem State.goAboard_cache (s : State) (x : AboardEntry) : (s.goAboard x).cache = s.cache := rfl
@[simp] theorem State.goAboard_port (s : State) (x : AboardEntry) : (s.goAboard x).port = s.port := rfl
@[simp] theorem State.goAboard_lines (s : State) (x : AboardEntry) : (s.goAboard x).lines = s.lines := rfl
@[simp] theorem State.goAboard_entries (s : State) (x : AboardEntry) : (s.goAboard x).entries = s.entries := rfl
@[simp] theorem State.goAboard_journal (s : State) (x : AboardEntry) : (s.goAboard x).journal = s.journal := rfl
@[simp] theorem State.goAboard_router (s : State) (x : AboardEntry) : (s.goAboard x).router = s.router := rfl
@[simp] theorem State.goAboard_link (s : State) (x : AboardEntry) : (s.goAboard x).link = s.link := rfl
@[simp] theorem State.goAboard_notices (s : State) (x : AboardEntry) : (s.goAboard x).notices = s.notices := rfl
@[simp] theorem State.leaveAboard_pending (s : State) (x : AboardEntry) : (s.leaveAboard x).pending = s.pending := rfl
@[simp] theorem State.leaveAboard_inReset (s : State) (x : AboardEntry) : (s.leaveAboard x).inReset = s.inReset := rfl
@[simp] theorem State.leaveAboard_straps (s : State) (x : AboardEntry) : (s.leaveAboard x).straps = s.straps := rfl
@[simp] theorem State.leaveAboard_startUp (s : State) (x : AboardEntry) : (s.leaveAboard x).startUp = s.startUp := rfl
@[simp] theorem State.leaveAboard_power (s : State) (x : AboardEntry) : (s.leaveAboard x).power = s.power := rfl
@[simp] theorem State.leaveAboard_pins (s : State) (x : AboardEntry) : (s.leaveAboard x).pins = s.pins := rfl
@[simp] theorem State.leaveAboard_mem (s : State) (x : AboardEntry) : (s.leaveAboard x).mem = s.mem := rfl
@[simp] theorem State.leaveAboard_clock (s : State) (x : AboardEntry) : (s.leaveAboard x).clock = s.clock := rfl
@[simp] theorem State.leaveAboard_settings (s : State) (x : AboardEntry) : (s.leaveAboard x).settings = s.settings := rfl
@[simp] theorem State.leaveAboard_plans (s : State) (x : AboardEntry) : (s.leaveAboard x).plans = s.plans := rfl
@[simp] theorem State.leaveAboard_profiles (s : State) (x : AboardEntry) : (s.leaveAboard x).profiles = s.profiles := rfl
@[simp] theorem State.leaveAboard_bindings (s : State) (x : AboardEntry) : (s.leaveAboard x).bindings = s.bindings := rfl
@[simp] theorem State.leaveAboard_index (s : State) (x : AboardEntry) : (s.leaveAboard x).index = s.index := rfl
@[simp] theorem State.leaveAboard_cache (s : State) (x : AboardEntry) : (s.leaveAboard x).cache = s.cache := rfl
@[simp] theorem State.leaveAboard_port (s : State) (x : AboardEntry) : (s.leaveAboard x).port = s.port := rfl
@[simp] theorem State.leaveAboard_lines (s : State) (x : AboardEntry) : (s.leaveAboard x).lines = s.lines := rfl
@[simp] theorem State.leaveAboard_entries (s : State) (x : AboardEntry) : (s.leaveAboard x).entries = s.entries := rfl
@[simp] theorem State.leaveAboard_journal (s : State) (x : AboardEntry) : (s.leaveAboard x).journal = s.journal := rfl
@[simp] theorem State.leaveAboard_router (s : State) (x : AboardEntry) : (s.leaveAboard x).router = s.router := rfl
@[simp] theorem State.leaveAboard_link (s : State) (x : AboardEntry) : (s.leaveAboard x).link = s.link := rfl
@[simp] theorem State.leaveAboard_notices (s : State) (x : AboardEntry) : (s.leaveAboard x).notices = s.notices := rfl
@[simp] theorem State.restation_pending (s : State) (n : Fin 2048) (x : Fin 8) : (s.restation n x).pending = s.pending := rfl
@[simp] theorem State.restation_inReset (s : State) (n : Fin 2048) (x : Fin 8) : (s.restation n x).inReset = s.inReset := rfl
@[simp] theorem State.restation_straps (s : State) (n : Fin 2048) (x : Fin 8) : (s.restation n x).straps = s.straps := rfl
@[simp] theorem State.restation_startUp (s : State) (n : Fin 2048) (x : Fin 8) : (s.restation n x).startUp = s.startUp := rfl
@[simp] theorem State.restation_power (s : State) (n : Fin 2048) (x : Fin 8) : (s.restation n x).power = s.power := rfl
@[simp] theorem State.restation_pins (s : State) (n : Fin 2048) (x : Fin 8) : (s.restation n x).pins = s.pins := rfl
@[simp] theorem State.restation_mem (s : State) (n : Fin 2048) (x : Fin 8) : (s.restation n x).mem = s.mem := rfl
@[simp] theorem State.restation_clock (s : State) (n : Fin 2048) (x : Fin 8) : (s.restation n x).clock = s.clock := rfl
@[simp] theorem State.restation_settings (s : State) (n : Fin 2048) (x : Fin 8) : (s.restation n x).settings = s.settings := rfl
@[simp] theorem State.restation_plans (s : State) (n : Fin 2048) (x : Fin 8) : (s.restation n x).plans = s.plans := rfl
@[simp] theorem State.restation_profiles (s : State) (n : Fin 2048) (x : Fin 8) : (s.restation n x).profiles = s.profiles := rfl
@[simp] theorem State.restation_bindings (s : State) (n : Fin 2048) (x : Fin 8) : (s.restation n x).bindings = s.bindings := rfl
@[simp] theorem State.restation_index (s : State) (n : Fin 2048) (x : Fin 8) : (s.restation n x).index = s.index := rfl
@[simp] theorem State.restation_cache (s : State) (n : Fin 2048) (x : Fin 8) : (s.restation n x).cache = s.cache := rfl
@[simp] theorem State.restation_port (s : State) (n : Fin 2048) (x : Fin 8) : (s.restation n x).port = s.port := rfl
@[simp] theorem State.restation_lines (s : State) (n : Fin 2048) (x : Fin 8) : (s.restation n x).lines = s.lines := rfl
@[simp] theorem State.restation_entries (s : State) (n : Fin 2048) (x : Fin 8) : (s.restation n x).entries = s.entries := rfl
@[simp] theorem State.restation_journal (s : State) (n : Fin 2048) (x : Fin 8) : (s.restation n x).journal = s.journal := rfl
@[simp] theorem State.restation_router (s : State) (n : Fin 2048) (x : Fin 8) : (s.restation n x).router = s.router := rfl
@[simp] theorem State.restation_link (s : State) (n : Fin 2048) (x : Fin 8) : (s.restation n x).link = s.link := rfl
@[simp] theorem State.restation_notices (s : State) (n : Fin 2048) (x : Fin 8) : (s.restation n x).notices = s.notices := rfl
@[simp] theorem State.goAshore_pending (s : State) (e : RosterEntry) : (s.goAshore e).pending = s.pending := rfl
@[simp] theorem State.goAshore_inReset (s : State) (e : RosterEntry) : (s.goAshore e).inReset = s.inReset := rfl
@[simp] theorem State.goAshore_straps (s : State) (e : RosterEntry) : (s.goAshore e).straps = s.straps := rfl
@[simp] theorem State.goAshore_startUp (s : State) (e : RosterEntry) : (s.goAshore e).startUp = s.startUp := rfl
@[simp] theorem State.goAshore_power (s : State) (e : RosterEntry) : (s.goAshore e).power = s.power := rfl
@[simp] theorem State.goAshore_pins (s : State) (e : RosterEntry) : (s.goAshore e).pins = s.pins := rfl
@[simp] theorem State.goAshore_mem (s : State) (e : RosterEntry) : (s.goAshore e).mem = s.mem := rfl
@[simp] theorem State.goAshore_clock (s : State) (e : RosterEntry) : (s.goAshore e).clock = s.clock := rfl
@[simp] theorem State.goAshore_settings (s : State) (e : RosterEntry) : (s.goAshore e).settings = s.settings := rfl
@[simp] theorem State.goAshore_plans (s : State) (e : RosterEntry) : (s.goAshore e).plans = s.plans := rfl
@[simp] theorem State.goAshore_profiles (s : State) (e : RosterEntry) : (s.goAshore e).profiles = s.profiles := rfl
@[simp] theorem State.goAshore_bindings (s : State) (e : RosterEntry) : (s.goAshore e).bindings = s.bindings := rfl
@[simp] theorem State.goAshore_index (s : State) (e : RosterEntry) : (s.goAshore e).index = s.index := rfl
@[simp] theorem State.goAshore_cache (s : State) (e : RosterEntry) : (s.goAshore e).cache = s.cache := rfl
@[simp] theorem State.goAshore_port (s : State) (e : RosterEntry) : (s.goAshore e).port = s.port := rfl
@[simp] theorem State.goAshore_lines (s : State) (e : RosterEntry) : (s.goAshore e).lines = s.lines := rfl
@[simp] theorem State.goAshore_entries (s : State) (e : RosterEntry) : (s.goAshore e).entries = s.entries := rfl
@[simp] theorem State.goAshore_journal (s : State) (e : RosterEntry) : (s.goAshore e).journal = s.journal := rfl
@[simp] theorem State.goAshore_muster (s : State) (e : RosterEntry) : (s.goAshore e).muster = s.muster := rfl
@[simp] theorem State.goAshore_router (s : State) (e : RosterEntry) : (s.goAshore e).router = s.router := rfl
@[simp] theorem State.goAshore_link (s : State) (e : RosterEntry) : (s.goAshore e).link = s.link := rfl
@[simp] theorem State.goAshore_notices (s : State) (e : RosterEntry) : (s.goAshore e).notices = s.notices := rfl
@[simp] theorem State.leaveRoster_pending (s : State) (e : RosterEntry) : (s.leaveRoster e).pending = s.pending := rfl
@[simp] theorem State.leaveRoster_inReset (s : State) (e : RosterEntry) : (s.leaveRoster e).inReset = s.inReset := rfl
@[simp] theorem State.leaveRoster_straps (s : State) (e : RosterEntry) : (s.leaveRoster e).straps = s.straps := rfl
@[simp] theorem State.leaveRoster_startUp (s : State) (e : RosterEntry) : (s.leaveRoster e).startUp = s.startUp := rfl
@[simp] theorem State.leaveRoster_power (s : State) (e : RosterEntry) : (s.leaveRoster e).power = s.power := rfl
@[simp] theorem State.leaveRoster_pins (s : State) (e : RosterEntry) : (s.leaveRoster e).pins = s.pins := rfl
@[simp] theorem State.leaveRoster_mem (s : State) (e : RosterEntry) : (s.leaveRoster e).mem = s.mem := rfl
@[simp] theorem State.leaveRoster_clock (s : State) (e : RosterEntry) : (s.leaveRoster e).clock = s.clock := rfl
@[simp] theorem State.leaveRoster_settings (s : State) (e : RosterEntry) : (s.leaveRoster e).settings = s.settings := rfl
@[simp] theorem State.leaveRoster_plans (s : State) (e : RosterEntry) : (s.leaveRoster e).plans = s.plans := rfl
@[simp] theorem State.leaveRoster_profiles (s : State) (e : RosterEntry) : (s.leaveRoster e).profiles = s.profiles := rfl
@[simp] theorem State.leaveRoster_bindings (s : State) (e : RosterEntry) : (s.leaveRoster e).bindings = s.bindings := rfl
@[simp] theorem State.leaveRoster_index (s : State) (e : RosterEntry) : (s.leaveRoster e).index = s.index := rfl
@[simp] theorem State.leaveRoster_cache (s : State) (e : RosterEntry) : (s.leaveRoster e).cache = s.cache := rfl
@[simp] theorem State.leaveRoster_port (s : State) (e : RosterEntry) : (s.leaveRoster e).port = s.port := rfl
@[simp] theorem State.leaveRoster_lines (s : State) (e : RosterEntry) : (s.leaveRoster e).lines = s.lines := rfl
@[simp] theorem State.leaveRoster_entries (s : State) (e : RosterEntry) : (s.leaveRoster e).entries = s.entries := rfl
@[simp] theorem State.leaveRoster_journal (s : State) (e : RosterEntry) : (s.leaveRoster e).journal = s.journal := rfl
@[simp] theorem State.leaveRoster_muster (s : State) (e : RosterEntry) : (s.leaveRoster e).muster = s.muster := rfl
@[simp] theorem State.leaveRoster_router (s : State) (e : RosterEntry) : (s.leaveRoster e).router = s.router := rfl
@[simp] theorem State.leaveRoster_link (s : State) (e : RosterEntry) : (s.leaveRoster e).link = s.link := rfl
@[simp] theorem State.leaveRoster_notices (s : State) (e : RosterEntry) : (s.leaveRoster e).notices = s.notices := rfl
@[simp] theorem State.recastRoster_pending (s : State) (e : RosterEntry) (c : Category) : (s.recastRoster e c).pending = s.pending := rfl
@[simp] theorem State.recastRoster_inReset (s : State) (e : RosterEntry) (c : Category) : (s.recastRoster e c).inReset = s.inReset := rfl
@[simp] theorem State.recastRoster_straps (s : State) (e : RosterEntry) (c : Category) : (s.recastRoster e c).straps = s.straps := rfl
@[simp] theorem State.recastRoster_startUp (s : State) (e : RosterEntry) (c : Category) : (s.recastRoster e c).startUp = s.startUp := rfl
@[simp] theorem State.recastRoster_power (s : State) (e : RosterEntry) (c : Category) : (s.recastRoster e c).power = s.power := rfl
@[simp] theorem State.recastRoster_pins (s : State) (e : RosterEntry) (c : Category) : (s.recastRoster e c).pins = s.pins := rfl
@[simp] theorem State.recastRoster_mem (s : State) (e : RosterEntry) (c : Category) : (s.recastRoster e c).mem = s.mem := rfl
@[simp] theorem State.recastRoster_clock (s : State) (e : RosterEntry) (c : Category) : (s.recastRoster e c).clock = s.clock := rfl
@[simp] theorem State.recastRoster_settings (s : State) (e : RosterEntry) (c : Category) : (s.recastRoster e c).settings = s.settings := rfl
@[simp] theorem State.recastRoster_plans (s : State) (e : RosterEntry) (c : Category) : (s.recastRoster e c).plans = s.plans := rfl
@[simp] theorem State.recastRoster_profiles (s : State) (e : RosterEntry) (c : Category) : (s.recastRoster e c).profiles = s.profiles := rfl
@[simp] theorem State.recastRoster_bindings (s : State) (e : RosterEntry) (c : Category) : (s.recastRoster e c).bindings = s.bindings := rfl
@[simp] theorem State.recastRoster_index (s : State) (e : RosterEntry) (c : Category) : (s.recastRoster e c).index = s.index := rfl
@[simp] theorem State.recastRoster_cache (s : State) (e : RosterEntry) (c : Category) : (s.recastRoster e c).cache = s.cache := rfl
@[simp] theorem State.recastRoster_port (s : State) (e : RosterEntry) (c : Category) : (s.recastRoster e c).port = s.port := rfl
@[simp] theorem State.recastRoster_lines (s : State) (e : RosterEntry) (c : Category) : (s.recastRoster e c).lines = s.lines := rfl
@[simp] theorem State.recastRoster_entries (s : State) (e : RosterEntry) (c : Category) : (s.recastRoster e c).entries = s.entries := rfl
@[simp] theorem State.recastRoster_journal (s : State) (e : RosterEntry) (c : Category) : (s.recastRoster e c).journal = s.journal := rfl
@[simp] theorem State.recastRoster_muster (s : State) (e : RosterEntry) (c : Category) : (s.recastRoster e c).muster = s.muster := rfl
@[simp] theorem State.recastRoster_router (s : State) (e : RosterEntry) (c : Category) : (s.recastRoster e c).router = s.router := rfl
@[simp] theorem State.recastRoster_link (s : State) (e : RosterEntry) (c : Category) : (s.recastRoster e c).link = s.link := rfl
@[simp] theorem State.recastRoster_notices (s : State) (e : RosterEntry) (c : Category) : (s.recastRoster e c).notices = s.notices := rfl
@[simp] theorem State.clearMustered_pending (s : State) : s.clearMustered.pending = s.pending := rfl
@[simp] theorem State.clearMustered_inReset (s : State) : s.clearMustered.inReset = s.inReset := rfl
@[simp] theorem State.clearMustered_straps (s : State) : s.clearMustered.straps = s.straps := rfl
@[simp] theorem State.clearMustered_startUp (s : State) : s.clearMustered.startUp = s.startUp := rfl
@[simp] theorem State.clearMustered_power (s : State) : s.clearMustered.power = s.power := rfl
@[simp] theorem State.clearMustered_pins (s : State) : s.clearMustered.pins = s.pins := rfl
@[simp] theorem State.clearMustered_mem (s : State) : s.clearMustered.mem = s.mem := rfl
@[simp] theorem State.clearMustered_clock (s : State) : s.clearMustered.clock = s.clock := rfl
@[simp] theorem State.clearMustered_settings (s : State) : s.clearMustered.settings = s.settings := rfl
@[simp] theorem State.clearMustered_plans (s : State) : s.clearMustered.plans = s.plans := rfl
@[simp] theorem State.clearMustered_profiles (s : State) : s.clearMustered.profiles = s.profiles := rfl
@[simp] theorem State.clearMustered_bindings (s : State) : s.clearMustered.bindings = s.bindings := rfl
@[simp] theorem State.clearMustered_index (s : State) : s.clearMustered.index = s.index := rfl
@[simp] theorem State.clearMustered_cache (s : State) : s.clearMustered.cache = s.cache := rfl
@[simp] theorem State.clearMustered_port (s : State) : s.clearMustered.port = s.port := rfl
@[simp] theorem State.clearMustered_lines (s : State) : s.clearMustered.lines = s.lines := rfl
@[simp] theorem State.clearMustered_entries (s : State) : s.clearMustered.entries = s.entries := rfl
@[simp] theorem State.clearMustered_journal (s : State) : s.clearMustered.journal = s.journal := rfl
@[simp] theorem State.clearMustered_router (s : State) : s.clearMustered.router = s.router := rfl
@[simp] theorem State.clearMustered_link (s : State) : s.clearMustered.link = s.link := rfl
@[simp] theorem State.clearMustered_notices (s : State) : s.clearMustered.notices = s.notices := rfl
@[simp] theorem State.askOp_pending (s : State) (n : Fin 4) (o : LineOp) : (s.askOp n o).pending = s.pending := rfl
@[simp] theorem State.askOp_inReset (s : State) (n : Fin 4) (o : LineOp) : (s.askOp n o).inReset = s.inReset := rfl
@[simp] theorem State.askOp_straps (s : State) (n : Fin 4) (o : LineOp) : (s.askOp n o).straps = s.straps := rfl
@[simp] theorem State.askOp_startUp (s : State) (n : Fin 4) (o : LineOp) : (s.askOp n o).startUp = s.startUp := rfl
@[simp] theorem State.askOp_power (s : State) (n : Fin 4) (o : LineOp) : (s.askOp n o).power = s.power := rfl
@[simp] theorem State.askOp_pins (s : State) (n : Fin 4) (o : LineOp) : (s.askOp n o).pins = s.pins := rfl
@[simp] theorem State.askOp_mem (s : State) (n : Fin 4) (o : LineOp) : (s.askOp n o).mem = s.mem := rfl
@[simp] theorem State.askOp_clock (s : State) (n : Fin 4) (o : LineOp) : (s.askOp n o).clock = s.clock := rfl
@[simp] theorem State.askOp_settings (s : State) (n : Fin 4) (o : LineOp) : (s.askOp n o).settings = s.settings := rfl
@[simp] theorem State.askOp_plans (s : State) (n : Fin 4) (o : LineOp) : (s.askOp n o).plans = s.plans := rfl
@[simp] theorem State.askOp_profiles (s : State) (n : Fin 4) (o : LineOp) : (s.askOp n o).profiles = s.profiles := rfl
@[simp] theorem State.askOp_bindings (s : State) (n : Fin 4) (o : LineOp) : (s.askOp n o).bindings = s.bindings := rfl
@[simp] theorem State.askOp_index (s : State) (n : Fin 4) (o : LineOp) : (s.askOp n o).index = s.index := rfl
@[simp] theorem State.askOp_cache (s : State) (n : Fin 4) (o : LineOp) : (s.askOp n o).cache = s.cache := rfl
@[simp] theorem State.askOp_port (s : State) (n : Fin 4) (o : LineOp) : (s.askOp n o).port = s.port := rfl
@[simp] theorem State.askOp_entries (s : State) (n : Fin 4) (o : LineOp) : (s.askOp n o).entries = s.entries := rfl
@[simp] theorem State.askOp_journal (s : State) (n : Fin 4) (o : LineOp) : (s.askOp n o).journal = s.journal := rfl
@[simp] theorem State.askOp_landing (s : State) (n : Fin 4) (o : LineOp) : (s.askOp n o).landing = s.landing := rfl
@[simp] theorem State.askOp_muster (s : State) (n : Fin 4) (o : LineOp) : (s.askOp n o).muster = s.muster := rfl
@[simp] theorem State.askOp_router (s : State) (n : Fin 4) (o : LineOp) : (s.askOp n o).router = s.router := rfl
@[simp] theorem State.askOp_link (s : State) (n : Fin 4) (o : LineOp) : (s.askOp n o).link = s.link := rfl
@[simp] theorem State.askOp_notices (s : State) (n : Fin 4) (o : LineOp) : (s.askOp n o).notices = s.notices := rfl
@[simp] theorem State.passCursor_pending (s : State) (n : Fin 2048) : (s.passCursor n).pending = s.pending := rfl
@[simp] theorem State.passCursor_inReset (s : State) (n : Fin 2048) : (s.passCursor n).inReset = s.inReset := rfl
@[simp] theorem State.passCursor_straps (s : State) (n : Fin 2048) : (s.passCursor n).straps = s.straps := rfl
@[simp] theorem State.passCursor_startUp (s : State) (n : Fin 2048) : (s.passCursor n).startUp = s.startUp := rfl
@[simp] theorem State.passCursor_power (s : State) (n : Fin 2048) : (s.passCursor n).power = s.power := rfl
@[simp] theorem State.passCursor_pins (s : State) (n : Fin 2048) : (s.passCursor n).pins = s.pins := rfl
@[simp] theorem State.passCursor_mem (s : State) (n : Fin 2048) : (s.passCursor n).mem = s.mem := rfl
@[simp] theorem State.passCursor_clock (s : State) (n : Fin 2048) : (s.passCursor n).clock = s.clock := rfl
@[simp] theorem State.passCursor_settings (s : State) (n : Fin 2048) : (s.passCursor n).settings = s.settings := rfl
@[simp] theorem State.passCursor_plans (s : State) (n : Fin 2048) : (s.passCursor n).plans = s.plans := rfl
@[simp] theorem State.passCursor_profiles (s : State) (n : Fin 2048) : (s.passCursor n).profiles = s.profiles := rfl
@[simp] theorem State.passCursor_bindings (s : State) (n : Fin 2048) : (s.passCursor n).bindings = s.bindings := rfl
@[simp] theorem State.passCursor_index (s : State) (n : Fin 2048) : (s.passCursor n).index = s.index := rfl
@[simp] theorem State.passCursor_cache (s : State) (n : Fin 2048) : (s.passCursor n).cache = s.cache := rfl
@[simp] theorem State.passCursor_port (s : State) (n : Fin 2048) : (s.passCursor n).port = s.port := rfl
@[simp] theorem State.passCursor_lines (s : State) (n : Fin 2048) : (s.passCursor n).lines = s.lines := rfl
@[simp] theorem State.passCursor_entries (s : State) (n : Fin 2048) : (s.passCursor n).entries = s.entries := rfl
@[simp] theorem State.passCursor_journal (s : State) (n : Fin 2048) : (s.passCursor n).journal = s.journal := rfl
@[simp] theorem State.passCursor_muster (s : State) (n : Fin 2048) : (s.passCursor n).muster = s.muster := rfl
@[simp] theorem State.passCursor_router (s : State) (n : Fin 2048) : (s.passCursor n).router = s.router := rfl
@[simp] theorem State.passCursor_link (s : State) (n : Fin 2048) : (s.passCursor n).link = s.link := rfl
@[simp] theorem State.passCursor_notices (s : State) (n : Fin 2048) : (s.passCursor n).notices = s.notices := rfl
@[simp] theorem State.replyBusy_pending (s : State) (t : Tag) (k : Byte) : (s.replyBusy t k).pending = s.pending := rfl
@[simp] theorem State.replyBusy_inReset (s : State) (t : Tag) (k : Byte) : (s.replyBusy t k).inReset = s.inReset := rfl
@[simp] theorem State.replyBusy_straps (s : State) (t : Tag) (k : Byte) : (s.replyBusy t k).straps = s.straps := rfl
@[simp] theorem State.replyBusy_startUp (s : State) (t : Tag) (k : Byte) : (s.replyBusy t k).startUp = s.startUp := rfl
@[simp] theorem State.replyBusy_power (s : State) (t : Tag) (k : Byte) : (s.replyBusy t k).power = s.power := rfl
@[simp] theorem State.replyBusy_pins (s : State) (t : Tag) (k : Byte) : (s.replyBusy t k).pins = s.pins := rfl
@[simp] theorem State.replyBusy_mem (s : State) (t : Tag) (k : Byte) : (s.replyBusy t k).mem = s.mem := rfl
@[simp] theorem State.replyBusy_clock (s : State) (t : Tag) (k : Byte) : (s.replyBusy t k).clock = s.clock := rfl
@[simp] theorem State.replyBusy_settings (s : State) (t : Tag) (k : Byte) : (s.replyBusy t k).settings = s.settings := rfl
@[simp] theorem State.replyBusy_plans (s : State) (t : Tag) (k : Byte) : (s.replyBusy t k).plans = s.plans := rfl
@[simp] theorem State.replyBusy_profiles (s : State) (t : Tag) (k : Byte) : (s.replyBusy t k).profiles = s.profiles := rfl
@[simp] theorem State.replyBusy_bindings (s : State) (t : Tag) (k : Byte) : (s.replyBusy t k).bindings = s.bindings := rfl
@[simp] theorem State.replyBusy_index (s : State) (t : Tag) (k : Byte) : (s.replyBusy t k).index = s.index := rfl
@[simp] theorem State.replyBusy_cache (s : State) (t : Tag) (k : Byte) : (s.replyBusy t k).cache = s.cache := rfl
@[simp] theorem State.replyBusy_port (s : State) (t : Tag) (k : Byte) : (s.replyBusy t k).port = s.port := rfl
@[simp] theorem State.replyBusy_lines (s : State) (t : Tag) (k : Byte) : (s.replyBusy t k).lines = s.lines := rfl
@[simp] theorem State.replyBusy_entries (s : State) (t : Tag) (k : Byte) : (s.replyBusy t k).entries = s.entries := rfl
@[simp] theorem State.replyBusy_journal (s : State) (t : Tag) (k : Byte) : (s.replyBusy t k).journal = s.journal := rfl
@[simp] theorem State.replyBusy_landing (s : State) (t : Tag) (k : Byte) : (s.replyBusy t k).landing = s.landing := rfl
@[simp] theorem State.replyBusy_muster (s : State) (t : Tag) (k : Byte) : (s.replyBusy t k).muster = s.muster := rfl
@[simp] theorem State.replyBusy_router (s : State) (t : Tag) (k : Byte) : (s.replyBusy t k).router = s.router := rfl
@[simp] theorem State.replyBusy_notices (s : State) (t : Tag) (k : Byte) : (s.replyBusy t k).notices = s.notices := rfl
@[simp] theorem State.frameArrived_pending (s : State) : s.frameArrived.pending = s.pending := rfl
@[simp] theorem State.frameArrived_inReset (s : State) : s.frameArrived.inReset = s.inReset := rfl
@[simp] theorem State.frameArrived_straps (s : State) : s.frameArrived.straps = s.straps := rfl
@[simp] theorem State.frameArrived_startUp (s : State) : s.frameArrived.startUp = s.startUp := rfl
@[simp] theorem State.frameArrived_power (s : State) : s.frameArrived.power = s.power := rfl
@[simp] theorem State.frameArrived_pins (s : State) : s.frameArrived.pins = s.pins := rfl
@[simp] theorem State.frameArrived_mem (s : State) : s.frameArrived.mem = s.mem := rfl
@[simp] theorem State.frameArrived_clock (s : State) : s.frameArrived.clock = s.clock := rfl
@[simp] theorem State.frameArrived_settings (s : State) : s.frameArrived.settings = s.settings := rfl
@[simp] theorem State.frameArrived_plans (s : State) : s.frameArrived.plans = s.plans := rfl
@[simp] theorem State.frameArrived_profiles (s : State) : s.frameArrived.profiles = s.profiles := rfl
@[simp] theorem State.frameArrived_bindings (s : State) : s.frameArrived.bindings = s.bindings := rfl
@[simp] theorem State.frameArrived_index (s : State) : s.frameArrived.index = s.index := rfl
@[simp] theorem State.frameArrived_cache (s : State) : s.frameArrived.cache = s.cache := rfl
@[simp] theorem State.frameArrived_port (s : State) : s.frameArrived.port = s.port := rfl
@[simp] theorem State.frameArrived_lines (s : State) : s.frameArrived.lines = s.lines := rfl
@[simp] theorem State.frameArrived_entries (s : State) : s.frameArrived.entries = s.entries := rfl
@[simp] theorem State.frameArrived_journal (s : State) : s.frameArrived.journal = s.journal := rfl
@[simp] theorem State.frameArrived_landing (s : State) : s.frameArrived.landing = s.landing := rfl
@[simp] theorem State.frameArrived_muster (s : State) : s.frameArrived.muster = s.muster := rfl
@[simp] theorem State.frameArrived_notices (s : State) : s.frameArrived.notices = s.notices := rfl
@[simp] theorem State.prune_pending (s : State) (l : Fin 4) (d : Nat) (k : List RecKey) : (s.prune l d k).pending = s.pending := rfl
@[simp] theorem State.prune_inReset (s : State) (l : Fin 4) (d : Nat) (k : List RecKey) : (s.prune l d k).inReset = s.inReset := rfl
@[simp] theorem State.prune_straps (s : State) (l : Fin 4) (d : Nat) (k : List RecKey) : (s.prune l d k).straps = s.straps := rfl
@[simp] theorem State.prune_startUp (s : State) (l : Fin 4) (d : Nat) (k : List RecKey) : (s.prune l d k).startUp = s.startUp := rfl
@[simp] theorem State.prune_power (s : State) (l : Fin 4) (d : Nat) (k : List RecKey) : (s.prune l d k).power = s.power := rfl
@[simp] theorem State.prune_pins (s : State) (l : Fin 4) (d : Nat) (k : List RecKey) : (s.prune l d k).pins = s.pins := rfl
@[simp] theorem State.prune_mem (s : State) (l : Fin 4) (d : Nat) (k : List RecKey) : (s.prune l d k).mem = s.mem := rfl
@[simp] theorem State.prune_clock (s : State) (l : Fin 4) (d : Nat) (k : List RecKey) : (s.prune l d k).clock = s.clock := rfl
@[simp] theorem State.prune_settings (s : State) (l : Fin 4) (d : Nat) (k : List RecKey) : (s.prune l d k).settings = s.settings := rfl
@[simp] theorem State.prune_plans (s : State) (l : Fin 4) (d : Nat) (k : List RecKey) : (s.prune l d k).plans = s.plans := rfl
@[simp] theorem State.prune_profiles (s : State) (l : Fin 4) (d : Nat) (k : List RecKey) : (s.prune l d k).profiles = s.profiles := rfl
@[simp] theorem State.prune_bindings (s : State) (l : Fin 4) (d : Nat) (k : List RecKey) : (s.prune l d k).bindings = s.bindings := rfl
@[simp] theorem State.prune_index (s : State) (l : Fin 4) (d : Nat) (k : List RecKey) : (s.prune l d k).index = s.index := rfl
@[simp] theorem State.prune_port (s : State) (l : Fin 4) (d : Nat) (k : List RecKey) : (s.prune l d k).port = s.port := rfl
@[simp] theorem State.prune_lines (s : State) (l : Fin 4) (d : Nat) (k : List RecKey) : (s.prune l d k).lines = s.lines := rfl
@[simp] theorem State.prune_entries (s : State) (l : Fin 4) (d : Nat) (k : List RecKey) : (s.prune l d k).entries = s.entries := rfl
@[simp] theorem State.prune_journal (s : State) (l : Fin 4) (d : Nat) (k : List RecKey) : (s.prune l d k).journal = s.journal := rfl
@[simp] theorem State.prune_landing (s : State) (l : Fin 4) (d : Nat) (k : List RecKey) : (s.prune l d k).landing = s.landing := rfl
@[simp] theorem State.prune_muster (s : State) (l : Fin 4) (d : Nat) (k : List RecKey) : (s.prune l d k).muster = s.muster := rfl
@[simp] theorem State.prune_router (s : State) (l : Fin 4) (d : Nat) (k : List RecKey) : (s.prune l d k).router = s.router := rfl
@[simp] theorem State.prune_link (s : State) (l : Fin 4) (d : Nat) (k : List RecKey) : (s.prune l d k).link = s.link := rfl
@[simp] theorem State.prune_notices (s : State) (l : Fin 4) (d : Nat) (k : List RecKey) : (s.prune l d k).notices = s.notices := rfl
@[simp] theorem State.placeHold_pending (s : State) (l : Fin 4) (d : Nat) (k : RecKey) (i : Fin 128) : (s.placeHold l d k i).pending = s.pending := rfl
@[simp] theorem State.placeHold_inReset (s : State) (l : Fin 4) (d : Nat) (k : RecKey) (i : Fin 128) : (s.placeHold l d k i).inReset = s.inReset := rfl
@[simp] theorem State.placeHold_straps (s : State) (l : Fin 4) (d : Nat) (k : RecKey) (i : Fin 128) : (s.placeHold l d k i).straps = s.straps := rfl
@[simp] theorem State.placeHold_startUp (s : State) (l : Fin 4) (d : Nat) (k : RecKey) (i : Fin 128) : (s.placeHold l d k i).startUp = s.startUp := rfl
@[simp] theorem State.placeHold_power (s : State) (l : Fin 4) (d : Nat) (k : RecKey) (i : Fin 128) : (s.placeHold l d k i).power = s.power := rfl
@[simp] theorem State.placeHold_pins (s : State) (l : Fin 4) (d : Nat) (k : RecKey) (i : Fin 128) : (s.placeHold l d k i).pins = s.pins := rfl
@[simp] theorem State.placeHold_mem (s : State) (l : Fin 4) (d : Nat) (k : RecKey) (i : Fin 128) : (s.placeHold l d k i).mem = s.mem := rfl
@[simp] theorem State.placeHold_clock (s : State) (l : Fin 4) (d : Nat) (k : RecKey) (i : Fin 128) : (s.placeHold l d k i).clock = s.clock := rfl
@[simp] theorem State.placeHold_settings (s : State) (l : Fin 4) (d : Nat) (k : RecKey) (i : Fin 128) : (s.placeHold l d k i).settings = s.settings := rfl
@[simp] theorem State.placeHold_plans (s : State) (l : Fin 4) (d : Nat) (k : RecKey) (i : Fin 128) : (s.placeHold l d k i).plans = s.plans := rfl
@[simp] theorem State.placeHold_profiles (s : State) (l : Fin 4) (d : Nat) (k : RecKey) (i : Fin 128) : (s.placeHold l d k i).profiles = s.profiles := rfl
@[simp] theorem State.placeHold_bindings (s : State) (l : Fin 4) (d : Nat) (k : RecKey) (i : Fin 128) : (s.placeHold l d k i).bindings = s.bindings := rfl
@[simp] theorem State.placeHold_index (s : State) (l : Fin 4) (d : Nat) (k : RecKey) (i : Fin 128) : (s.placeHold l d k i).index = s.index := rfl
@[simp] theorem State.placeHold_port (s : State) (l : Fin 4) (d : Nat) (k : RecKey) (i : Fin 128) : (s.placeHold l d k i).port = s.port := rfl
@[simp] theorem State.placeHold_lines (s : State) (l : Fin 4) (d : Nat) (k : RecKey) (i : Fin 128) : (s.placeHold l d k i).lines = s.lines := rfl
@[simp] theorem State.placeHold_entries (s : State) (l : Fin 4) (d : Nat) (k : RecKey) (i : Fin 128) : (s.placeHold l d k i).entries = s.entries := rfl
@[simp] theorem State.placeHold_journal (s : State) (l : Fin 4) (d : Nat) (k : RecKey) (i : Fin 128) : (s.placeHold l d k i).journal = s.journal := rfl
@[simp] theorem State.placeHold_landing (s : State) (l : Fin 4) (d : Nat) (k : RecKey) (i : Fin 128) : (s.placeHold l d k i).landing = s.landing := rfl
@[simp] theorem State.placeHold_muster (s : State) (l : Fin 4) (d : Nat) (k : RecKey) (i : Fin 128) : (s.placeHold l d k i).muster = s.muster := rfl
@[simp] theorem State.placeHold_router (s : State) (l : Fin 4) (d : Nat) (k : RecKey) (i : Fin 128) : (s.placeHold l d k i).router = s.router := rfl
@[simp] theorem State.placeHold_link (s : State) (l : Fin 4) (d : Nat) (k : RecKey) (i : Fin 128) : (s.placeHold l d k i).link = s.link := rfl
@[simp] theorem State.placeHold_notices (s : State) (l : Fin 4) (d : Nat) (k : RecKey) (i : Fin 128) : (s.placeHold l d k i).notices = s.notices := rfl
@[simp] theorem State.refreshPolls_pending (s : State) (n : Fin 4) : (s.refreshPolls n).pending = s.pending := rfl
@[simp] theorem State.refreshPolls_inReset (s : State) (n : Fin 4) : (s.refreshPolls n).inReset = s.inReset := rfl
@[simp] theorem State.refreshPolls_straps (s : State) (n : Fin 4) : (s.refreshPolls n).straps = s.straps := rfl
@[simp] theorem State.refreshPolls_startUp (s : State) (n : Fin 4) : (s.refreshPolls n).startUp = s.startUp := rfl
@[simp] theorem State.refreshPolls_power (s : State) (n : Fin 4) : (s.refreshPolls n).power = s.power := rfl
@[simp] theorem State.refreshPolls_pins (s : State) (n : Fin 4) : (s.refreshPolls n).pins = s.pins := rfl
@[simp] theorem State.refreshPolls_mem (s : State) (n : Fin 4) : (s.refreshPolls n).mem = s.mem := rfl
@[simp] theorem State.refreshPolls_clock (s : State) (n : Fin 4) : (s.refreshPolls n).clock = s.clock := rfl
@[simp] theorem State.refreshPolls_settings (s : State) (n : Fin 4) : (s.refreshPolls n).settings = s.settings := rfl
@[simp] theorem State.refreshPolls_plans (s : State) (n : Fin 4) : (s.refreshPolls n).plans = s.plans := rfl
@[simp] theorem State.refreshPolls_profiles (s : State) (n : Fin 4) : (s.refreshPolls n).profiles = s.profiles := rfl
@[simp] theorem State.refreshPolls_bindings (s : State) (n : Fin 4) : (s.refreshPolls n).bindings = s.bindings := rfl
@[simp] theorem State.refreshPolls_index (s : State) (n : Fin 4) : (s.refreshPolls n).index = s.index := rfl
@[simp] theorem State.refreshPolls_cache (s : State) (n : Fin 4) : (s.refreshPolls n).cache = s.cache := rfl
@[simp] theorem State.refreshPolls_port (s : State) (n : Fin 4) : (s.refreshPolls n).port = s.port := rfl
@[simp] theorem State.refreshPolls_lines (s : State) (n : Fin 4) : (s.refreshPolls n).lines = s.lines := rfl
@[simp] theorem State.refreshPolls_journal (s : State) (n : Fin 4) : (s.refreshPolls n).journal = s.journal := rfl
@[simp] theorem State.refreshPolls_landing (s : State) (n : Fin 4) : (s.refreshPolls n).landing = s.landing := rfl
@[simp] theorem State.refreshPolls_muster (s : State) (n : Fin 4) : (s.refreshPolls n).muster = s.muster := rfl
@[simp] theorem State.refreshPolls_router (s : State) (n : Fin 4) : (s.refreshPolls n).router = s.router := rfl
@[simp] theorem State.refreshPolls_link (s : State) (n : Fin 4) : (s.refreshPolls n).link = s.link := rfl
@[simp] theorem State.refreshPolls_notices (s : State) (n : Fin 4) : (s.refreshPolls n).notices = s.notices := rfl
@[simp] theorem State.countDelivery_pending (s : State) (n : Fin 4) (d : Nat) : (s.countDelivery n d).pending = s.pending := rfl
@[simp] theorem State.countDelivery_inReset (s : State) (n : Fin 4) (d : Nat) : (s.countDelivery n d).inReset = s.inReset := rfl
@[simp] theorem State.countDelivery_straps (s : State) (n : Fin 4) (d : Nat) : (s.countDelivery n d).straps = s.straps := rfl
@[simp] theorem State.countDelivery_startUp (s : State) (n : Fin 4) (d : Nat) : (s.countDelivery n d).startUp = s.startUp := rfl
@[simp] theorem State.countDelivery_power (s : State) (n : Fin 4) (d : Nat) : (s.countDelivery n d).power = s.power := rfl
@[simp] theorem State.countDelivery_pins (s : State) (n : Fin 4) (d : Nat) : (s.countDelivery n d).pins = s.pins := rfl
@[simp] theorem State.countDelivery_mem (s : State) (n : Fin 4) (d : Nat) : (s.countDelivery n d).mem = s.mem := rfl
@[simp] theorem State.countDelivery_clock (s : State) (n : Fin 4) (d : Nat) : (s.countDelivery n d).clock = s.clock := rfl
@[simp] theorem State.countDelivery_settings (s : State) (n : Fin 4) (d : Nat) : (s.countDelivery n d).settings = s.settings := rfl
@[simp] theorem State.countDelivery_plans (s : State) (n : Fin 4) (d : Nat) : (s.countDelivery n d).plans = s.plans := rfl
@[simp] theorem State.countDelivery_profiles (s : State) (n : Fin 4) (d : Nat) : (s.countDelivery n d).profiles = s.profiles := rfl
@[simp] theorem State.countDelivery_bindings (s : State) (n : Fin 4) (d : Nat) : (s.countDelivery n d).bindings = s.bindings := rfl
@[simp] theorem State.countDelivery_index (s : State) (n : Fin 4) (d : Nat) : (s.countDelivery n d).index = s.index := rfl
@[simp] theorem State.countDelivery_cache (s : State) (n : Fin 4) (d : Nat) : (s.countDelivery n d).cache = s.cache := rfl
@[simp] theorem State.countDelivery_port (s : State) (n : Fin 4) (d : Nat) : (s.countDelivery n d).port = s.port := rfl
@[simp] theorem State.countDelivery_lines (s : State) (n : Fin 4) (d : Nat) : (s.countDelivery n d).lines = s.lines := rfl
@[simp] theorem State.countDelivery_journal (s : State) (n : Fin 4) (d : Nat) : (s.countDelivery n d).journal = s.journal := rfl
@[simp] theorem State.countDelivery_landing (s : State) (n : Fin 4) (d : Nat) : (s.countDelivery n d).landing = s.landing := rfl
@[simp] theorem State.countDelivery_muster (s : State) (n : Fin 4) (d : Nat) : (s.countDelivery n d).muster = s.muster := rfl
@[simp] theorem State.countDelivery_router (s : State) (n : Fin 4) (d : Nat) : (s.countDelivery n d).router = s.router := rfl
@[simp] theorem State.countDelivery_link (s : State) (n : Fin 4) (d : Nat) : (s.countDelivery n d).link = s.link := rfl
@[simp] theorem State.countDelivery_notices (s : State) (n : Fin 4) (d : Nat) : (s.countDelivery n d).notices = s.notices := rfl
@[simp] theorem State.closeTurn_pending (s : State) (n : Fin 4) (d : Nat) : (s.closeTurn n d).pending = s.pending := rfl
@[simp] theorem State.closeTurn_inReset (s : State) (n : Fin 4) (d : Nat) : (s.closeTurn n d).inReset = s.inReset := rfl
@[simp] theorem State.closeTurn_straps (s : State) (n : Fin 4) (d : Nat) : (s.closeTurn n d).straps = s.straps := rfl
@[simp] theorem State.closeTurn_startUp (s : State) (n : Fin 4) (d : Nat) : (s.closeTurn n d).startUp = s.startUp := rfl
@[simp] theorem State.closeTurn_power (s : State) (n : Fin 4) (d : Nat) : (s.closeTurn n d).power = s.power := rfl
@[simp] theorem State.closeTurn_pins (s : State) (n : Fin 4) (d : Nat) : (s.closeTurn n d).pins = s.pins := rfl
@[simp] theorem State.closeTurn_mem (s : State) (n : Fin 4) (d : Nat) : (s.closeTurn n d).mem = s.mem := rfl
@[simp] theorem State.closeTurn_clock (s : State) (n : Fin 4) (d : Nat) : (s.closeTurn n d).clock = s.clock := rfl
@[simp] theorem State.closeTurn_settings (s : State) (n : Fin 4) (d : Nat) : (s.closeTurn n d).settings = s.settings := rfl
@[simp] theorem State.closeTurn_plans (s : State) (n : Fin 4) (d : Nat) : (s.closeTurn n d).plans = s.plans := rfl
@[simp] theorem State.closeTurn_profiles (s : State) (n : Fin 4) (d : Nat) : (s.closeTurn n d).profiles = s.profiles := rfl
@[simp] theorem State.closeTurn_bindings (s : State) (n : Fin 4) (d : Nat) : (s.closeTurn n d).bindings = s.bindings := rfl
@[simp] theorem State.closeTurn_index (s : State) (n : Fin 4) (d : Nat) : (s.closeTurn n d).index = s.index := rfl
@[simp] theorem State.closeTurn_cache (s : State) (n : Fin 4) (d : Nat) : (s.closeTurn n d).cache = s.cache := rfl
@[simp] theorem State.closeTurn_port (s : State) (n : Fin 4) (d : Nat) : (s.closeTurn n d).port = s.port := rfl
@[simp] theorem State.closeTurn_entries (s : State) (n : Fin 4) (d : Nat) : (s.closeTurn n d).entries = s.entries := rfl
@[simp] theorem State.closeTurn_journal (s : State) (n : Fin 4) (d : Nat) : (s.closeTurn n d).journal = s.journal := rfl
@[simp] theorem State.closeTurn_landing (s : State) (n : Fin 4) (d : Nat) : (s.closeTurn n d).landing = s.landing := rfl
@[simp] theorem State.closeTurn_muster (s : State) (n : Fin 4) (d : Nat) : (s.closeTurn n d).muster = s.muster := rfl
@[simp] theorem State.closeTurn_router (s : State) (n : Fin 4) (d : Nat) : (s.closeTurn n d).router = s.router := rfl
@[simp] theorem State.closeTurn_link (s : State) (n : Fin 4) (d : Nat) : (s.closeTurn n d).link = s.link := rfl
@[simp] theorem State.closeTurn_notices (s : State) (n : Fin 4) (d : Nat) : (s.closeTurn n d).notices = s.notices := rfl
@[simp] theorem State.beginRoundTurn_pending (s : State) (n : Fin 4) (g d : Nat) (f : DeckFrame) : (s.beginRoundTurn n g d f).pending = s.pending := rfl
@[simp] theorem State.beginRoundTurn_inReset (s : State) (n : Fin 4) (g d : Nat) (f : DeckFrame) : (s.beginRoundTurn n g d f).inReset = s.inReset := rfl
@[simp] theorem State.beginRoundTurn_straps (s : State) (n : Fin 4) (g d : Nat) (f : DeckFrame) : (s.beginRoundTurn n g d f).straps = s.straps := rfl
@[simp] theorem State.beginRoundTurn_startUp (s : State) (n : Fin 4) (g d : Nat) (f : DeckFrame) : (s.beginRoundTurn n g d f).startUp = s.startUp := rfl
@[simp] theorem State.beginRoundTurn_power (s : State) (n : Fin 4) (g d : Nat) (f : DeckFrame) : (s.beginRoundTurn n g d f).power = s.power := rfl
@[simp] theorem State.beginRoundTurn_pins (s : State) (n : Fin 4) (g d : Nat) (f : DeckFrame) : (s.beginRoundTurn n g d f).pins = s.pins := rfl
@[simp] theorem State.beginRoundTurn_mem (s : State) (n : Fin 4) (g d : Nat) (f : DeckFrame) : (s.beginRoundTurn n g d f).mem = s.mem := rfl
@[simp] theorem State.beginRoundTurn_clock (s : State) (n : Fin 4) (g d : Nat) (f : DeckFrame) : (s.beginRoundTurn n g d f).clock = s.clock := rfl
@[simp] theorem State.beginRoundTurn_settings (s : State) (n : Fin 4) (g d : Nat) (f : DeckFrame) : (s.beginRoundTurn n g d f).settings = s.settings := rfl
@[simp] theorem State.beginRoundTurn_plans (s : State) (n : Fin 4) (g d : Nat) (f : DeckFrame) : (s.beginRoundTurn n g d f).plans = s.plans := rfl
@[simp] theorem State.beginRoundTurn_profiles (s : State) (n : Fin 4) (g d : Nat) (f : DeckFrame) : (s.beginRoundTurn n g d f).profiles = s.profiles := rfl
@[simp] theorem State.beginRoundTurn_bindings (s : State) (n : Fin 4) (g d : Nat) (f : DeckFrame) : (s.beginRoundTurn n g d f).bindings = s.bindings := rfl
@[simp] theorem State.beginRoundTurn_index (s : State) (n : Fin 4) (g d : Nat) (f : DeckFrame) : (s.beginRoundTurn n g d f).index = s.index := rfl
@[simp] theorem State.beginRoundTurn_cache (s : State) (n : Fin 4) (g d : Nat) (f : DeckFrame) : (s.beginRoundTurn n g d f).cache = s.cache := rfl
@[simp] theorem State.beginRoundTurn_port (s : State) (n : Fin 4) (g d : Nat) (f : DeckFrame) : (s.beginRoundTurn n g d f).port = s.port := rfl
@[simp] theorem State.beginRoundTurn_entries (s : State) (n : Fin 4) (g d : Nat) (f : DeckFrame) : (s.beginRoundTurn n g d f).entries = s.entries := rfl
@[simp] theorem State.beginRoundTurn_journal (s : State) (n : Fin 4) (g d : Nat) (f : DeckFrame) : (s.beginRoundTurn n g d f).journal = s.journal := rfl
@[simp] theorem State.beginRoundTurn_landing (s : State) (n : Fin 4) (g d : Nat) (f : DeckFrame) : (s.beginRoundTurn n g d f).landing = s.landing := rfl
@[simp] theorem State.beginRoundTurn_muster (s : State) (n : Fin 4) (g d : Nat) (f : DeckFrame) : (s.beginRoundTurn n g d f).muster = s.muster := rfl
@[simp] theorem State.beginRoundTurn_router (s : State) (n : Fin 4) (g d : Nat) (f : DeckFrame) : (s.beginRoundTurn n g d f).router = s.router := rfl
@[simp] theorem State.beginRoundTurn_link (s : State) (n : Fin 4) (g d : Nat) (f : DeckFrame) : (s.beginRoundTurn n g d f).link = s.link := rfl
@[simp] theorem State.beginRoundTurn_notices (s : State) (n : Fin 4) (g d : Nat) (f : DeckFrame) : (s.beginRoundTurn n g d f).notices = s.notices := rfl
@[simp] theorem State.beginPriorityTurn_pending (s : State) (n : Fin 4) (g : Nat) (r : List Nat) (f : DeckFrame) : (s.beginPriorityTurn n g r f).pending = s.pending := rfl
@[simp] theorem State.beginPriorityTurn_inReset (s : State) (n : Fin 4) (g : Nat) (r : List Nat) (f : DeckFrame) : (s.beginPriorityTurn n g r f).inReset = s.inReset := rfl
@[simp] theorem State.beginPriorityTurn_straps (s : State) (n : Fin 4) (g : Nat) (r : List Nat) (f : DeckFrame) : (s.beginPriorityTurn n g r f).straps = s.straps := rfl
@[simp] theorem State.beginPriorityTurn_startUp (s : State) (n : Fin 4) (g : Nat) (r : List Nat) (f : DeckFrame) : (s.beginPriorityTurn n g r f).startUp = s.startUp := rfl
@[simp] theorem State.beginPriorityTurn_power (s : State) (n : Fin 4) (g : Nat) (r : List Nat) (f : DeckFrame) : (s.beginPriorityTurn n g r f).power = s.power := rfl
@[simp] theorem State.beginPriorityTurn_pins (s : State) (n : Fin 4) (g : Nat) (r : List Nat) (f : DeckFrame) : (s.beginPriorityTurn n g r f).pins = s.pins := rfl
@[simp] theorem State.beginPriorityTurn_mem (s : State) (n : Fin 4) (g : Nat) (r : List Nat) (f : DeckFrame) : (s.beginPriorityTurn n g r f).mem = s.mem := rfl
@[simp] theorem State.beginPriorityTurn_clock (s : State) (n : Fin 4) (g : Nat) (r : List Nat) (f : DeckFrame) : (s.beginPriorityTurn n g r f).clock = s.clock := rfl
@[simp] theorem State.beginPriorityTurn_settings (s : State) (n : Fin 4) (g : Nat) (r : List Nat) (f : DeckFrame) : (s.beginPriorityTurn n g r f).settings = s.settings := rfl
@[simp] theorem State.beginPriorityTurn_plans (s : State) (n : Fin 4) (g : Nat) (r : List Nat) (f : DeckFrame) : (s.beginPriorityTurn n g r f).plans = s.plans := rfl
@[simp] theorem State.beginPriorityTurn_profiles (s : State) (n : Fin 4) (g : Nat) (r : List Nat) (f : DeckFrame) : (s.beginPriorityTurn n g r f).profiles = s.profiles := rfl
@[simp] theorem State.beginPriorityTurn_bindings (s : State) (n : Fin 4) (g : Nat) (r : List Nat) (f : DeckFrame) : (s.beginPriorityTurn n g r f).bindings = s.bindings := rfl
@[simp] theorem State.beginPriorityTurn_index (s : State) (n : Fin 4) (g : Nat) (r : List Nat) (f : DeckFrame) : (s.beginPriorityTurn n g r f).index = s.index := rfl
@[simp] theorem State.beginPriorityTurn_cache (s : State) (n : Fin 4) (g : Nat) (r : List Nat) (f : DeckFrame) : (s.beginPriorityTurn n g r f).cache = s.cache := rfl
@[simp] theorem State.beginPriorityTurn_port (s : State) (n : Fin 4) (g : Nat) (r : List Nat) (f : DeckFrame) : (s.beginPriorityTurn n g r f).port = s.port := rfl
@[simp] theorem State.beginPriorityTurn_entries (s : State) (n : Fin 4) (g : Nat) (r : List Nat) (f : DeckFrame) : (s.beginPriorityTurn n g r f).entries = s.entries := rfl
@[simp] theorem State.beginPriorityTurn_journal (s : State) (n : Fin 4) (g : Nat) (r : List Nat) (f : DeckFrame) : (s.beginPriorityTurn n g r f).journal = s.journal := rfl
@[simp] theorem State.beginPriorityTurn_landing (s : State) (n : Fin 4) (g : Nat) (r : List Nat) (f : DeckFrame) : (s.beginPriorityTurn n g r f).landing = s.landing := rfl
@[simp] theorem State.beginPriorityTurn_muster (s : State) (n : Fin 4) (g : Nat) (r : List Nat) (f : DeckFrame) : (s.beginPriorityTurn n g r f).muster = s.muster := rfl
@[simp] theorem State.beginPriorityTurn_router (s : State) (n : Fin 4) (g : Nat) (r : List Nat) (f : DeckFrame) : (s.beginPriorityTurn n g r f).router = s.router := rfl
@[simp] theorem State.beginPriorityTurn_link (s : State) (n : Fin 4) (g : Nat) (r : List Nat) (f : DeckFrame) : (s.beginPriorityTurn n g r f).link = s.link := rfl
@[simp] theorem State.beginPriorityTurn_notices (s : State) (n : Fin 4) (g : Nat) (r : List Nat) (f : DeckFrame) : (s.beginPriorityTurn n g r f).notices = s.notices := rfl
@[simp] theorem State.tickCounts_pending (s : State) : s.tickCounts.pending = s.pending := rfl
@[simp] theorem State.tickCounts_inReset (s : State) : s.tickCounts.inReset = s.inReset := rfl
@[simp] theorem State.tickCounts_straps (s : State) : s.tickCounts.straps = s.straps := rfl
@[simp] theorem State.tickCounts_startUp (s : State) : s.tickCounts.startUp = s.startUp := rfl
@[simp] theorem State.tickCounts_power (s : State) : s.tickCounts.power = s.power := rfl
@[simp] theorem State.tickCounts_pins (s : State) : s.tickCounts.pins = s.pins := rfl
@[simp] theorem State.tickCounts_mem (s : State) : s.tickCounts.mem = s.mem := rfl
@[simp] theorem State.tickCounts_settings (s : State) : s.tickCounts.settings = s.settings := rfl
@[simp] theorem State.tickCounts_plans (s : State) : s.tickCounts.plans = s.plans := rfl
@[simp] theorem State.tickCounts_profiles (s : State) : s.tickCounts.profiles = s.profiles := rfl
@[simp] theorem State.tickCounts_bindings (s : State) : s.tickCounts.bindings = s.bindings := rfl
@[simp] theorem State.tickCounts_index (s : State) : s.tickCounts.index = s.index := rfl
@[simp] theorem State.tickCounts_cache (s : State) : s.tickCounts.cache = s.cache := rfl
@[simp] theorem State.tickCounts_port (s : State) : s.tickCounts.port = s.port := rfl
@[simp] theorem State.tickCounts_lines (s : State) : s.tickCounts.lines = s.lines := rfl
@[simp] theorem State.tickCounts_entries (s : State) : s.tickCounts.entries = s.entries := rfl
@[simp] theorem State.tickCounts_journal (s : State) : s.tickCounts.journal = s.journal := rfl
@[simp] theorem State.tickCounts_landing (s : State) : s.tickCounts.landing = s.landing := rfl
@[simp] theorem State.tickCounts_muster (s : State) : s.tickCounts.muster = s.muster := rfl
@[simp] theorem State.tickCounts_notices (s : State) : s.tickCounts.notices = s.notices := rfl
@[simp] theorem State.lostSeen_pending (s : State) (e : Entry) (c : CardId) (n : Fin 2048) : (s.lostSeen e c n).pending = s.pending := rfl
@[simp] theorem State.lostSeen_inReset (s : State) (e : Entry) (c : CardId) (n : Fin 2048) : (s.lostSeen e c n).inReset = s.inReset := rfl
@[simp] theorem State.lostSeen_straps (s : State) (e : Entry) (c : CardId) (n : Fin 2048) : (s.lostSeen e c n).straps = s.straps := rfl
@[simp] theorem State.lostSeen_startUp (s : State) (e : Entry) (c : CardId) (n : Fin 2048) : (s.lostSeen e c n).startUp = s.startUp := rfl
@[simp] theorem State.lostSeen_power (s : State) (e : Entry) (c : CardId) (n : Fin 2048) : (s.lostSeen e c n).power = s.power := rfl
@[simp] theorem State.lostSeen_mem (s : State) (e : Entry) (c : CardId) (n : Fin 2048) : (s.lostSeen e c n).mem = s.mem := rfl
@[simp] theorem State.lostSeen_clock (s : State) (e : Entry) (c : CardId) (n : Fin 2048) : (s.lostSeen e c n).clock = s.clock := rfl
@[simp] theorem State.lostSeen_settings (s : State) (e : Entry) (c : CardId) (n : Fin 2048) : (s.lostSeen e c n).settings = s.settings := rfl
@[simp] theorem State.lostSeen_plans (s : State) (e : Entry) (c : CardId) (n : Fin 2048) : (s.lostSeen e c n).plans = s.plans := rfl
@[simp] theorem State.lostSeen_profiles (s : State) (e : Entry) (c : CardId) (n : Fin 2048) : (s.lostSeen e c n).profiles = s.profiles := rfl
@[simp] theorem State.lostSeen_bindings (s : State) (e : Entry) (c : CardId) (n : Fin 2048) : (s.lostSeen e c n).bindings = s.bindings := rfl
@[simp] theorem State.lostSeen_index (s : State) (e : Entry) (c : CardId) (n : Fin 2048) : (s.lostSeen e c n).index = s.index := rfl
@[simp] theorem State.lostSeen_cache (s : State) (e : Entry) (c : CardId) (n : Fin 2048) : (s.lostSeen e c n).cache = s.cache := rfl
@[simp] theorem State.lostSeen_port (s : State) (e : Entry) (c : CardId) (n : Fin 2048) : (s.lostSeen e c n).port = s.port := rfl
@[simp] theorem State.lostSeen_lines (s : State) (e : Entry) (c : CardId) (n : Fin 2048) : (s.lostSeen e c n).lines = s.lines := rfl
@[simp] theorem State.lostSeen_entries (s : State) (e : Entry) (c : CardId) (n : Fin 2048) : (s.lostSeen e c n).entries = s.entries := rfl
@[simp] theorem State.lostSeen_journal (s : State) (e : Entry) (c : CardId) (n : Fin 2048) : (s.lostSeen e c n).journal = s.journal := rfl
@[simp] theorem State.lostSeen_landing (s : State) (e : Entry) (c : CardId) (n : Fin 2048) : (s.lostSeen e c n).landing = s.landing := rfl
@[simp] theorem State.lostSeen_muster (s : State) (e : Entry) (c : CardId) (n : Fin 2048) : (s.lostSeen e c n).muster = s.muster := rfl
@[simp] theorem State.lostSeen_router (s : State) (e : Entry) (c : CardId) (n : Fin 2048) : (s.lostSeen e c n).router = s.router := rfl
@[simp] theorem State.lostSeen_link (s : State) (e : Entry) (c : CardId) (n : Fin 2048) : (s.lostSeen e c n).link = s.link := rfl
@[simp] theorem State.anomaly_pending (s : State) (e : Entry) (a : AnomalyCause) (c : CardId) (n : Fin 2048) (g : Guest) (k : Bool) : (s.anomaly e a c n g k).pending = s.pending := rfl
@[simp] theorem State.anomaly_inReset (s : State) (e : Entry) (a : AnomalyCause) (c : CardId) (n : Fin 2048) (g : Guest) (k : Bool) : (s.anomaly e a c n g k).inReset = s.inReset := rfl
@[simp] theorem State.anomaly_straps (s : State) (e : Entry) (a : AnomalyCause) (c : CardId) (n : Fin 2048) (g : Guest) (k : Bool) : (s.anomaly e a c n g k).straps = s.straps := rfl
@[simp] theorem State.anomaly_startUp (s : State) (e : Entry) (a : AnomalyCause) (c : CardId) (n : Fin 2048) (g : Guest) (k : Bool) : (s.anomaly e a c n g k).startUp = s.startUp := rfl
@[simp] theorem State.anomaly_power (s : State) (e : Entry) (a : AnomalyCause) (c : CardId) (n : Fin 2048) (g : Guest) (k : Bool) : (s.anomaly e a c n g k).power = s.power := rfl
@[simp] theorem State.anomaly_mem (s : State) (e : Entry) (a : AnomalyCause) (c : CardId) (n : Fin 2048) (g : Guest) (k : Bool) : (s.anomaly e a c n g k).mem = s.mem := rfl
@[simp] theorem State.anomaly_clock (s : State) (e : Entry) (a : AnomalyCause) (c : CardId) (n : Fin 2048) (g : Guest) (k : Bool) : (s.anomaly e a c n g k).clock = s.clock := rfl
@[simp] theorem State.anomaly_settings (s : State) (e : Entry) (a : AnomalyCause) (c : CardId) (n : Fin 2048) (g : Guest) (k : Bool) : (s.anomaly e a c n g k).settings = s.settings := rfl
@[simp] theorem State.anomaly_plans (s : State) (e : Entry) (a : AnomalyCause) (c : CardId) (n : Fin 2048) (g : Guest) (k : Bool) : (s.anomaly e a c n g k).plans = s.plans := rfl
@[simp] theorem State.anomaly_profiles (s : State) (e : Entry) (a : AnomalyCause) (c : CardId) (n : Fin 2048) (g : Guest) (k : Bool) : (s.anomaly e a c n g k).profiles = s.profiles := rfl
@[simp] theorem State.anomaly_bindings (s : State) (e : Entry) (a : AnomalyCause) (c : CardId) (n : Fin 2048) (g : Guest) (k : Bool) : (s.anomaly e a c n g k).bindings = s.bindings := rfl
@[simp] theorem State.anomaly_index (s : State) (e : Entry) (a : AnomalyCause) (c : CardId) (n : Fin 2048) (g : Guest) (k : Bool) : (s.anomaly e a c n g k).index = s.index := rfl
@[simp] theorem State.anomaly_cache (s : State) (e : Entry) (a : AnomalyCause) (c : CardId) (n : Fin 2048) (g : Guest) (k : Bool) : (s.anomaly e a c n g k).cache = s.cache := rfl
@[simp] theorem State.anomaly_port (s : State) (e : Entry) (a : AnomalyCause) (c : CardId) (n : Fin 2048) (g : Guest) (k : Bool) : (s.anomaly e a c n g k).port = s.port := rfl
@[simp] theorem State.anomaly_lines (s : State) (e : Entry) (a : AnomalyCause) (c : CardId) (n : Fin 2048) (g : Guest) (k : Bool) : (s.anomaly e a c n g k).lines = s.lines := rfl
@[simp] theorem State.anomaly_entries (s : State) (e : Entry) (a : AnomalyCause) (c : CardId) (n : Fin 2048) (g : Guest) (k : Bool) : (s.anomaly e a c n g k).entries = s.entries := rfl
@[simp] theorem State.anomaly_journal (s : State) (e : Entry) (a : AnomalyCause) (c : CardId) (n : Fin 2048) (g : Guest) (k : Bool) : (s.anomaly e a c n g k).journal = s.journal := rfl
@[simp] theorem State.anomaly_landing (s : State) (e : Entry) (a : AnomalyCause) (c : CardId) (n : Fin 2048) (g : Guest) (k : Bool) : (s.anomaly e a c n g k).landing = s.landing := rfl
@[simp] theorem State.anomaly_muster (s : State) (e : Entry) (a : AnomalyCause) (c : CardId) (n : Fin 2048) (g : Guest) (k : Bool) : (s.anomaly e a c n g k).muster = s.muster := rfl
@[simp] theorem State.anomaly_router (s : State) (e : Entry) (a : AnomalyCause) (c : CardId) (n : Fin 2048) (g : Guest) (k : Bool) : (s.anomaly e a c n g k).router = s.router := rfl
@[simp] theorem State.anomaly_link (s : State) (e : Entry) (a : AnomalyCause) (c : CardId) (n : Fin 2048) (g : Guest) (k : Bool) : (s.anomaly e a c n g k).link = s.link := rfl

end Sys2Proof.Machine
end

