-- ==== Sys2Proof/Laws/Frame.lean ====
section
/-! SUPPORT. The fields each shared operation leaves as they were. -/
set_option linter.unusedTactic false
set_option linter.unreachableTactic false

namespace Sys2Proof.Machine
set_option Elab.async false

@[simp] theorem State.enterStandalone_pending (s : State) (c : StandaloneCause) : (s.enterStandalone c).pending = s.pending := by
  unfold State.enterStandalone; (try dsimp only); repeat' split
  all_goals first | rfl | simp
@[simp] theorem State.enterStandalone_inReset (s : State) (c : StandaloneCause) : (s.enterStandalone c).inReset = s.inReset := by
  unfold State.enterStandalone; (try dsimp only); repeat' split
  all_goals first | rfl | simp
@[simp] theorem State.enterStandalone_straps (s : State) (c : StandaloneCause) : (s.enterStandalone c).straps = s.straps := by
  unfold State.enterStandalone; (try dsimp only); repeat' split
  all_goals first | rfl | simp
@[simp] theorem State.enterStandalone_startUp (s : State) (c : StandaloneCause) : (s.enterStandalone c).startUp = s.startUp := by
  unfold State.enterStandalone; (try dsimp only); repeat' split
  all_goals first | rfl | simp
@[simp] theorem State.enterStandalone_power (s : State) (c : StandaloneCause) : (s.enterStandalone c).power = s.power := by
  unfold State.enterStandalone; (try dsimp only); repeat' split
  all_goals first | rfl | simp
@[simp] theorem State.enterStandalone_mem (s : State) (c : StandaloneCause) : (s.enterStandalone c).mem = s.mem := by
  unfold State.enterStandalone; (try dsimp only); repeat' split
  all_goals first | rfl | simp
@[simp] theorem State.enterStandalone_clock (s : State) (c : StandaloneCause) : (s.enterStandalone c).clock = s.clock := by
  unfold State.enterStandalone; (try dsimp only); repeat' split
  all_goals first | rfl | simp
@[simp] theorem State.enterStandalone_settings (s : State) (c : StandaloneCause) : (s.enterStandalone c).settings = s.settings := by
  unfold State.enterStandalone; (try dsimp only); repeat' split
  all_goals first | rfl | simp
@[simp] theorem State.enterStandalone_plans (s : State) (c : StandaloneCause) : (s.enterStandalone c).plans = s.plans := by
  unfold State.enterStandalone; (try dsimp only); repeat' split
  all_goals first | rfl | simp
@[simp] theorem State.enterStandalone_profiles (s : State) (c : StandaloneCause) : (s.enterStandalone c).profiles = s.profiles := by
  unfold State.enterStandalone; (try dsimp only); repeat' split
  all_goals first | rfl | simp
@[simp] theorem State.enterStandalone_bindings (s : State) (c : StandaloneCause) : (s.enterStandalone c).bindings = s.bindings := by
  unfold State.enterStandalone; (try dsimp only); repeat' split
  all_goals first | rfl | simp
@[simp] theorem State.enterStandalone_index (s : State) (c : StandaloneCause) : (s.enterStandalone c).index = s.index := by
  unfold State.enterStandalone; (try dsimp only); repeat' split
  all_goals first | rfl | simp
@[simp] theorem State.enterStandalone_cache (s : State) (c : StandaloneCause) : (s.enterStandalone c).cache = s.cache := by
  unfold State.enterStandalone; (try dsimp only); repeat' split
  all_goals first | rfl | simp
@[simp] theorem State.enterStandalone_port (s : State) (c : StandaloneCause) : (s.enterStandalone c).port = s.port := by
  unfold State.enterStandalone; (try dsimp only); repeat' split
  all_goals first | rfl | simp
@[simp] theorem State.enterStandalone_lines (s : State) (c : StandaloneCause) : (s.enterStandalone c).lines = s.lines := by
  unfold State.enterStandalone; (try dsimp only); repeat' split
  all_goals first | rfl | simp
@[simp] theorem State.enterStandalone_entries (s : State) (c : StandaloneCause) : (s.enterStandalone c).entries = s.entries := by
  unfold State.enterStandalone; (try dsimp only); repeat' split
  all_goals first | rfl | simp
@[simp] theorem State.enterStandalone_journal (s : State) (c : StandaloneCause) : (s.enterStandalone c).journal = s.journal := by
  unfold State.enterStandalone; (try dsimp only); repeat' split
  all_goals first | rfl | simp
@[simp] theorem State.enterStandalone_landing (s : State) (c : StandaloneCause) : (s.enterStandalone c).landing = s.landing := by
  unfold State.enterStandalone; (try dsimp only); repeat' split
  all_goals first | rfl | simp
@[simp] theorem State.enterStandalone_muster (s : State) (c : StandaloneCause) : (s.enterStandalone c).muster = s.muster := by
  unfold State.enterStandalone; (try dsimp only); repeat' split
  all_goals first | rfl | simp
@[simp] theorem State.enterStandalone_link (s : State) (c : StandaloneCause) : (s.enterStandalone c).link = s.link := by
  unfold State.enterStandalone; (try dsimp only); repeat' split
  all_goals first | rfl | simp
@[simp] theorem State.actOn_pending (s : State) (b : Begun) : (s.actOn b).pending = s.pending := by
  unfold State.actOn; (try dsimp only); repeat' split
  all_goals first | rfl | simp
@[simp] theorem State.actOn_inReset (s : State) (b : Begun) : (s.actOn b).inReset = s.inReset := by
  unfold State.actOn; (try dsimp only); repeat' split
  all_goals first | rfl | simp
@[simp] theorem State.actOn_straps (s : State) (b : Begun) : (s.actOn b).straps = s.straps := by
  unfold State.actOn; (try dsimp only); repeat' split
  all_goals first | rfl | simp
@[simp] theorem State.actOn_startUp (s : State) (b : Begun) : (s.actOn b).startUp = s.startUp := by
  unfold State.actOn; (try dsimp only); repeat' split
  all_goals first | rfl | simp
@[simp] theorem State.actOn_power (s : State) (b : Begun) : (s.actOn b).power = s.power := by
  unfold State.actOn; (try dsimp only); repeat' split
  all_goals first | rfl | simp
@[simp] theorem State.actOn_mem (s : State) (b : Begun) : (s.actOn b).mem = s.mem := by
  unfold State.actOn; (try dsimp only); repeat' split
  all_goals first | rfl | simp
@[simp] theorem State.actOn_clock (s : State) (b : Begun) : (s.actOn b).clock = s.clock := by
  unfold State.actOn; (try dsimp only); repeat' split
  all_goals first | rfl | simp
@[simp] theorem State.actOn_settings (s : State) (b : Begun) : (s.actOn b).settings = s.settings := by
  unfold State.actOn; (try dsimp only); repeat' split
  all_goals first | rfl | simp
@[simp] theorem State.actOn_plans (s : State) (b : Begun) : (s.actOn b).plans = s.plans := by
  unfold State.actOn; (try dsimp only); repeat' split
  all_goals first | rfl | simp
@[simp] theorem State.actOn_profiles (s : State) (b : Begun) : (s.actOn b).profiles = s.profiles := by
  unfold State.actOn; (try dsimp only); repeat' split
  all_goals first | rfl | simp
@[simp] theorem State.actOn_bindings (s : State) (b : Begun) : (s.actOn b).bindings = s.bindings := by
  unfold State.actOn; (try dsimp only); repeat' split
  all_goals first | rfl | simp
@[simp] theorem State.actOn_index (s : State) (b : Begun) : (s.actOn b).index = s.index := by
  unfold State.actOn; (try dsimp only); repeat' split
  all_goals first | rfl | simp
@[simp] theorem State.actOn_cache (s : State) (b : Begun) : (s.actOn b).cache = s.cache := by
  unfold State.actOn; (try dsimp only); repeat' split
  all_goals first | rfl | simp
@[simp] theorem State.actOn_port (s : State) (b : Begun) : (s.actOn b).port = s.port := by
  unfold State.actOn; (try dsimp only); repeat' split
  all_goals first | rfl | simp
@[simp] theorem State.actOn_entries (s : State) (b : Begun) : (s.actOn b).entries = s.entries := by
  unfold State.actOn; (try dsimp only); repeat' split
  all_goals first | rfl | simp
@[simp] theorem State.actOn_journal (s : State) (b : Begun) : (s.actOn b).journal = s.journal := by
  unfold State.actOn; (try dsimp only); repeat' split
  all_goals first | rfl | simp
@[simp] theorem State.actOn_landing (s : State) (b : Begun) : (s.actOn b).landing = s.landing := by
  unfold State.actOn; (try dsimp only); repeat' split
  all_goals first | rfl | simp
@[simp] theorem State.actOn_muster (s : State) (b : Begun) : (s.actOn b).muster = s.muster := by
  unfold State.actOn; (try dsimp only); repeat' split
  all_goals first | rfl | simp
@[simp] theorem State.actOn_link (s : State) (b : Begun) : (s.actOn b).link = s.link := by
  unfold State.actOn; (try dsimp only); repeat' split
  all_goals first | rfl | simp
@[simp] theorem State.beginCondition_pending (s : State) (x : FaultSource) : (s.beginCondition x).pending = s.pending := by
  unfold State.beginCondition; (try dsimp only); repeat' split
  all_goals first | rfl | simp
@[simp] theorem State.beginCondition_inReset (s : State) (x : FaultSource) : (s.beginCondition x).inReset = s.inReset := by
  unfold State.beginCondition; (try dsimp only); repeat' split
  all_goals first | rfl | simp
@[simp] theorem State.beginCondition_straps (s : State) (x : FaultSource) : (s.beginCondition x).straps = s.straps := by
  unfold State.beginCondition; (try dsimp only); repeat' split
  all_goals first | rfl | simp
@[simp] theorem State.beginCondition_startUp (s : State) (x : FaultSource) : (s.beginCondition x).startUp = s.startUp := by
  unfold State.beginCondition; (try dsimp only); repeat' split
  all_goals first | rfl | simp
@[simp] theorem State.beginCondition_power (s : State) (x : FaultSource) : (s.beginCondition x).power = s.power := by
  unfold State.beginCondition; (try dsimp only); repeat' split
  all_goals first | rfl | simp
@[simp] theorem State.beginCondition_mem (s : State) (x : FaultSource) : (s.beginCondition x).mem = s.mem := by
  unfold State.beginCondition; (try dsimp only); repeat' split
  all_goals first | rfl | simp
@[simp] theorem State.beginCondition_clock (s : State) (x : FaultSource) : (s.beginCondition x).clock = s.clock := by
  unfold State.beginCondition; (try dsimp only); repeat' split
  all_goals first | rfl | simp
@[simp] theorem State.beginCondition_settings (s : State) (x : FaultSource) : (s.beginCondition x).settings = s.settings := by
  unfold State.beginCondition; (try dsimp only); repeat' split
  all_goals first | rfl | simp
@[simp] theorem State.beginCondition_plans (s : State) (x : FaultSource) : (s.beginCondition x).plans = s.plans := by
  unfold State.beginCondition; (try dsimp only); repeat' split
  all_goals first | rfl | simp
@[simp] theorem State.beginCondition_profiles (s : State) (x : FaultSource) : (s.beginCondition x).profiles = s.profiles := by
  unfold State.beginCondition; (try dsimp only); repeat' split
  all_goals first | rfl | simp
@[simp] theorem State.beginCondition_bindings (s : State) (x : FaultSource) : (s.beginCondition x).bindings = s.bindings := by
  unfold State.beginCondition; (try dsimp only); repeat' split
  all_goals first | rfl | simp
@[simp] theorem State.beginCondition_index (s : State) (x : FaultSource) : (s.beginCondition x).index = s.index := by
  unfold State.beginCondition; (try dsimp only); repeat' split
  all_goals first | rfl | simp
@[simp] theorem State.beginCondition_cache (s : State) (x : FaultSource) : (s.beginCondition x).cache = s.cache := by
  unfold State.beginCondition; (try dsimp only); repeat' split
  all_goals first | rfl | simp
@[simp] theorem State.beginCondition_port (s : State) (x : FaultSource) : (s.beginCondition x).port = s.port := by
  unfold State.beginCondition; (try dsimp only); repeat' split
  all_goals first | rfl | simp
@[simp] theorem State.beginCondition_entries (s : State) (x : FaultSource) : (s.beginCondition x).entries = s.entries := by
  unfold State.beginCondition; (try dsimp only); repeat' split
  all_goals first | rfl | simp
@[simp] theorem State.beginCondition_journal (s : State) (x : FaultSource) : (s.beginCondition x).journal = s.journal := by
  unfold State.beginCondition; (try dsimp only); repeat' split
  all_goals first | rfl | simp
@[simp] theorem State.beginCondition_landing (s : State) (x : FaultSource) : (s.beginCondition x).landing = s.landing := by
  unfold State.beginCondition; (try dsimp only); repeat' split
  all_goals first | rfl | simp
@[simp] theorem State.beginCondition_muster (s : State) (x : FaultSource) : (s.beginCondition x).muster = s.muster := by
  unfold State.beginCondition; (try dsimp only); repeat' split
  all_goals first | rfl | simp
@[simp] theorem State.beginCondition_link (s : State) (x : FaultSource) : (s.beginCondition x).link = s.link := by
  unfold State.beginCondition; (try dsimp only); repeat' split
  all_goals first | rfl | simp
@[simp] theorem State.setCondition_pending (s : State) (x : FaultSource) (p : Bool) : (s.setCondition x p).pending = s.pending := by
  unfold State.setCondition; (try dsimp only); repeat' split
  all_goals first | rfl | simp
@[simp] theorem State.setCondition_inReset (s : State) (x : FaultSource) (p : Bool) : (s.setCondition x p).inReset = s.inReset := by
  unfold State.setCondition; (try dsimp only); repeat' split
  all_goals first | rfl | simp
@[simp] theorem State.setCondition_straps (s : State) (x : FaultSource) (p : Bool) : (s.setCondition x p).straps = s.straps := by
  unfold State.setCondition; (try dsimp only); repeat' split
  all_goals first | rfl | simp
@[simp] theorem State.setCondition_startUp (s : State) (x : FaultSource) (p : Bool) : (s.setCondition x p).startUp = s.startUp := by
  unfold State.setCondition; (try dsimp only); repeat' split
  all_goals first | rfl | simp
@[simp] theorem State.setCondition_power (s : State) (x : FaultSource) (p : Bool) : (s.setCondition x p).power = s.power := by
  unfold State.setCondition; (try dsimp only); repeat' split
  all_goals first | rfl | simp
@[simp] theorem State.setCondition_mem (s : State) (x : FaultSource) (p : Bool) : (s.setCondition x p).mem = s.mem := by
  unfold State.setCondition; (try dsimp only); repeat' split
  all_goals first | rfl | simp
@[simp] theorem State.setCondition_clock (s : State) (x : FaultSource) (p : Bool) : (s.setCondition x p).clock = s.clock := by
  unfold State.setCondition; (try dsimp only); repeat' split
  all_goals first | rfl | simp
@[simp] theorem State.setCondition_settings (s : State) (x : FaultSource) (p : Bool) : (s.setCondition x p).settings = s.settings := by
  unfold State.setCondition; (try dsimp only); repeat' split
  all_goals first | rfl | simp
@[simp] theorem State.setCondition_plans (s : State) (x : FaultSource) (p : Bool) : (s.setCondition x p).plans = s.plans := by
  unfold State.setCondition; (try dsimp only); repeat' split
  all_goals first | rfl | simp
@[simp] theorem State.setCondition_profiles (s : State) (x : FaultSource) (p : Bool) : (s.setCondition x p).profiles = s.profiles := by
  unfold State.setCondition; (try dsimp only); repeat' split
  all_goals first | rfl | simp
@[simp] theorem State.setCondition_bindings (s : State) (x : FaultSource) (p : Bool) : (s.setCondition x p).bindings = s.bindings := by
  unfold State.setCondition; (try dsimp only); repeat' split
  all_goals first | rfl | simp
@[simp] theorem State.setCondition_index (s : State) (x : FaultSource) (p : Bool) : (s.setCondition x p).index = s.index := by
  unfold State.setCondition; (try dsimp only); repeat' split
  all_goals first | rfl | simp
@[simp] theorem State.setCondition_cache (s : State) (x : FaultSource) (p : Bool) : (s.setCondition x p).cache = s.cache := by
  unfold State.setCondition; (try dsimp only); repeat' split
  all_goals first | rfl | simp
@[simp] theorem State.setCondition_port (s : State) (x : FaultSource) (p : Bool) : (s.setCondition x p).port = s.port := by
  unfold State.setCondition; (try dsimp only); repeat' split
  all_goals first | rfl | simp
@[simp] theorem State.setCondition_entries (s : State) (x : FaultSource) (p : Bool) : (s.setCondition x p).entries = s.entries := by
  unfold State.setCondition; (try dsimp only); repeat' split
  all_goals first | rfl | simp
@[simp] theorem State.setCondition_journal (s : State) (x : FaultSource) (p : Bool) : (s.setCondition x p).journal = s.journal := by
  unfold State.setCondition; (try dsimp only); repeat' split
  all_goals first | rfl | simp
@[simp] theorem State.setCondition_landing (s : State) (x : FaultSource) (p : Bool) : (s.setCondition x p).landing = s.landing := by
  unfold State.setCondition; (try dsimp only); repeat' split
  all_goals first | rfl | simp
@[simp] theorem State.setCondition_muster (s : State) (x : FaultSource) (p : Bool) : (s.setCondition x p).muster = s.muster := by
  unfold State.setCondition; (try dsimp only); repeat' split
  all_goals first | rfl | simp
@[simp] theorem State.setCondition_link (s : State) (x : FaultSource) (p : Bool) : (s.setCondition x p).link = s.link := by
  unfold State.setCondition; (try dsimp only); repeat' split
  all_goals first | rfl | simp
@[simp] theorem State.reviewRouter_pending (s : State) (m : Bool) : (s.reviewRouter m).pending = s.pending := by
  unfold State.reviewRouter; (try dsimp only); repeat' split
  all_goals first | rfl | simp
@[simp] theorem State.reviewRouter_inReset (s : State) (m : Bool) : (s.reviewRouter m).inReset = s.inReset := by
  unfold State.reviewRouter; (try dsimp only); repeat' split
  all_goals first | rfl | simp
@[simp] theorem State.reviewRouter_straps (s : State) (m : Bool) : (s.reviewRouter m).straps = s.straps := by
  unfold State.reviewRouter; (try dsimp only); repeat' split
  all_goals first | rfl | simp
@[simp] theorem State.reviewRouter_startUp (s : State) (m : Bool) : (s.reviewRouter m).startUp = s.startUp := by
  unfold State.reviewRouter; (try dsimp only); repeat' split
  all_goals first | rfl | simp
@[simp] theorem State.reviewRouter_power (s : State) (m : Bool) : (s.reviewRouter m).power = s.power := by
  unfold State.reviewRouter; (try dsimp only); repeat' split
  all_goals first | rfl | simp
@[simp] theorem State.reviewRouter_mem (s : State) (m : Bool) : (s.reviewRouter m).mem = s.mem := by
  unfold State.reviewRouter; (try dsimp only); repeat' split
  all_goals first | rfl | simp
@[simp] theorem State.reviewRouter_clock (s : State) (m : Bool) : (s.reviewRouter m).clock = s.clock := by
  unfold State.reviewRouter; (try dsimp only); repeat' split
  all_goals first | rfl | simp
@[simp] theorem State.reviewRouter_settings (s : State) (m : Bool) : (s.reviewRouter m).settings = s.settings := by
  unfold State.reviewRouter; (try dsimp only); repeat' split
  all_goals first | rfl | simp
@[simp] theorem State.reviewRouter_plans (s : State) (m : Bool) : (s.reviewRouter m).plans = s.plans := by
  unfold State.reviewRouter; (try dsimp only); repeat' split
  all_goals first | rfl | simp
@[simp] theorem State.reviewRouter_profiles (s : State) (m : Bool) : (s.reviewRouter m).profiles = s.profiles := by
  unfold State.reviewRouter; (try dsimp only); repeat' split
  all_goals first | rfl | simp
@[simp] theorem State.reviewRouter_bindings (s : State) (m : Bool) : (s.reviewRouter m).bindings = s.bindings := by
  unfold State.reviewRouter; (try dsimp only); repeat' split
  all_goals first | rfl | simp
@[simp] theorem State.reviewRouter_index (s : State) (m : Bool) : (s.reviewRouter m).index = s.index := by
  unfold State.reviewRouter; (try dsimp only); repeat' split
  all_goals first | rfl | simp
@[simp] theorem State.reviewRouter_cache (s : State) (m : Bool) : (s.reviewRouter m).cache = s.cache := by
  unfold State.reviewRouter; (try dsimp only); repeat' split
  all_goals first | rfl | simp
@[simp] theorem State.reviewRouter_port (s : State) (m : Bool) : (s.reviewRouter m).port = s.port := by
  unfold State.reviewRouter; (try dsimp only); repeat' split
  all_goals first | rfl | simp
@[simp] theorem State.reviewRouter_lines (s : State) (m : Bool) : (s.reviewRouter m).lines = s.lines := by
  unfold State.reviewRouter; (try dsimp only); repeat' split
  all_goals first | rfl | simp
@[simp] theorem State.reviewRouter_entries (s : State) (m : Bool) : (s.reviewRouter m).entries = s.entries := by
  unfold State.reviewRouter; (try dsimp only); repeat' split
  all_goals first | rfl | simp
@[simp] theorem State.reviewRouter_journal (s : State) (m : Bool) : (s.reviewRouter m).journal = s.journal := by
  unfold State.reviewRouter; (try dsimp only); repeat' split
  all_goals first | rfl | simp
@[simp] theorem State.reviewRouter_landing (s : State) (m : Bool) : (s.reviewRouter m).landing = s.landing := by
  unfold State.reviewRouter; (try dsimp only); repeat' split
  all_goals first | rfl | simp
@[simp] theorem State.reviewRouter_muster (s : State) (m : Bool) : (s.reviewRouter m).muster = s.muster := by
  unfold State.reviewRouter; (try dsimp only); repeat' split
  all_goals first | rfl | simp
@[simp] theorem State.reviewRouter_link (s : State) (m : Bool) : (s.reviewRouter m).link = s.link := by
  unfold State.reviewRouter; (try dsimp only); repeat' split
  all_goals first | rfl | simp
@[simp] theorem State.reviewRouter_notices (s : State) (m : Bool) : (s.reviewRouter m).notices = s.notices := by
  unfold State.reviewRouter; (try dsimp only); repeat' split
  all_goals first | rfl | simp
@[simp] theorem State.escalate_pending (s : State) : s.escalate.pending = s.pending := by
  unfold State.escalate; (try dsimp only); repeat' split
  all_goals first | rfl | simp
@[simp] theorem State.escalate_inReset (s : State) : s.escalate.inReset = s.inReset := by
  unfold State.escalate; (try dsimp only); repeat' split
  all_goals first | rfl | simp
@[simp] theorem State.escalate_straps (s : State) : s.escalate.straps = s.straps := by
  unfold State.escalate; (try dsimp only); repeat' split
  all_goals first | rfl | simp
@[simp] theorem State.escalate_startUp (s : State) : s.escalate.startUp = s.startUp := by
  unfold State.escalate; (try dsimp only); repeat' split
  all_goals first | rfl | simp
@[simp] theorem State.escalate_power (s : State) : s.escalate.power = s.power := by
  unfold State.escalate; (try dsimp only); repeat' split
  all_goals first | rfl | simp
@[simp] theorem State.escalate_mem (s : State) : s.escalate.mem = s.mem := by
  unfold State.escalate; (try dsimp only); repeat' split
  all_goals first | rfl | simp
@[simp] theorem State.escalate_clock (s : State) : s.escalate.clock = s.clock := by
  unfold State.escalate; (try dsimp only); repeat' split
  all_goals first | rfl | simp
@[simp] theorem State.escalate_settings (s : State) : s.escalate.settings = s.settings := by
  unfold State.escalate; (try dsimp only); repeat' split
  all_goals first | rfl | simp
@[simp] theorem State.escalate_plans (s : State) : s.escalate.plans = s.plans := by
  unfold State.escalate; (try dsimp only); repeat' split
  all_goals first | rfl | simp
@[simp] theorem State.escalate_profiles (s : State) : s.escalate.profiles = s.profiles := by
  unfold State.escalate; (try dsimp only); repeat' split
  all_goals first | rfl | simp
@[simp] theorem State.escalate_bindings (s : State) : s.escalate.bindings = s.bindings := by
  unfold State.escalate; (try dsimp only); repeat' split
  all_goals first | rfl | simp
@[simp] theorem State.escalate_index (s : State) : s.escalate.index = s.index := by
  unfold State.escalate; (try dsimp only); repeat' split
  all_goals first | rfl | simp
@[simp] theorem State.escalate_cache (s : State) : s.escalate.cache = s.cache := by
  unfold State.escalate; (try dsimp only); repeat' split
  all_goals first | rfl | simp
@[simp] theorem State.escalate_port (s : State) : s.escalate.port = s.port := by
  unfold State.escalate; (try dsimp only); repeat' split
  all_goals first | rfl | simp
@[simp] theorem State.escalate_lines (s : State) : s.escalate.lines = s.lines := by
  unfold State.escalate; (try dsimp only); repeat' split
  all_goals first | rfl | simp
@[simp] theorem State.escalate_entries (s : State) : s.escalate.entries = s.entries := by
  unfold State.escalate; (try dsimp only); repeat' split
  all_goals first | rfl | simp
@[simp] theorem State.escalate_journal (s : State) : s.escalate.journal = s.journal := by
  unfold State.escalate; (try dsimp only); repeat' split
  all_goals first | rfl | simp
@[simp] theorem State.escalate_landing (s : State) : s.escalate.landing = s.landing := by
  unfold State.escalate; (try dsimp only); repeat' split
  all_goals first | rfl | simp
@[simp] theorem State.escalate_muster (s : State) : s.escalate.muster = s.muster := by
  unfold State.escalate; (try dsimp only); repeat' split
  all_goals first | rfl | simp
@[simp] theorem State.escalate_link (s : State) : s.escalate.link = s.link := by
  unfold State.escalate; (try dsimp only); repeat' split
  all_goals first | rfl | simp
@[simp] theorem State.finish_pending (s : State) (r : Result) (b : ReplyBody) : (s.finish r b).pending = s.pending := by
  unfold State.finish; (try dsimp only); repeat' split
  all_goals first | rfl | simp
@[simp] theorem State.finish_inReset (s : State) (r : Result) (b : ReplyBody) : (s.finish r b).inReset = s.inReset := by
  unfold State.finish; (try dsimp only); repeat' split
  all_goals first | rfl | simp
@[simp] theorem State.finish_straps (s : State) (r : Result) (b : ReplyBody) : (s.finish r b).straps = s.straps := by
  unfold State.finish; (try dsimp only); repeat' split
  all_goals first | rfl | simp
@[simp] theorem State.finish_startUp (s : State) (r : Result) (b : ReplyBody) : (s.finish r b).startUp = s.startUp := by
  unfold State.finish; (try dsimp only); repeat' split
  all_goals first | rfl | simp
@[simp] theorem State.finish_power (s : State) (r : Result) (b : ReplyBody) : (s.finish r b).power = s.power := by
  unfold State.finish; (try dsimp only); repeat' split
  all_goals first | rfl | simp
@[simp] theorem State.finish_pins (s : State) (r : Result) (b : ReplyBody) : (s.finish r b).pins = s.pins := by
  unfold State.finish; (try dsimp only); repeat' split
  all_goals first | rfl | simp
@[simp] theorem State.finish_mem (s : State) (r : Result) (b : ReplyBody) : (s.finish r b).mem = s.mem := by
  unfold State.finish; (try dsimp only); repeat' split
  all_goals first | rfl | simp
@[simp] theorem State.finish_clock (s : State) (r : Result) (b : ReplyBody) : (s.finish r b).clock = s.clock := by
  unfold State.finish; (try dsimp only); repeat' split
  all_goals first | rfl | simp
@[simp] theorem State.finish_settings (s : State) (r : Result) (b : ReplyBody) : (s.finish r b).settings = s.settings := by
  unfold State.finish; (try dsimp only); repeat' split
  all_goals first | rfl | simp
@[simp] theorem State.finish_plans (s : State) (r : Result) (b : ReplyBody) : (s.finish r b).plans = s.plans := by
  unfold State.finish; (try dsimp only); repeat' split
  all_goals first | rfl | simp
@[simp] theorem State.finish_profiles (s : State) (r : Result) (b : ReplyBody) : (s.finish r b).profiles = s.profiles := by
  unfold State.finish; (try dsimp only); repeat' split
  all_goals first | rfl | simp
@[simp] theorem State.finish_bindings (s : State) (r : Result) (b : ReplyBody) : (s.finish r b).bindings = s.bindings := by
  unfold State.finish; (try dsimp only); repeat' split
  all_goals first | rfl | simp
@[simp] theorem State.finish_index (s : State) (r : Result) (b : ReplyBody) : (s.finish r b).index = s.index := by
  unfold State.finish; (try dsimp only); repeat' split
  all_goals first | rfl | simp
@[simp] theorem State.finish_cache (s : State) (r : Result) (b : ReplyBody) : (s.finish r b).cache = s.cache := by
  unfold State.finish; (try dsimp only); repeat' split
  all_goals first | rfl | simp
@[simp] theorem State.finish_port (s : State) (r : Result) (b : ReplyBody) : (s.finish r b).port = s.port := by
  unfold State.finish; (try dsimp only); repeat' split
  all_goals first | rfl | simp
@[simp] theorem State.finish_lines (s : State) (r : Result) (b : ReplyBody) : (s.finish r b).lines = s.lines := by
  unfold State.finish; (try dsimp only); repeat' split
  all_goals first | rfl | simp
@[simp] theorem State.finish_entries (s : State) (r : Result) (b : ReplyBody) : (s.finish r b).entries = s.entries := by
  unfold State.finish; (try dsimp only); repeat' split
  all_goals first | rfl | simp
@[simp] theorem State.finish_journal (s : State) (r : Result) (b : ReplyBody) : (s.finish r b).journal = s.journal := by
  unfold State.finish; (try dsimp only); repeat' split
  all_goals first | rfl | simp
@[simp] theorem State.finish_landing (s : State) (r : Result) (b : ReplyBody) : (s.finish r b).landing = s.landing := by
  unfold State.finish; (try dsimp only); repeat' split
  all_goals first | rfl | simp
@[simp] theorem State.finish_muster (s : State) (r : Result) (b : ReplyBody) : (s.finish r b).muster = s.muster := by
  unfold State.finish; (try dsimp only); repeat' split
  all_goals first | rfl | simp
@[simp] theorem State.finish_router (s : State) (r : Result) (b : ReplyBody) : (s.finish r b).router = s.router := by
  unfold State.finish; (try dsimp only); repeat' split
  all_goals first | rfl | simp
@[simp] theorem State.finish_notices (s : State) (r : Result) (b : ReplyBody) : (s.finish r b).notices = s.notices := by
  unfold State.finish; (try dsimp only); repeat' split
  all_goals first | rfl | simp
@[simp] theorem State.awaitPlace_pending (s : State) (w : PlaceWaiter) : (s.awaitPlace w).pending = s.pending := by
  unfold State.awaitPlace; (try dsimp only); repeat' split
  all_goals first | rfl | simp
@[simp] theorem State.awaitPlace_inReset (s : State) (w : PlaceWaiter) : (s.awaitPlace w).inReset = s.inReset := by
  unfold State.awaitPlace; (try dsimp only); repeat' split
  all_goals first | rfl | simp
@[simp] theorem State.awaitPlace_straps (s : State) (w : PlaceWaiter) : (s.awaitPlace w).straps = s.straps := by
  unfold State.awaitPlace; (try dsimp only); repeat' split
  all_goals first | rfl | simp
@[simp] theorem State.awaitPlace_startUp (s : State) (w : PlaceWaiter) : (s.awaitPlace w).startUp = s.startUp := by
  unfold State.awaitPlace; (try dsimp only); repeat' split
  all_goals first | rfl | simp
@[simp] theorem State.awaitPlace_power (s : State) (w : PlaceWaiter) : (s.awaitPlace w).power = s.power := by
  unfold State.awaitPlace; (try dsimp only); repeat' split
  all_goals first | rfl | simp
@[simp] theorem State.awaitPlace_pins (s : State) (w : PlaceWaiter) : (s.awaitPlace w).pins = s.pins := by
  unfold State.awaitPlace; (try dsimp only); repeat' split
  all_goals first | rfl | simp
@[simp] theorem State.awaitPlace_mem (s : State) (w : PlaceWaiter) : (s.awaitPlace w).mem = s.mem := by
  unfold State.awaitPlace; (try dsimp only); repeat' split
  all_goals first | rfl | simp
@[simp] theorem State.awaitPlace_clock (s : State) (w : PlaceWaiter) : (s.awaitPlace w).clock = s.clock := by
  unfold State.awaitPlace; (try dsimp only); repeat' split
  all_goals first | rfl | simp
@[simp] theorem State.awaitPlace_settings (s : State) (w : PlaceWaiter) : (s.awaitPlace w).settings = s.settings := by
  unfold State.awaitPlace; (try dsimp only); repeat' split
  all_goals first | rfl | simp
@[simp] theorem State.awaitPlace_plans (s : State) (w : PlaceWaiter) : (s.awaitPlace w).plans = s.plans := by
  unfold State.awaitPlace; (try dsimp only); repeat' split
  all_goals first | rfl | simp
@[simp] theorem State.awaitPlace_profiles (s : State) (w : PlaceWaiter) : (s.awaitPlace w).profiles = s.profiles := by
  unfold State.awaitPlace; (try dsimp only); repeat' split
  all_goals first | rfl | simp
@[simp] theorem State.awaitPlace_bindings (s : State) (w : PlaceWaiter) : (s.awaitPlace w).bindings = s.bindings := by
  unfold State.awaitPlace; (try dsimp only); repeat' split
  all_goals first | rfl | simp
@[simp] theorem State.awaitPlace_index (s : State) (w : PlaceWaiter) : (s.awaitPlace w).index = s.index := by
  unfold State.awaitPlace; (try dsimp only); repeat' split
  all_goals first | rfl | simp
@[simp] theorem State.awaitPlace_cache (s : State) (w : PlaceWaiter) : (s.awaitPlace w).cache = s.cache := by
  unfold State.awaitPlace; (try dsimp only); repeat' split
  all_goals first | rfl | simp
@[simp] theorem State.awaitPlace_lines (s : State) (w : PlaceWaiter) : (s.awaitPlace w).lines = s.lines := by
  unfold State.awaitPlace; (try dsimp only); repeat' split
  all_goals first | rfl | simp
@[simp] theorem State.awaitPlace_entries (s : State) (w : PlaceWaiter) : (s.awaitPlace w).entries = s.entries := by
  unfold State.awaitPlace; (try dsimp only); repeat' split
  all_goals first | rfl | simp
@[simp] theorem State.awaitPlace_journal (s : State) (w : PlaceWaiter) : (s.awaitPlace w).journal = s.journal := by
  unfold State.awaitPlace; (try dsimp only); repeat' split
  all_goals first | rfl | simp
@[simp] theorem State.awaitPlace_landing (s : State) (w : PlaceWaiter) : (s.awaitPlace w).landing = s.landing := by
  unfold State.awaitPlace; (try dsimp only); repeat' split
  all_goals first | rfl | simp
@[simp] theorem State.awaitPlace_muster (s : State) (w : PlaceWaiter) : (s.awaitPlace w).muster = s.muster := by
  unfold State.awaitPlace; (try dsimp only); repeat' split
  all_goals first | rfl | simp
@[simp] theorem State.awaitPlace_router (s : State) (w : PlaceWaiter) : (s.awaitPlace w).router = s.router := by
  unfold State.awaitPlace; (try dsimp only); repeat' split
  all_goals first | rfl | simp
@[simp] theorem State.awaitPlace_link (s : State) (w : PlaceWaiter) : (s.awaitPlace w).link = s.link := by
  unfold State.awaitPlace; (try dsimp only); repeat' split
  all_goals first | rfl | simp
@[simp] theorem State.awaitPlace_notices (s : State) (w : PlaceWaiter) : (s.awaitPlace w).notices = s.notices := by
  unfold State.awaitPlace; (try dsimp only); repeat' split
  all_goals first | rfl | simp
@[simp] theorem State.takenSlot_pending (s : State) (j : Job) : (s.takenSlot j).pending = s.pending := by
  unfold State.takenSlot; (try dsimp only); repeat' split
  all_goals first | rfl | simp
@[simp] theorem State.takenSlot_inReset (s : State) (j : Job) : (s.takenSlot j).inReset = s.inReset := by
  unfold State.takenSlot; (try dsimp only); repeat' split
  all_goals first | rfl | simp
@[simp] theorem State.takenSlot_straps (s : State) (j : Job) : (s.takenSlot j).straps = s.straps := by
  unfold State.takenSlot; (try dsimp only); repeat' split
  all_goals first | rfl | simp
@[simp] theorem State.takenSlot_startUp (s : State) (j : Job) : (s.takenSlot j).startUp = s.startUp := by
  unfold State.takenSlot; (try dsimp only); repeat' split
  all_goals first | rfl | simp
@[simp] theorem State.takenSlot_power (s : State) (j : Job) : (s.takenSlot j).power = s.power := by
  unfold State.takenSlot; (try dsimp only); repeat' split
  all_goals first | rfl | simp
@[simp] theorem State.takenSlot_pins (s : State) (j : Job) : (s.takenSlot j).pins = s.pins := by
  unfold State.takenSlot; (try dsimp only); repeat' split
  all_goals first | rfl | simp
@[simp] theorem State.takenSlot_mem (s : State) (j : Job) : (s.takenSlot j).mem = s.mem := by
  unfold State.takenSlot; (try dsimp only); repeat' split
  all_goals first | rfl | simp
@[simp] theorem State.takenSlot_clock (s : State) (j : Job) : (s.takenSlot j).clock = s.clock := by
  unfold State.takenSlot; (try dsimp only); repeat' split
  all_goals first | rfl | simp
@[simp] theorem State.takenSlot_settings (s : State) (j : Job) : (s.takenSlot j).settings = s.settings := by
  unfold State.takenSlot; (try dsimp only); repeat' split
  all_goals first | rfl | simp
@[simp] theorem State.takenSlot_plans (s : State) (j : Job) : (s.takenSlot j).plans = s.plans := by
  unfold State.takenSlot; (try dsimp only); repeat' split
  all_goals first | rfl | simp
@[simp] theorem State.takenSlot_profiles (s : State) (j : Job) : (s.takenSlot j).profiles = s.profiles := by
  unfold State.takenSlot; (try dsimp only); repeat' split
  all_goals first | rfl | simp
@[simp] theorem State.takenSlot_bindings (s : State) (j : Job) : (s.takenSlot j).bindings = s.bindings := by
  unfold State.takenSlot; (try dsimp only); repeat' split
  all_goals first | rfl | simp
@[simp] theorem State.takenSlot_index (s : State) (j : Job) : (s.takenSlot j).index = s.index := by
  unfold State.takenSlot; (try dsimp only); repeat' split
  all_goals first | rfl | simp
@[simp] theorem State.takenSlot_port (s : State) (j : Job) : (s.takenSlot j).port = s.port := by
  unfold State.takenSlot; (try dsimp only); repeat' split
  all_goals first | rfl | simp
@[simp] theorem State.takenSlot_lines (s : State) (j : Job) : (s.takenSlot j).lines = s.lines := by
  unfold State.takenSlot; (try dsimp only); repeat' split
  all_goals first | rfl | simp
@[simp] theorem State.takenSlot_entries (s : State) (j : Job) : (s.takenSlot j).entries = s.entries := by
  unfold State.takenSlot; (try dsimp only); repeat' split
  all_goals first | rfl | simp
@[simp] theorem State.takenSlot_journal (s : State) (j : Job) : (s.takenSlot j).journal = s.journal := by
  unfold State.takenSlot; (try dsimp only); repeat' split
  all_goals first | rfl | simp
@[simp] theorem State.takenSlot_landing (s : State) (j : Job) : (s.takenSlot j).landing = s.landing := by
  unfold State.takenSlot; (try dsimp only); repeat' split
  all_goals first | rfl | simp
@[simp] theorem State.takenSlot_muster (s : State) (j : Job) : (s.takenSlot j).muster = s.muster := by
  unfold State.takenSlot; (try dsimp only); repeat' split
  all_goals first | rfl | simp
@[simp] theorem State.takenSlot_router (s : State) (j : Job) : (s.takenSlot j).router = s.router := by
  unfold State.takenSlot; (try dsimp only); repeat' split
  all_goals first | rfl | simp
@[simp] theorem State.takenSlot_link (s : State) (j : Job) : (s.takenSlot j).link = s.link := by
  unfold State.takenSlot; (try dsimp only); repeat' split
  all_goals first | rfl | simp
@[simp] theorem State.takenSlot_notices (s : State) (j : Job) : (s.takenSlot j).notices = s.notices := by
  unfold State.takenSlot; (try dsimp only); repeat' split
  all_goals first | rfl | simp
@[simp] theorem State.startJob_pending (s : State) (j : Job) : (s.startJob j).pending = s.pending := by
  unfold State.startJob; (try dsimp only); repeat' split
  all_goals first | rfl | simp
@[simp] theorem State.startJob_inReset (s : State) (j : Job) : (s.startJob j).inReset = s.inReset := by
  unfold State.startJob; (try dsimp only); repeat' split
  all_goals first | rfl | simp
@[simp] theorem State.startJob_straps (s : State) (j : Job) : (s.startJob j).straps = s.straps := by
  unfold State.startJob; (try dsimp only); repeat' split
  all_goals first | rfl | simp
@[simp] theorem State.startJob_startUp (s : State) (j : Job) : (s.startJob j).startUp = s.startUp := by
  unfold State.startJob; (try dsimp only); repeat' split
  all_goals first | rfl | simp
@[simp] theorem State.startJob_power (s : State) (j : Job) : (s.startJob j).power = s.power := by
  unfold State.startJob; (try dsimp only); repeat' split
  all_goals first | rfl | simp
@[simp] theorem State.startJob_pins (s : State) (j : Job) : (s.startJob j).pins = s.pins := by
  unfold State.startJob; (try dsimp only); repeat' split
  all_goals first | rfl | simp
@[simp] theorem State.startJob_mem (s : State) (j : Job) : (s.startJob j).mem = s.mem := by
  unfold State.startJob; (try dsimp only); repeat' split
  all_goals first | rfl | simp
@[simp] theorem State.startJob_clock (s : State) (j : Job) : (s.startJob j).clock = s.clock := by
  unfold State.startJob; (try dsimp only); repeat' split
  all_goals first | rfl | simp
@[simp] theorem State.startJob_settings (s : State) (j : Job) : (s.startJob j).settings = s.settings := by
  unfold State.startJob; (try dsimp only); repeat' split
  all_goals first | rfl | simp
@[simp] theorem State.startJob_plans (s : State) (j : Job) : (s.startJob j).plans = s.plans := by
  unfold State.startJob; (try dsimp only); repeat' split
  all_goals first | rfl | simp
@[simp] theorem State.startJob_profiles (s : State) (j : Job) : (s.startJob j).profiles = s.profiles := by
  unfold State.startJob; (try dsimp only); repeat' split
  all_goals first | rfl | simp
@[simp] theorem State.startJob_bindings (s : State) (j : Job) : (s.startJob j).bindings = s.bindings := by
  unfold State.startJob; (try dsimp only); repeat' split
  all_goals first | rfl | simp
@[simp] theorem State.startJob_index (s : State) (j : Job) : (s.startJob j).index = s.index := by
  unfold State.startJob; (try dsimp only); repeat' split
  all_goals first | rfl | simp
@[simp] theorem State.startJob_lines (s : State) (j : Job) : (s.startJob j).lines = s.lines := by
  unfold State.startJob; (try dsimp only); repeat' split
  all_goals first | rfl | simp
@[simp] theorem State.startJob_entries (s : State) (j : Job) : (s.startJob j).entries = s.entries := by
  unfold State.startJob; (try dsimp only); repeat' split
  all_goals first | rfl | simp
@[simp] theorem State.startJob_journal (s : State) (j : Job) : (s.startJob j).journal = s.journal := by
  unfold State.startJob; (try dsimp only); repeat' split
  all_goals first | rfl | simp
@[simp] theorem State.startJob_landing (s : State) (j : Job) : (s.startJob j).landing = s.landing := by
  unfold State.startJob; (try dsimp only); repeat' split
  all_goals first | rfl | simp
@[simp] theorem State.startJob_muster (s : State) (j : Job) : (s.startJob j).muster = s.muster := by
  unfold State.startJob; (try dsimp only); repeat' split
  all_goals first | rfl | simp
@[simp] theorem State.startJob_router (s : State) (j : Job) : (s.startJob j).router = s.router := by
  unfold State.startJob; (try dsimp only); repeat' split
  all_goals first | rfl | simp
@[simp] theorem State.startJob_link (s : State) (j : Job) : (s.startJob j).link = s.link := by
  unfold State.startJob; (try dsimp only); repeat' split
  all_goals first | rfl | simp
@[simp] theorem State.startJob_notices (s : State) (j : Job) : (s.startJob j).notices = s.notices := by
  unfold State.startJob; (try dsimp only); repeat' split
  all_goals first | rfl | simp
@[simp] theorem State.pump_pending (s : State) : s.pump.pending = s.pending := by
  unfold State.pump; (try dsimp only); repeat' split
  all_goals first | rfl | simp
@[simp] theorem State.pump_inReset (s : State) : s.pump.inReset = s.inReset := by
  unfold State.pump; (try dsimp only); repeat' split
  all_goals first | rfl | simp
@[simp] theorem State.pump_straps (s : State) : s.pump.straps = s.straps := by
  unfold State.pump; (try dsimp only); repeat' split
  all_goals first | rfl | simp
@[simp] theorem State.pump_startUp (s : State) : s.pump.startUp = s.startUp := by
  unfold State.pump; (try dsimp only); repeat' split
  all_goals first | rfl | simp
@[simp] theorem State.pump_power (s : State) : s.pump.power = s.power := by
  unfold State.pump; (try dsimp only); repeat' split
  all_goals first | rfl | simp
@[simp] theorem State.pump_pins (s : State) : s.pump.pins = s.pins := by
  unfold State.pump; (try dsimp only); repeat' split
  all_goals first | rfl | simp
@[simp] theorem State.pump_mem (s : State) : s.pump.mem = s.mem := by
  unfold State.pump; (try dsimp only); repeat' split
  all_goals first | rfl | simp
@[simp] theorem State.pump_clock (s : State) : s.pump.clock = s.clock := by
  unfold State.pump; (try dsimp only); repeat' split
  all_goals first | rfl | simp
@[simp] theorem State.pump_settings (s : State) : s.pump.settings = s.settings := by
  unfold State.pump; (try dsimp only); repeat' split
  all_goals first | rfl | simp
@[simp] theorem State.pump_plans (s : State) : s.pump.plans = s.plans := by
  unfold State.pump; (try dsimp only); repeat' split
  all_goals first | rfl | simp
@[simp] theorem State.pump_profiles (s : State) : s.pump.profiles = s.profiles := by
  unfold State.pump; (try dsimp only); repeat' split
  all_goals first | rfl | simp
@[simp] theorem State.pump_bindings (s : State) : s.pump.bindings = s.bindings := by
  unfold State.pump; (try dsimp only); repeat' split
  all_goals first | rfl | simp
@[simp] theorem State.pump_index (s : State) : s.pump.index = s.index := by
  unfold State.pump; (try dsimp only); repeat' split
  all_goals first | rfl | simp
@[simp] theorem State.pump_lines (s : State) : s.pump.lines = s.lines := by
  unfold State.pump; (try dsimp only); repeat' split
  all_goals first | rfl | simp
@[simp] theorem State.pump_entries (s : State) : s.pump.entries = s.entries := by
  unfold State.pump; (try dsimp only); repeat' split
  all_goals first | rfl | simp
@[simp] theorem State.pump_journal (s : State) : s.pump.journal = s.journal := by
  unfold State.pump; (try dsimp only); repeat' split
  all_goals first | rfl | simp
@[simp] theorem State.pump_landing (s : State) : s.pump.landing = s.landing := by
  unfold State.pump; (try dsimp only); repeat' split
  all_goals first | rfl | simp
@[simp] theorem State.pump_muster (s : State) : s.pump.muster = s.muster := by
  unfold State.pump; (try dsimp only); repeat' split
  all_goals first | rfl | simp
@[simp] theorem State.pump_router (s : State) : s.pump.router = s.router := by
  unfold State.pump; (try dsimp only); repeat' split
  all_goals first | rfl | simp
@[simp] theorem State.pump_link (s : State) : s.pump.link = s.link := by
  unfold State.pump; (try dsimp only); repeat' split
  all_goals first | rfl | simp
@[simp] theorem State.pump_notices (s : State) : s.pump.notices = s.notices := by
  unfold State.pump; (try dsimp only); repeat' split
  all_goals first | rfl | simp
@[simp] theorem State.enqueue_pending (s : State) (j : Job) : (s.enqueue j).pending = s.pending := by
  unfold State.enqueue; (try dsimp only); repeat' split
  all_goals first | rfl | simp
@[simp] theorem State.enqueue_inReset (s : State) (j : Job) : (s.enqueue j).inReset = s.inReset := by
  unfold State.enqueue; (try dsimp only); repeat' split
  all_goals first | rfl | simp
@[simp] theorem State.enqueue_straps (s : State) (j : Job) : (s.enqueue j).straps = s.straps := by
  unfold State.enqueue; (try dsimp only); repeat' split
  all_goals first | rfl | simp
@[simp] theorem State.enqueue_startUp (s : State) (j : Job) : (s.enqueue j).startUp = s.startUp := by
  unfold State.enqueue; (try dsimp only); repeat' split
  all_goals first | rfl | simp
@[simp] theorem State.enqueue_power (s : State) (j : Job) : (s.enqueue j).power = s.power := by
  unfold State.enqueue; (try dsimp only); repeat' split
  all_goals first | rfl | simp
@[simp] theorem State.enqueue_pins (s : State) (j : Job) : (s.enqueue j).pins = s.pins := by
  unfold State.enqueue; (try dsimp only); repeat' split
  all_goals first | rfl | simp
@[simp] theorem State.enqueue_mem (s : State) (j : Job) : (s.enqueue j).mem = s.mem := by
  unfold State.enqueue; (try dsimp only); repeat' split
  all_goals first | rfl | simp
@[simp] theorem State.enqueue_clock (s : State) (j : Job) : (s.enqueue j).clock = s.clock := by
  unfold State.enqueue; (try dsimp only); repeat' split
  all_goals first | rfl | simp
@[simp] theorem State.enqueue_settings (s : State) (j : Job) : (s.enqueue j).settings = s.settings := by
  unfold State.enqueue; (try dsimp only); repeat' split
  all_goals first | rfl | simp
@[simp] theorem State.enqueue_plans (s : State) (j : Job) : (s.enqueue j).plans = s.plans := by
  unfold State.enqueue; (try dsimp only); repeat' split
  all_goals first | rfl | simp
@[simp] theorem State.enqueue_profiles (s : State) (j : Job) : (s.enqueue j).profiles = s.profiles := by
  unfold State.enqueue; (try dsimp only); repeat' split
  all_goals first | rfl | simp
@[simp] theorem State.enqueue_bindings (s : State) (j : Job) : (s.enqueue j).bindings = s.bindings := by
  unfold State.enqueue; (try dsimp only); repeat' split
  all_goals first | rfl | simp
@[simp] theorem State.enqueue_index (s : State) (j : Job) : (s.enqueue j).index = s.index := by
  unfold State.enqueue; (try dsimp only); repeat' split
  all_goals first | rfl | simp
@[simp] theorem State.enqueue_lines (s : State) (j : Job) : (s.enqueue j).lines = s.lines := by
  unfold State.enqueue; (try dsimp only); repeat' split
  all_goals first | rfl | simp
@[simp] theorem State.enqueue_entries (s : State) (j : Job) : (s.enqueue j).entries = s.entries := by
  unfold State.enqueue; (try dsimp only); repeat' split
  all_goals first | rfl | simp
@[simp] theorem State.enqueue_journal (s : State) (j : Job) : (s.enqueue j).journal = s.journal := by
  unfold State.enqueue; (try dsimp only); repeat' split
  all_goals first | rfl | simp
@[simp] theorem State.enqueue_landing (s : State) (j : Job) : (s.enqueue j).landing = s.landing := by
  unfold State.enqueue; (try dsimp only); repeat' split
  all_goals first | rfl | simp
@[simp] theorem State.enqueue_muster (s : State) (j : Job) : (s.enqueue j).muster = s.muster := by
  unfold State.enqueue; (try dsimp only); repeat' split
  all_goals first | rfl | simp
@[simp] theorem State.enqueue_router (s : State) (j : Job) : (s.enqueue j).router = s.router := by
  unfold State.enqueue; (try dsimp only); repeat' split
  all_goals first | rfl | simp
@[simp] theorem State.enqueue_link (s : State) (j : Job) : (s.enqueue j).link = s.link := by
  unfold State.enqueue; (try dsimp only); repeat' split
  all_goals first | rfl | simp
@[simp] theorem State.enqueue_notices (s : State) (j : Job) : (s.enqueue j).notices = s.notices := by
  unfold State.enqueue; (try dsimp only); repeat' split
  all_goals first | rfl | simp
@[simp] theorem State.queueWriteBack_pending (s : State) (i : Fin 128) : (s.queueWriteBack i).pending = s.pending := by
  unfold State.queueWriteBack; (try dsimp only); repeat' split
  all_goals first | rfl | simp
@[simp] theorem State.queueWriteBack_inReset (s : State) (i : Fin 128) : (s.queueWriteBack i).inReset = s.inReset := by
  unfold State.queueWriteBack; (try dsimp only); repeat' split
  all_goals first | rfl | simp
@[simp] theorem State.queueWriteBack_straps (s : State) (i : Fin 128) : (s.queueWriteBack i).straps = s.straps := by
  unfold State.queueWriteBack; (try dsimp only); repeat' split
  all_goals first | rfl | simp
@[simp] theorem State.queueWriteBack_startUp (s : State) (i : Fin 128) : (s.queueWriteBack i).startUp = s.startUp := by
  unfold State.queueWriteBack; (try dsimp only); repeat' split
  all_goals first | rfl | simp
@[simp] theorem State.queueWriteBack_power (s : State) (i : Fin 128) : (s.queueWriteBack i).power = s.power := by
  unfold State.queueWriteBack; (try dsimp only); repeat' split
  all_goals first | rfl | simp
@[simp] theorem State.queueWriteBack_pins (s : State) (i : Fin 128) : (s.queueWriteBack i).pins = s.pins := by
  unfold State.queueWriteBack; (try dsimp only); repeat' split
  all_goals first | rfl | simp
@[simp] theorem State.queueWriteBack_mem (s : State) (i : Fin 128) : (s.queueWriteBack i).mem = s.mem := by
  unfold State.queueWriteBack; (try dsimp only); repeat' split
  all_goals first | rfl | simp
@[simp] theorem State.queueWriteBack_clock (s : State) (i : Fin 128) : (s.queueWriteBack i).clock = s.clock := by
  unfold State.queueWriteBack; (try dsimp only); repeat' split
  all_goals first | rfl | simp
@[simp] theorem State.queueWriteBack_settings (s : State) (i : Fin 128) : (s.queueWriteBack i).settings = s.settings := by
  unfold State.queueWriteBack; (try dsimp only); repeat' split
  all_goals first | rfl | simp
@[simp] theorem State.queueWriteBack_plans (s : State) (i : Fin 128) : (s.queueWriteBack i).plans = s.plans := by
  unfold State.queueWriteBack; (try dsimp only); repeat' split
  all_goals first | rfl | simp
@[simp] theorem State.queueWriteBack_profiles (s : State) (i : Fin 128) : (s.queueWriteBack i).profiles = s.profiles := by
  unfold State.queueWriteBack; (try dsimp only); repeat' split
  all_goals first | rfl | simp
@[simp] theorem State.queueWriteBack_bindings (s : State) (i : Fin 128) : (s.queueWriteBack i).bindings = s.bindings := by
  unfold State.queueWriteBack; (try dsimp only); repeat' split
  all_goals first | rfl | simp
@[simp] theorem State.queueWriteBack_index (s : State) (i : Fin 128) : (s.queueWriteBack i).index = s.index := by
  unfold State.queueWriteBack; (try dsimp only); repeat' split
  all_goals first | rfl | simp
@[simp] theorem State.queueWriteBack_lines (s : State) (i : Fin 128) : (s.queueWriteBack i).lines = s.lines := by
  unfold State.queueWriteBack; (try dsimp only); repeat' split
  all_goals first | rfl | simp
@[simp] theorem State.queueWriteBack_entries (s : State) (i : Fin 128) : (s.queueWriteBack i).entries = s.entries := by
  unfold State.queueWriteBack; (try dsimp only); repeat' split
  all_goals first | rfl | simp
@[simp] theorem State.queueWriteBack_journal (s : State) (i : Fin 128) : (s.queueWriteBack i).journal = s.journal := by
  unfold State.queueWriteBack; (try dsimp only); repeat' split
  all_goals first | rfl | simp
@[simp] theorem State.queueWriteBack_landing (s : State) (i : Fin 128) : (s.queueWriteBack i).landing = s.landing := by
  unfold State.queueWriteBack; (try dsimp only); repeat' split
  all_goals first | rfl | simp
@[simp] theorem State.queueWriteBack_muster (s : State) (i : Fin 128) : (s.queueWriteBack i).muster = s.muster := by
  unfold State.queueWriteBack; (try dsimp only); repeat' split
  all_goals first | rfl | simp
@[simp] theorem State.queueWriteBack_router (s : State) (i : Fin 128) : (s.queueWriteBack i).router = s.router := by
  unfold State.queueWriteBack; (try dsimp only); repeat' split
  all_goals first | rfl | simp
@[simp] theorem State.queueWriteBack_link (s : State) (i : Fin 128) : (s.queueWriteBack i).link = s.link := by
  unfold State.queueWriteBack; (try dsimp only); repeat' split
  all_goals first | rfl | simp
@[simp] theorem State.queueWriteBack_notices (s : State) (i : Fin 128) : (s.queueWriteBack i).notices = s.notices := by
  unfold State.queueWriteBack; (try dsimp only); repeat' split
  all_goals first | rfl | simp
@[simp] theorem State.sweepFrom_pending (wants : State → Fin 128 → Bool) (w : PlaceWaiter) (is : List (Fin 128)) (s : State) :
    (State.sweepFrom wants w is s).pending = s.pending := by
  induction is generalizing s with
  | nil => rfl
  | cons i is ih => unfold State.sweepFrom; repeat' split
                    all_goals first | simp [ih] | rfl
@[simp] theorem State.sweepFrom_inReset (wants : State → Fin 128 → Bool) (w : PlaceWaiter) (is : List (Fin 128)) (s : State) :
    (State.sweepFrom wants w is s).inReset = s.inReset := by
  induction is generalizing s with
  | nil => rfl
  | cons i is ih => unfold State.sweepFrom; repeat' split
                    all_goals first | simp [ih] | rfl
@[simp] theorem State.sweepFrom_straps (wants : State → Fin 128 → Bool) (w : PlaceWaiter) (is : List (Fin 128)) (s : State) :
    (State.sweepFrom wants w is s).straps = s.straps := by
  induction is generalizing s with
  | nil => rfl
  | cons i is ih => unfold State.sweepFrom; repeat' split
                    all_goals first | simp [ih] | rfl
@[simp] theorem State.sweepFrom_startUp (wants : State → Fin 128 → Bool) (w : PlaceWaiter) (is : List (Fin 128)) (s : State) :
    (State.sweepFrom wants w is s).startUp = s.startUp := by
  induction is generalizing s with
  | nil => rfl
  | cons i is ih => unfold State.sweepFrom; repeat' split
                    all_goals first | simp [ih] | rfl
@[simp] theorem State.sweepFrom_power (wants : State → Fin 128 → Bool) (w : PlaceWaiter) (is : List (Fin 128)) (s : State) :
    (State.sweepFrom wants w is s).power = s.power := by
  induction is generalizing s with
  | nil => rfl
  | cons i is ih => unfold State.sweepFrom; repeat' split
                    all_goals first | simp [ih] | rfl
@[simp] theorem State.sweepFrom_pins (wants : State → Fin 128 → Bool) (w : PlaceWaiter) (is : List (Fin 128)) (s : State) :
    (State.sweepFrom wants w is s).pins = s.pins := by
  induction is generalizing s with
  | nil => rfl
  | cons i is ih => unfold State.sweepFrom; repeat' split
                    all_goals first | simp [ih] | rfl
@[simp] theorem State.sweepFrom_mem (wants : State → Fin 128 → Bool) (w : PlaceWaiter) (is : List (Fin 128)) (s : State) :
    (State.sweepFrom wants w is s).mem = s.mem := by
  induction is generalizing s with
  | nil => rfl
  | cons i is ih => unfold State.sweepFrom; repeat' split
                    all_goals first | simp [ih] | rfl
@[simp] theorem State.sweepFrom_clock (wants : State → Fin 128 → Bool) (w : PlaceWaiter) (is : List (Fin 128)) (s : State) :
    (State.sweepFrom wants w is s).clock = s.clock := by
  induction is generalizing s with
  | nil => rfl
  | cons i is ih => unfold State.sweepFrom; repeat' split
                    all_goals first | simp [ih] | rfl
@[simp] theorem State.sweepFrom_settings (wants : State → Fin 128 → Bool) (w : PlaceWaiter) (is : List (Fin 128)) (s : State) :
    (State.sweepFrom wants w is s).settings = s.settings := by
  induction is generalizing s with
  | nil => rfl
  | cons i is ih => unfold State.sweepFrom; repeat' split
                    all_goals first | simp [ih] | rfl
@[simp] theorem State.sweepFrom_plans (wants : State → Fin 128 → Bool) (w : PlaceWaiter) (is : List (Fin 128)) (s : State) :
    (State.sweepFrom wants w is s).plans = s.plans := by
  induction is generalizing s with
  | nil => rfl
  | cons i is ih => unfold State.sweepFrom; repeat' split
                    all_goals first | simp [ih] | rfl
@[simp] theorem State.sweepFrom_profiles (wants : State → Fin 128 → Bool) (w : PlaceWaiter) (is : List (Fin 128)) (s : State) :
    (State.sweepFrom wants w is s).profiles = s.profiles := by
  induction is generalizing s with
  | nil => rfl
  | cons i is ih => unfold State.sweepFrom; repeat' split
                    all_goals first | simp [ih] | rfl
@[simp] theorem State.sweepFrom_bindings (wants : State → Fin 128 → Bool) (w : PlaceWaiter) (is : List (Fin 128)) (s : State) :
    (State.sweepFrom wants w is s).bindings = s.bindings := by
  induction is generalizing s with
  | nil => rfl
  | cons i is ih => unfold State.sweepFrom; repeat' split
                    all_goals first | simp [ih] | rfl
@[simp] theorem State.sweepFrom_index (wants : State → Fin 128 → Bool) (w : PlaceWaiter) (is : List (Fin 128)) (s : State) :
    (State.sweepFrom wants w is s).index = s.index := by
  induction is generalizing s with
  | nil => rfl
  | cons i is ih => unfold State.sweepFrom; repeat' split
                    all_goals first | simp [ih] | rfl
@[simp] theorem State.sweepFrom_lines (wants : State → Fin 128 → Bool) (w : PlaceWaiter) (is : List (Fin 128)) (s : State) :
    (State.sweepFrom wants w is s).lines = s.lines := by
  induction is generalizing s with
  | nil => rfl
  | cons i is ih => unfold State.sweepFrom; repeat' split
                    all_goals first | simp [ih] | rfl
@[simp] theorem State.sweepFrom_entries (wants : State → Fin 128 → Bool) (w : PlaceWaiter) (is : List (Fin 128)) (s : State) :
    (State.sweepFrom wants w is s).entries = s.entries := by
  induction is generalizing s with
  | nil => rfl
  | cons i is ih => unfold State.sweepFrom; repeat' split
                    all_goals first | simp [ih] | rfl
@[simp] theorem State.sweepFrom_journal (wants : State → Fin 128 → Bool) (w : PlaceWaiter) (is : List (Fin 128)) (s : State) :
    (State.sweepFrom wants w is s).journal = s.journal := by
  induction is generalizing s with
  | nil => rfl
  | cons i is ih => unfold State.sweepFrom; repeat' split
                    all_goals first | simp [ih] | rfl
@[simp] theorem State.sweepFrom_landing (wants : State → Fin 128 → Bool) (w : PlaceWaiter) (is : List (Fin 128)) (s : State) :
    (State.sweepFrom wants w is s).landing = s.landing := by
  induction is generalizing s with
  | nil => rfl
  | cons i is ih => unfold State.sweepFrom; repeat' split
                    all_goals first | simp [ih] | rfl
@[simp] theorem State.sweepFrom_muster (wants : State → Fin 128 → Bool) (w : PlaceWaiter) (is : List (Fin 128)) (s : State) :
    (State.sweepFrom wants w is s).muster = s.muster := by
  induction is generalizing s with
  | nil => rfl
  | cons i is ih => unfold State.sweepFrom; repeat' split
                    all_goals first | simp [ih] | rfl
@[simp] theorem State.sweepFrom_router (wants : State → Fin 128 → Bool) (w : PlaceWaiter) (is : List (Fin 128)) (s : State) :
    (State.sweepFrom wants w is s).router = s.router := by
  induction is generalizing s with
  | nil => rfl
  | cons i is ih => unfold State.sweepFrom; repeat' split
                    all_goals first | simp [ih] | rfl
@[simp] theorem State.sweepFrom_link (wants : State → Fin 128 → Bool) (w : PlaceWaiter) (is : List (Fin 128)) (s : State) :
    (State.sweepFrom wants w is s).link = s.link := by
  induction is generalizing s with
  | nil => rfl
  | cons i is ih => unfold State.sweepFrom; repeat' split
                    all_goals first | simp [ih] | rfl
@[simp] theorem State.sweepFrom_notices (wants : State → Fin 128 → Bool) (w : PlaceWaiter) (is : List (Fin 128)) (s : State) :
    (State.sweepFrom wants w is s).notices = s.notices := by
  induction is generalizing s with
  | nil => rfl
  | cons i is ih => unfold State.sweepFrom; repeat' split
                    all_goals first | simp [ih] | rfl
@[simp] theorem State.sweepFlush_pending (s : State) : s.sweepFlush.pending = s.pending := by simp [State.sweepFlush]
@[simp] theorem State.sweepFlush_inReset (s : State) : s.sweepFlush.inReset = s.inReset := by simp [State.sweepFlush]
@[simp] theorem State.sweepFlush_straps (s : State) : s.sweepFlush.straps = s.straps := by simp [State.sweepFlush]
@[simp] theorem State.sweepFlush_startUp (s : State) : s.sweepFlush.startUp = s.startUp := by simp [State.sweepFlush]
@[simp] theorem State.sweepFlush_power (s : State) : s.sweepFlush.power = s.power := by simp [State.sweepFlush]
@[simp] theorem State.sweepFlush_pins (s : State) : s.sweepFlush.pins = s.pins := by simp [State.sweepFlush]
@[simp] theorem State.sweepFlush_mem (s : State) : s.sweepFlush.mem = s.mem := by simp [State.sweepFlush]
@[simp] theorem State.sweepFlush_clock (s : State) : s.sweepFlush.clock = s.clock := by simp [State.sweepFlush]
@[simp] theorem State.sweepFlush_settings (s : State) : s.sweepFlush.settings = s.settings := by simp [State.sweepFlush]
@[simp] theorem State.sweepFlush_plans (s : State) : s.sweepFlush.plans = s.plans := by simp [State.sweepFlush]
@[simp] theorem State.sweepFlush_profiles (s : State) : s.sweepFlush.profiles = s.profiles := by simp [State.sweepFlush]
@[simp] theorem State.sweepFlush_bindings (s : State) : s.sweepFlush.bindings = s.bindings := by simp [State.sweepFlush]
@[simp] theorem State.sweepFlush_index (s : State) : s.sweepFlush.index = s.index := by simp [State.sweepFlush]
@[simp] theorem State.sweepFlush_lines (s : State) : s.sweepFlush.lines = s.lines := by simp [State.sweepFlush]
@[simp] theorem State.sweepFlush_entries (s : State) : s.sweepFlush.entries = s.entries := by simp [State.sweepFlush]
@[simp] theorem State.sweepFlush_journal (s : State) : s.sweepFlush.journal = s.journal := by simp [State.sweepFlush]
@[simp] theorem State.sweepFlush_landing (s : State) : s.sweepFlush.landing = s.landing := by simp [State.sweepFlush]
@[simp] theorem State.sweepFlush_muster (s : State) : s.sweepFlush.muster = s.muster := by simp [State.sweepFlush]
@[simp] theorem State.sweepFlush_router (s : State) : s.sweepFlush.router = s.router := by simp [State.sweepFlush]
@[simp] theorem State.sweepFlush_link (s : State) : s.sweepFlush.link = s.link := by simp [State.sweepFlush]
@[simp] theorem State.sweepFlush_notices (s : State) : s.sweepFlush.notices = s.notices := by simp [State.sweepFlush]
@[simp] theorem State.sweepEmergency_pending (s : State) : s.sweepEmergency.pending = s.pending := by simp [State.sweepEmergency]
@[simp] theorem State.sweepEmergency_inReset (s : State) : s.sweepEmergency.inReset = s.inReset := by simp [State.sweepEmergency]
@[simp] theorem State.sweepEmergency_straps (s : State) : s.sweepEmergency.straps = s.straps := by simp [State.sweepEmergency]
@[simp] theorem State.sweepEmergency_startUp (s : State) : s.sweepEmergency.startUp = s.startUp := by simp [State.sweepEmergency]
@[simp] theorem State.sweepEmergency_power (s : State) : s.sweepEmergency.power = s.power := by simp [State.sweepEmergency]
@[simp] theorem State.sweepEmergency_pins (s : State) : s.sweepEmergency.pins = s.pins := by simp [State.sweepEmergency]
@[simp] theorem State.sweepEmergency_mem (s : State) : s.sweepEmergency.mem = s.mem := by simp [State.sweepEmergency]
@[simp] theorem State.sweepEmergency_clock (s : State) : s.sweepEmergency.clock = s.clock := by simp [State.sweepEmergency]
@[simp] theorem State.sweepEmergency_settings (s : State) : s.sweepEmergency.settings = s.settings := by simp [State.sweepEmergency]
@[simp] theorem State.sweepEmergency_plans (s : State) : s.sweepEmergency.plans = s.plans := by simp [State.sweepEmergency]
@[simp] theorem State.sweepEmergency_profiles (s : State) : s.sweepEmergency.profiles = s.profiles := by simp [State.sweepEmergency]
@[simp] theorem State.sweepEmergency_bindings (s : State) : s.sweepEmergency.bindings = s.bindings := by simp [State.sweepEmergency]
@[simp] theorem State.sweepEmergency_index (s : State) : s.sweepEmergency.index = s.index := by simp [State.sweepEmergency]
@[simp] theorem State.sweepEmergency_lines (s : State) : s.sweepEmergency.lines = s.lines := by simp [State.sweepEmergency]
@[simp] theorem State.sweepEmergency_entries (s : State) : s.sweepEmergency.entries = s.entries := by simp [State.sweepEmergency]
@[simp] theorem State.sweepEmergency_journal (s : State) : s.sweepEmergency.journal = s.journal := by simp [State.sweepEmergency]
@[simp] theorem State.sweepEmergency_landing (s : State) : s.sweepEmergency.landing = s.landing := by simp [State.sweepEmergency]
@[simp] theorem State.sweepEmergency_muster (s : State) : s.sweepEmergency.muster = s.muster := by simp [State.sweepEmergency]
@[simp] theorem State.sweepEmergency_router (s : State) : s.sweepEmergency.router = s.router := by simp [State.sweepEmergency]
@[simp] theorem State.sweepEmergency_link (s : State) : s.sweepEmergency.link = s.link := by simp [State.sweepEmergency]
@[simp] theorem State.sweepEmergency_notices (s : State) : s.sweepEmergency.notices = s.notices := by simp [State.sweepEmergency]
@[simp] theorem State.censusReads_pending (k : Nat) (s : State) : (State.censusReads k s).pending = s.pending := by
  induction k generalizing s with
  | zero => rfl
  | succ k ih => unfold State.censusReads; (try dsimp only); repeat' split
                 all_goals first | simp [ih] | rfl
@[simp] theorem State.censusReads_inReset (k : Nat) (s : State) : (State.censusReads k s).inReset = s.inReset := by
  induction k generalizing s with
  | zero => rfl
  | succ k ih => unfold State.censusReads; (try dsimp only); repeat' split
                 all_goals first | simp [ih] | rfl
@[simp] theorem State.censusReads_straps (k : Nat) (s : State) : (State.censusReads k s).straps = s.straps := by
  induction k generalizing s with
  | zero => rfl
  | succ k ih => unfold State.censusReads; (try dsimp only); repeat' split
                 all_goals first | simp [ih] | rfl
@[simp] theorem State.censusReads_startUp (k : Nat) (s : State) : (State.censusReads k s).startUp = s.startUp := by
  induction k generalizing s with
  | zero => rfl
  | succ k ih => unfold State.censusReads; (try dsimp only); repeat' split
                 all_goals first | simp [ih] | rfl
@[simp] theorem State.censusReads_power (k : Nat) (s : State) : (State.censusReads k s).power = s.power := by
  induction k generalizing s with
  | zero => rfl
  | succ k ih => unfold State.censusReads; (try dsimp only); repeat' split
                 all_goals first | simp [ih] | rfl
@[simp] theorem State.censusReads_pins (k : Nat) (s : State) : (State.censusReads k s).pins = s.pins := by
  induction k generalizing s with
  | zero => rfl
  | succ k ih => unfold State.censusReads; (try dsimp only); repeat' split
                 all_goals first | simp [ih] | rfl
@[simp] theorem State.censusReads_mem (k : Nat) (s : State) : (State.censusReads k s).mem = s.mem := by
  induction k generalizing s with
  | zero => rfl
  | succ k ih => unfold State.censusReads; (try dsimp only); repeat' split
                 all_goals first | simp [ih] | rfl
@[simp] theorem State.censusReads_clock (k : Nat) (s : State) : (State.censusReads k s).clock = s.clock := by
  induction k generalizing s with
  | zero => rfl
  | succ k ih => unfold State.censusReads; (try dsimp only); repeat' split
                 all_goals first | simp [ih] | rfl
@[simp] theorem State.censusReads_settings (k : Nat) (s : State) : (State.censusReads k s).settings = s.settings := by
  induction k generalizing s with
  | zero => rfl
  | succ k ih => unfold State.censusReads; (try dsimp only); repeat' split
                 all_goals first | simp [ih] | rfl
@[simp] theorem State.censusReads_plans (k : Nat) (s : State) : (State.censusReads k s).plans = s.plans := by
  induction k generalizing s with
  | zero => rfl
  | succ k ih => unfold State.censusReads; (try dsimp only); repeat' split
                 all_goals first | simp [ih] | rfl
@[simp] theorem State.censusReads_profiles (k : Nat) (s : State) : (State.censusReads k s).profiles = s.profiles := by
  induction k generalizing s with
  | zero => rfl
  | succ k ih => unfold State.censusReads; (try dsimp only); repeat' split
                 all_goals first | simp [ih] | rfl
@[simp] theorem State.censusReads_bindings (k : Nat) (s : State) : (State.censusReads k s).bindings = s.bindings := by
  induction k generalizing s with
  | zero => rfl
  | succ k ih => unfold State.censusReads; (try dsimp only); repeat' split
                 all_goals first | simp [ih] | rfl
@[simp] theorem State.censusReads_index (k : Nat) (s : State) : (State.censusReads k s).index = s.index := by
  induction k generalizing s with
  | zero => rfl
  | succ k ih => unfold State.censusReads; (try dsimp only); repeat' split
                 all_goals first | simp [ih] | rfl
@[simp] theorem State.censusReads_lines (k : Nat) (s : State) : (State.censusReads k s).lines = s.lines := by
  induction k generalizing s with
  | zero => rfl
  | succ k ih => unfold State.censusReads; (try dsimp only); repeat' split
                 all_goals first | simp [ih] | rfl
@[simp] theorem State.censusReads_entries (k : Nat) (s : State) : (State.censusReads k s).entries = s.entries := by
  induction k generalizing s with
  | zero => rfl
  | succ k ih => unfold State.censusReads; (try dsimp only); repeat' split
                 all_goals first | simp [ih] | rfl
@[simp] theorem State.censusReads_journal (k : Nat) (s : State) : (State.censusReads k s).journal = s.journal := by
  induction k generalizing s with
  | zero => rfl
  | succ k ih => unfold State.censusReads; (try dsimp only); repeat' split
                 all_goals first | simp [ih] | rfl
@[simp] theorem State.censusReads_muster (k : Nat) (s : State) : (State.censusReads k s).muster = s.muster := by
  induction k generalizing s with
  | zero => rfl
  | succ k ih => unfold State.censusReads; (try dsimp only); repeat' split
                 all_goals first | simp [ih] | rfl
@[simp] theorem State.censusReads_router (k : Nat) (s : State) : (State.censusReads k s).router = s.router := by
  induction k generalizing s with
  | zero => rfl
  | succ k ih => unfold State.censusReads; (try dsimp only); repeat' split
                 all_goals first | simp [ih] | rfl
@[simp] theorem State.censusReads_link (k : Nat) (s : State) : (State.censusReads k s).link = s.link := by
  induction k generalizing s with
  | zero => rfl
  | succ k ih => unfold State.censusReads; (try dsimp only); repeat' split
                 all_goals first | simp [ih] | rfl
@[simp] theorem State.censusReads_notices (k : Nat) (s : State) : (State.censusReads k s).notices = s.notices := by
  induction k generalizing s with
  | zero => rfl
  | succ k ih => unfold State.censusReads; (try dsimp only); repeat' split
                 all_goals first | simp [ih] | rfl
@[simp] theorem State.queueCommits_pending (k : Nat) (s : State) : (State.queueCommits k s).pending = s.pending := by
  induction k generalizing s with
  | zero => rfl
  | succ k ih => unfold State.queueCommits; repeat' split
                 all_goals first | simp [ih] | rfl
@[simp] theorem State.queueCommits_inReset (k : Nat) (s : State) : (State.queueCommits k s).inReset = s.inReset := by
  induction k generalizing s with
  | zero => rfl
  | succ k ih => unfold State.queueCommits; repeat' split
                 all_goals first | simp [ih] | rfl
@[simp] theorem State.queueCommits_straps (k : Nat) (s : State) : (State.queueCommits k s).straps = s.straps := by
  induction k generalizing s with
  | zero => rfl
  | succ k ih => unfold State.queueCommits; repeat' split
                 all_goals first | simp [ih] | rfl
@[simp] theorem State.queueCommits_startUp (k : Nat) (s : State) : (State.queueCommits k s).startUp = s.startUp := by
  induction k generalizing s with
  | zero => rfl
  | succ k ih => unfold State.queueCommits; repeat' split
                 all_goals first | simp [ih] | rfl
@[simp] theorem State.queueCommits_power (k : Nat) (s : State) : (State.queueCommits k s).power = s.power := by
  induction k generalizing s with
  | zero => rfl
  | succ k ih => unfold State.queueCommits; repeat' split
                 all_goals first | simp [ih] | rfl
@[simp] theorem State.queueCommits_pins (k : Nat) (s : State) : (State.queueCommits k s).pins = s.pins := by
  induction k generalizing s with
  | zero => rfl
  | succ k ih => unfold State.queueCommits; repeat' split
                 all_goals first | simp [ih] | rfl
@[simp] theorem State.queueCommits_mem (k : Nat) (s : State) : (State.queueCommits k s).mem = s.mem := by
  induction k generalizing s with
  | zero => rfl
  | succ k ih => unfold State.queueCommits; repeat' split
                 all_goals first | simp [ih] | rfl
@[simp] theorem State.queueCommits_clock (k : Nat) (s : State) : (State.queueCommits k s).clock = s.clock := by
  induction k generalizing s with
  | zero => rfl
  | succ k ih => unfold State.queueCommits; repeat' split
                 all_goals first | simp [ih] | rfl
@[simp] theorem State.queueCommits_settings (k : Nat) (s : State) : (State.queueCommits k s).settings = s.settings := by
  induction k generalizing s with
  | zero => rfl
  | succ k ih => unfold State.queueCommits; repeat' split
                 all_goals first | simp [ih] | rfl
@[simp] theorem State.queueCommits_plans (k : Nat) (s : State) : (State.queueCommits k s).plans = s.plans := by
  induction k generalizing s with
  | zero => rfl
  | succ k ih => unfold State.queueCommits; repeat' split
                 all_goals first | simp [ih] | rfl
@[simp] theorem State.queueCommits_profiles (k : Nat) (s : State) : (State.queueCommits k s).profiles = s.profiles := by
  induction k generalizing s with
  | zero => rfl
  | succ k ih => unfold State.queueCommits; repeat' split
                 all_goals first | simp [ih] | rfl
@[simp] theorem State.queueCommits_bindings (k : Nat) (s : State) : (State.queueCommits k s).bindings = s.bindings := by
  induction k generalizing s with
  | zero => rfl
  | succ k ih => unfold State.queueCommits; repeat' split
                 all_goals first | simp [ih] | rfl
@[simp] theorem State.queueCommits_index (k : Nat) (s : State) : (State.queueCommits k s).index = s.index := by
  induction k generalizing s with
  | zero => rfl
  | succ k ih => unfold State.queueCommits; repeat' split
                 all_goals first | simp [ih] | rfl
@[simp] theorem State.queueCommits_lines (k : Nat) (s : State) : (State.queueCommits k s).lines = s.lines := by
  induction k generalizing s with
  | zero => rfl
  | succ k ih => unfold State.queueCommits; repeat' split
                 all_goals first | simp [ih] | rfl
@[simp] theorem State.queueCommits_entries (k : Nat) (s : State) : (State.queueCommits k s).entries = s.entries := by
  induction k generalizing s with
  | zero => rfl
  | succ k ih => unfold State.queueCommits; repeat' split
                 all_goals first | simp [ih] | rfl
@[simp] theorem State.queueCommits_landing (k : Nat) (s : State) : (State.queueCommits k s).landing = s.landing := by
  induction k generalizing s with
  | zero => rfl
  | succ k ih => unfold State.queueCommits; repeat' split
                 all_goals first | simp [ih] | rfl
@[simp] theorem State.queueCommits_muster (k : Nat) (s : State) : (State.queueCommits k s).muster = s.muster := by
  induction k generalizing s with
  | zero => rfl
  | succ k ih => unfold State.queueCommits; repeat' split
                 all_goals first | simp [ih] | rfl
@[simp] theorem State.queueCommits_router (k : Nat) (s : State) : (State.queueCommits k s).router = s.router := by
  induction k generalizing s with
  | zero => rfl
  | succ k ih => unfold State.queueCommits; repeat' split
                 all_goals first | simp [ih] | rfl
@[simp] theorem State.queueCommits_link (k : Nat) (s : State) : (State.queueCommits k s).link = s.link := by
  induction k generalizing s with
  | zero => rfl
  | succ k ih => unfold State.queueCommits; repeat' split
                 all_goals first | simp [ih] | rfl
@[simp] theorem State.queueCommits_notices (k : Nat) (s : State) : (State.queueCommits k s).notices = s.notices := by
  induction k generalizing s with
  | zero => rfl
  | succ k ih => unfold State.queueCommits; repeat' split
                 all_goals first | simp [ih] | rfl
@[simp] theorem State.queueReads_pending (k : Nat) (s : State) : (State.queueReads k s).pending = s.pending := by
  induction k generalizing s with
  | zero => rfl
  | succ k ih => unfold State.queueReads; repeat' split
                 all_goals first | simp [ih] | rfl
@[simp] theorem State.queueReads_inReset (k : Nat) (s : State) : (State.queueReads k s).inReset = s.inReset := by
  induction k generalizing s with
  | zero => rfl
  | succ k ih => unfold State.queueReads; repeat' split
                 all_goals first | simp [ih] | rfl
@[simp] theorem State.queueReads_straps (k : Nat) (s : State) : (State.queueReads k s).straps = s.straps := by
  induction k generalizing s with
  | zero => rfl
  | succ k ih => unfold State.queueReads; repeat' split
                 all_goals first | simp [ih] | rfl
@[simp] theorem State.queueReads_startUp (k : Nat) (s : State) : (State.queueReads k s).startUp = s.startUp := by
  induction k generalizing s with
  | zero => rfl
  | succ k ih => unfold State.queueReads; repeat' split
                 all_goals first | simp [ih] | rfl
@[simp] theorem State.queueReads_power (k : Nat) (s : State) : (State.queueReads k s).power = s.power := by
  induction k generalizing s with
  | zero => rfl
  | succ k ih => unfold State.queueReads; repeat' split
                 all_goals first | simp [ih] | rfl
@[simp] theorem State.queueReads_pins (k : Nat) (s : State) : (State.queueReads k s).pins = s.pins := by
  induction k generalizing s with
  | zero => rfl
  | succ k ih => unfold State.queueReads; repeat' split
                 all_goals first | simp [ih] | rfl
@[simp] theorem State.queueReads_mem (k : Nat) (s : State) : (State.queueReads k s).mem = s.mem := by
  induction k generalizing s with
  | zero => rfl
  | succ k ih => unfold State.queueReads; repeat' split
                 all_goals first | simp [ih] | rfl
@[simp] theorem State.queueReads_clock (k : Nat) (s : State) : (State.queueReads k s).clock = s.clock := by
  induction k generalizing s with
  | zero => rfl
  | succ k ih => unfold State.queueReads; repeat' split
                 all_goals first | simp [ih] | rfl
@[simp] theorem State.queueReads_settings (k : Nat) (s : State) : (State.queueReads k s).settings = s.settings := by
  induction k generalizing s with
  | zero => rfl
  | succ k ih => unfold State.queueReads; repeat' split
                 all_goals first | simp [ih] | rfl
@[simp] theorem State.queueReads_plans (k : Nat) (s : State) : (State.queueReads k s).plans = s.plans := by
  induction k generalizing s with
  | zero => rfl
  | succ k ih => unfold State.queueReads; repeat' split
                 all_goals first | simp [ih] | rfl
@[simp] theorem State.queueReads_profiles (k : Nat) (s : State) : (State.queueReads k s).profiles = s.profiles := by
  induction k generalizing s with
  | zero => rfl
  | succ k ih => unfold State.queueReads; repeat' split
                 all_goals first | simp [ih] | rfl
@[simp] theorem State.queueReads_bindings (k : Nat) (s : State) : (State.queueReads k s).bindings = s.bindings := by
  induction k generalizing s with
  | zero => rfl
  | succ k ih => unfold State.queueReads; repeat' split
                 all_goals first | simp [ih] | rfl
@[simp] theorem State.queueReads_index (k : Nat) (s : State) : (State.queueReads k s).index = s.index := by
  induction k generalizing s with
  | zero => rfl
  | succ k ih => unfold State.queueReads; repeat' split
                 all_goals first | simp [ih] | rfl
@[simp] theorem State.queueReads_lines (k : Nat) (s : State) : (State.queueReads k s).lines = s.lines := by
  induction k generalizing s with
  | zero => rfl
  | succ k ih => unfold State.queueReads; repeat' split
                 all_goals first | simp [ih] | rfl
@[simp] theorem State.queueReads_entries (k : Nat) (s : State) : (State.queueReads k s).entries = s.entries := by
  induction k generalizing s with
  | zero => rfl
  | succ k ih => unfold State.queueReads; repeat' split
                 all_goals first | simp [ih] | rfl
@[simp] theorem State.queueReads_journal (k : Nat) (s : State) : (State.queueReads k s).journal = s.journal := by
  induction k generalizing s with
  | zero => rfl
  | succ k ih => unfold State.queueReads; repeat' split
                 all_goals first | simp [ih] | rfl
@[simp] theorem State.queueReads_landing (k : Nat) (s : State) : (State.queueReads k s).landing = s.landing := by
  induction k generalizing s with
  | zero => rfl
  | succ k ih => unfold State.queueReads; repeat' split
                 all_goals first | simp [ih] | rfl
@[simp] theorem State.queueReads_muster (k : Nat) (s : State) : (State.queueReads k s).muster = s.muster := by
  induction k generalizing s with
  | zero => rfl
  | succ k ih => unfold State.queueReads; repeat' split
                 all_goals first | simp [ih] | rfl
@[simp] theorem State.queueReads_router (k : Nat) (s : State) : (State.queueReads k s).router = s.router := by
  induction k generalizing s with
  | zero => rfl
  | succ k ih => unfold State.queueReads; repeat' split
                 all_goals first | simp [ih] | rfl
@[simp] theorem State.queueReads_notices (k : Nat) (s : State) : (State.queueReads k s).notices = s.notices := by
  induction k generalizing s with
  | zero => rfl
  | succ k ih => unfold State.queueReads; repeat' split
                 all_goals first | simp [ih] | rfl
@[simp] theorem State.queueFormat_pending (k : Nat) (s : State) : (State.queueFormat k s).pending = s.pending := by
  induction k generalizing s with
  | zero => rfl
  | succ k ih => unfold State.queueFormat; repeat' split
                 all_goals first | simp [ih] | rfl
@[simp] theorem State.queueFormat_inReset (k : Nat) (s : State) : (State.queueFormat k s).inReset = s.inReset := by
  induction k generalizing s with
  | zero => rfl
  | succ k ih => unfold State.queueFormat; repeat' split
                 all_goals first | simp [ih] | rfl
@[simp] theorem State.queueFormat_straps (k : Nat) (s : State) : (State.queueFormat k s).straps = s.straps := by
  induction k generalizing s with
  | zero => rfl
  | succ k ih => unfold State.queueFormat; repeat' split
                 all_goals first | simp [ih] | rfl
@[simp] theorem State.queueFormat_startUp (k : Nat) (s : State) : (State.queueFormat k s).startUp = s.startUp := by
  induction k generalizing s with
  | zero => rfl
  | succ k ih => unfold State.queueFormat; repeat' split
                 all_goals first | simp [ih] | rfl
@[simp] theorem State.queueFormat_power (k : Nat) (s : State) : (State.queueFormat k s).power = s.power := by
  induction k generalizing s with
  | zero => rfl
  | succ k ih => unfold State.queueFormat; repeat' split
                 all_goals first | simp [ih] | rfl
@[simp] theorem State.queueFormat_pins (k : Nat) (s : State) : (State.queueFormat k s).pins = s.pins := by
  induction k generalizing s with
  | zero => rfl
  | succ k ih => unfold State.queueFormat; repeat' split
                 all_goals first | simp [ih] | rfl
@[simp] theorem State.queueFormat_mem (k : Nat) (s : State) : (State.queueFormat k s).mem = s.mem := by
  induction k generalizing s with
  | zero => rfl
  | succ k ih => unfold State.queueFormat; repeat' split
                 all_goals first | simp [ih] | rfl
@[simp] theorem State.queueFormat_clock (k : Nat) (s : State) : (State.queueFormat k s).clock = s.clock := by
  induction k generalizing s with
  | zero => rfl
  | succ k ih => unfold State.queueFormat; repeat' split
                 all_goals first | simp [ih] | rfl
@[simp] theorem State.queueFormat_settings (k : Nat) (s : State) : (State.queueFormat k s).settings = s.settings := by
  induction k generalizing s with
  | zero => rfl
  | succ k ih => unfold State.queueFormat; repeat' split
                 all_goals first | simp [ih] | rfl
@[simp] theorem State.queueFormat_plans (k : Nat) (s : State) : (State.queueFormat k s).plans = s.plans := by
  induction k generalizing s with
  | zero => rfl
  | succ k ih => unfold State.queueFormat; repeat' split
                 all_goals first | simp [ih] | rfl
@[simp] theorem State.queueFormat_profiles (k : Nat) (s : State) : (State.queueFormat k s).profiles = s.profiles := by
  induction k generalizing s with
  | zero => rfl
  | succ k ih => unfold State.queueFormat; repeat' split
                 all_goals first | simp [ih] | rfl
@[simp] theorem State.queueFormat_bindings (k : Nat) (s : State) : (State.queueFormat k s).bindings = s.bindings := by
  induction k generalizing s with
  | zero => rfl
  | succ k ih => unfold State.queueFormat; repeat' split
                 all_goals first | simp [ih] | rfl
@[simp] theorem State.queueFormat_index (k : Nat) (s : State) : (State.queueFormat k s).index = s.index := by
  induction k generalizing s with
  | zero => rfl
  | succ k ih => unfold State.queueFormat; repeat' split
                 all_goals first | simp [ih] | rfl
@[simp] theorem State.queueFormat_lines (k : Nat) (s : State) : (State.queueFormat k s).lines = s.lines := by
  induction k generalizing s with
  | zero => rfl
  | succ k ih => unfold State.queueFormat; repeat' split
                 all_goals first | simp [ih] | rfl
@[simp] theorem State.queueFormat_entries (k : Nat) (s : State) : (State.queueFormat k s).entries = s.entries := by
  induction k generalizing s with
  | zero => rfl
  | succ k ih => unfold State.queueFormat; repeat' split
                 all_goals first | simp [ih] | rfl
@[simp] theorem State.queueFormat_journal (k : Nat) (s : State) : (State.queueFormat k s).journal = s.journal := by
  induction k generalizing s with
  | zero => rfl
  | succ k ih => unfold State.queueFormat; repeat' split
                 all_goals first | simp [ih] | rfl
@[simp] theorem State.queueFormat_landing (k : Nat) (s : State) : (State.queueFormat k s).landing = s.landing := by
  induction k generalizing s with
  | zero => rfl
  | succ k ih => unfold State.queueFormat; repeat' split
                 all_goals first | simp [ih] | rfl
@[simp] theorem State.queueFormat_muster (k : Nat) (s : State) : (State.queueFormat k s).muster = s.muster := by
  induction k generalizing s with
  | zero => rfl
  | succ k ih => unfold State.queueFormat; repeat' split
                 all_goals first | simp [ih] | rfl
@[simp] theorem State.queueFormat_router (k : Nat) (s : State) : (State.queueFormat k s).router = s.router := by
  induction k generalizing s with
  | zero => rfl
  | succ k ih => unfold State.queueFormat; repeat' split
                 all_goals first | simp [ih] | rfl
@[simp] theorem State.queueFormat_notices (k : Nat) (s : State) : (State.queueFormat k s).notices = s.notices := by
  induction k generalizing s with
  | zero => rfl
  | succ k ih => unfold State.queueFormat; repeat' split
                 all_goals first | simp [ih] | rfl
@[simp] theorem State.beginCensus_pending (s : State) (c : CensusCause) : (s.beginCensus c).pending = s.pending := by simp [State.beginCensus]
@[simp] theorem State.beginCensus_inReset (s : State) (c : CensusCause) : (s.beginCensus c).inReset = s.inReset := by simp [State.beginCensus]
@[simp] theorem State.beginCensus_straps (s : State) (c : CensusCause) : (s.beginCensus c).straps = s.straps := by simp [State.beginCensus]
@[simp] theorem State.beginCensus_startUp (s : State) (c : CensusCause) : (s.beginCensus c).startUp = s.startUp := by simp [State.beginCensus]
@[simp] theorem State.beginCensus_power (s : State) (c : CensusCause) : (s.beginCensus c).power = s.power := by simp [State.beginCensus]
@[simp] theorem State.beginCensus_pins (s : State) (c : CensusCause) : (s.beginCensus c).pins = s.pins := by simp [State.beginCensus]
@[simp] theorem State.beginCensus_mem (s : State) (c : CensusCause) : (s.beginCensus c).mem = s.mem := by simp [State.beginCensus]
@[simp] theorem State.beginCensus_clock (s : State) (c : CensusCause) : (s.beginCensus c).clock = s.clock := by simp [State.beginCensus]
@[simp] theorem State.beginCensus_settings (s : State) (c : CensusCause) : (s.beginCensus c).settings = s.settings := by simp [State.beginCensus]
@[simp] theorem State.beginCensus_plans (s : State) (c : CensusCause) : (s.beginCensus c).plans = s.plans := by simp [State.beginCensus]
@[simp] theorem State.beginCensus_profiles (s : State) (c : CensusCause) : (s.beginCensus c).profiles = s.profiles := by simp [State.beginCensus]
@[simp] theorem State.beginCensus_bindings (s : State) (c : CensusCause) : (s.beginCensus c).bindings = s.bindings := by simp [State.beginCensus]
@[simp] theorem State.beginCensus_lines (s : State) (c : CensusCause) : (s.beginCensus c).lines = s.lines := by simp [State.beginCensus]
@[simp] theorem State.beginCensus_entries (s : State) (c : CensusCause) : (s.beginCensus c).entries = s.entries := by simp [State.beginCensus]
@[simp] theorem State.beginCensus_journal (s : State) (c : CensusCause) : (s.beginCensus c).journal = s.journal := by simp [State.beginCensus]
@[simp] theorem State.beginCensus_router (s : State) (c : CensusCause) : (s.beginCensus c).router = s.router := by simp [State.beginCensus]
@[simp] theorem State.beginCensus_link (s : State) (c : CensusCause) : (s.beginCensus c).link = s.link := by simp [State.beginCensus]
@[simp] theorem State.beginCensus_notices (s : State) (c : CensusCause) : (s.beginCensus c).notices = s.notices := by simp [State.beginCensus]
@[simp] theorem State.unitWrite_pending (s : State) (b : ConfBlock) : (s.unitWrite b).pending = s.pending := by
  unfold State.unitWrite; (try dsimp only); repeat' split
  all_goals first | rfl | simp
@[simp] theorem State.unitWrite_inReset (s : State) (b : ConfBlock) : (s.unitWrite b).inReset = s.inReset := by
  unfold State.unitWrite; (try dsimp only); repeat' split
  all_goals first | rfl | simp
@[simp] theorem State.unitWrite_straps (s : State) (b : ConfBlock) : (s.unitWrite b).straps = s.straps := by
  unfold State.unitWrite; (try dsimp only); repeat' split
  all_goals first | rfl | simp
@[simp] theorem State.unitWrite_startUp (s : State) (b : ConfBlock) : (s.unitWrite b).startUp = s.startUp := by
  unfold State.unitWrite; (try dsimp only); repeat' split
  all_goals first | rfl | simp
@[simp] theorem State.unitWrite_power (s : State) (b : ConfBlock) : (s.unitWrite b).power = s.power := by
  unfold State.unitWrite; (try dsimp only); repeat' split
  all_goals first | rfl | simp
@[simp] theorem State.unitWrite_pins (s : State) (b : ConfBlock) : (s.unitWrite b).pins = s.pins := by
  unfold State.unitWrite; (try dsimp only); repeat' split
  all_goals first | rfl | simp
@[simp] theorem State.unitWrite_mem (s : State) (b : ConfBlock) : (s.unitWrite b).mem = s.mem := by
  unfold State.unitWrite; (try dsimp only); repeat' split
  all_goals first | rfl | simp
@[simp] theorem State.unitWrite_clock (s : State) (b : ConfBlock) : (s.unitWrite b).clock = s.clock := by
  unfold State.unitWrite; (try dsimp only); repeat' split
  all_goals first | rfl | simp
@[simp] theorem State.unitWrite_settings (s : State) (b : ConfBlock) : (s.unitWrite b).settings = s.settings := by
  unfold State.unitWrite; (try dsimp only); repeat' split
  all_goals first | rfl | simp
@[simp] theorem State.unitWrite_plans (s : State) (b : ConfBlock) : (s.unitWrite b).plans = s.plans := by
  unfold State.unitWrite; (try dsimp only); repeat' split
  all_goals first | rfl | simp
@[simp] theorem State.unitWrite_profiles (s : State) (b : ConfBlock) : (s.unitWrite b).profiles = s.profiles := by
  unfold State.unitWrite; (try dsimp only); repeat' split
  all_goals first | rfl | simp
@[simp] theorem State.unitWrite_bindings (s : State) (b : ConfBlock) : (s.unitWrite b).bindings = s.bindings := by
  unfold State.unitWrite; (try dsimp only); repeat' split
  all_goals first | rfl | simp
@[simp] theorem State.unitWrite_index (s : State) (b : ConfBlock) : (s.unitWrite b).index = s.index := by
  unfold State.unitWrite; (try dsimp only); repeat' split
  all_goals first | rfl | simp
@[simp] theorem State.unitWrite_lines (s : State) (b : ConfBlock) : (s.unitWrite b).lines = s.lines := by
  unfold State.unitWrite; (try dsimp only); repeat' split
  all_goals first | rfl | simp
@[simp] theorem State.unitWrite_entries (s : State) (b : ConfBlock) : (s.unitWrite b).entries = s.entries := by
  unfold State.unitWrite; (try dsimp only); repeat' split
  all_goals first | rfl | simp
@[simp] theorem State.unitWrite_journal (s : State) (b : ConfBlock) : (s.unitWrite b).journal = s.journal := by
  unfold State.unitWrite; (try dsimp only); repeat' split
  all_goals first | rfl | simp
@[simp] theorem State.unitWrite_landing (s : State) (b : ConfBlock) : (s.unitWrite b).landing = s.landing := by
  unfold State.unitWrite; (try dsimp only); repeat' split
  all_goals first | rfl | simp
@[simp] theorem State.unitWrite_muster (s : State) (b : ConfBlock) : (s.unitWrite b).muster = s.muster := by
  unfold State.unitWrite; (try dsimp only); repeat' split
  all_goals first | rfl | simp
@[simp] theorem State.unitWrite_router (s : State) (b : ConfBlock) : (s.unitWrite b).router = s.router := by
  unfold State.unitWrite; (try dsimp only); repeat' split
  all_goals first | rfl | simp
@[simp] theorem State.unitWrite_link (s : State) (b : ConfBlock) : (s.unitWrite b).link = s.link := by
  unfold State.unitWrite; (try dsimp only); repeat' split
  all_goals first | rfl | simp
@[simp] theorem State.unitWrite_notices (s : State) (b : ConfBlock) : (s.unitWrite b).notices = s.notices := by
  unfold State.unitWrite; (try dsimp only); repeat' split
  all_goals first | rfl | simp
@[simp] theorem State.markClock_pending (s : State) : s.markClock.pending = s.pending := by
  unfold State.markClock; (try dsimp only); repeat' split
  all_goals first | rfl | simp
@[simp] theorem State.markClock_inReset (s : State) : s.markClock.inReset = s.inReset := by
  unfold State.markClock; (try dsimp only); repeat' split
  all_goals first | rfl | simp
@[simp] theorem State.markClock_straps (s : State) : s.markClock.straps = s.straps := by
  unfold State.markClock; (try dsimp only); repeat' split
  all_goals first | rfl | simp
@[simp] theorem State.markClock_startUp (s : State) : s.markClock.startUp = s.startUp := by
  unfold State.markClock; (try dsimp only); repeat' split
  all_goals first | rfl | simp
@[simp] theorem State.markClock_power (s : State) : s.markClock.power = s.power := by
  unfold State.markClock; (try dsimp only); repeat' split
  all_goals first | rfl | simp
@[simp] theorem State.markClock_pins (s : State) : s.markClock.pins = s.pins := by
  unfold State.markClock; (try dsimp only); repeat' split
  all_goals first | rfl | simp
@[simp] theorem State.markClock_mem (s : State) : s.markClock.mem = s.mem := by
  unfold State.markClock; (try dsimp only); repeat' split
  all_goals first | rfl | simp
@[simp] theorem State.markClock_settings (s : State) : s.markClock.settings = s.settings := by
  unfold State.markClock; (try dsimp only); repeat' split
  all_goals first | rfl | simp
@[simp] theorem State.markClock_plans (s : State) : s.markClock.plans = s.plans := by
  unfold State.markClock; (try dsimp only); repeat' split
  all_goals first | rfl | simp
@[simp] theorem State.markClock_profiles (s : State) : s.markClock.profiles = s.profiles := by
  unfold State.markClock; (try dsimp only); repeat' split
  all_goals first | rfl | simp
@[simp] theorem State.markClock_bindings (s : State) : s.markClock.bindings = s.bindings := by
  unfold State.markClock; (try dsimp only); repeat' split
  all_goals first | rfl | simp
@[simp] theorem State.markClock_index (s : State) : s.markClock.index = s.index := by
  unfold State.markClock; (try dsimp only); repeat' split
  all_goals first | rfl | simp
@[simp] theorem State.markClock_lines (s : State) : s.markClock.lines = s.lines := by
  unfold State.markClock; (try dsimp only); repeat' split
  all_goals first | rfl | simp
@[simp] theorem State.markClock_entries (s : State) : s.markClock.entries = s.entries := by
  unfold State.markClock; (try dsimp only); repeat' split
  all_goals first | rfl | simp
@[simp] theorem State.markClock_journal (s : State) : s.markClock.journal = s.journal := by
  unfold State.markClock; (try dsimp only); repeat' split
  all_goals first | rfl | simp
@[simp] theorem State.markClock_landing (s : State) : s.markClock.landing = s.landing := by
  unfold State.markClock; (try dsimp only); repeat' split
  all_goals first | rfl | simp
@[simp] theorem State.markClock_muster (s : State) : s.markClock.muster = s.muster := by
  unfold State.markClock; (try dsimp only); repeat' split
  all_goals first | rfl | simp
@[simp] theorem State.markClock_router (s : State) : s.markClock.router = s.router := by
  unfold State.markClock; (try dsimp only); repeat' split
  all_goals first | rfl | simp
@[simp] theorem State.markClock_link (s : State) : s.markClock.link = s.link := by
  unfold State.markClock; (try dsimp only); repeat' split
  all_goals first | rfl | simp
@[simp] theorem State.markClock_notices (s : State) : s.markClock.notices = s.notices := by
  unfold State.markClock; (try dsimp only); repeat' split
  all_goals first | rfl | simp
@[simp] theorem State.evaluateDay_pending (s : State) : s.evaluateDay.pending = s.pending := by
  unfold State.evaluateDay; (try dsimp only); repeat' split
  all_goals first | rfl | simp
@[simp] theorem State.evaluateDay_inReset (s : State) : s.evaluateDay.inReset = s.inReset := by
  unfold State.evaluateDay; (try dsimp only); repeat' split
  all_goals first | rfl | simp
@[simp] theorem State.evaluateDay_straps (s : State) : s.evaluateDay.straps = s.straps := by
  unfold State.evaluateDay; (try dsimp only); repeat' split
  all_goals first | rfl | simp
@[simp] theorem State.evaluateDay_startUp (s : State) : s.evaluateDay.startUp = s.startUp := by
  unfold State.evaluateDay; (try dsimp only); repeat' split
  all_goals first | rfl | simp
@[simp] theorem State.evaluateDay_power (s : State) : s.evaluateDay.power = s.power := by
  unfold State.evaluateDay; (try dsimp only); repeat' split
  all_goals first | rfl | simp
@[simp] theorem State.evaluateDay_pins (s : State) : s.evaluateDay.pins = s.pins := by
  unfold State.evaluateDay; (try dsimp only); repeat' split
  all_goals first | rfl | simp
@[simp] theorem State.evaluateDay_mem (s : State) : s.evaluateDay.mem = s.mem := by
  unfold State.evaluateDay; (try dsimp only); repeat' split
  all_goals first | rfl | simp
@[simp] theorem State.evaluateDay_settings (s : State) : s.evaluateDay.settings = s.settings := by
  unfold State.evaluateDay; (try dsimp only); repeat' split
  all_goals first | rfl | simp
@[simp] theorem State.evaluateDay_plans (s : State) : s.evaluateDay.plans = s.plans := by
  unfold State.evaluateDay; (try dsimp only); repeat' split
  all_goals first | rfl | simp
@[simp] theorem State.evaluateDay_profiles (s : State) : s.evaluateDay.profiles = s.profiles := by
  unfold State.evaluateDay; (try dsimp only); repeat' split
  all_goals first | rfl | simp
@[simp] theorem State.evaluateDay_bindings (s : State) : s.evaluateDay.bindings = s.bindings := by
  unfold State.evaluateDay; (try dsimp only); repeat' split
  all_goals first | rfl | simp
@[simp] theorem State.evaluateDay_index (s : State) : s.evaluateDay.index = s.index := by
  unfold State.evaluateDay; (try dsimp only); repeat' split
  all_goals first | rfl | simp
@[simp] theorem State.evaluateDay_lines (s : State) : s.evaluateDay.lines = s.lines := by
  unfold State.evaluateDay; (try dsimp only); repeat' split
  all_goals first | rfl | simp
@[simp] theorem State.evaluateDay_entries (s : State) : s.evaluateDay.entries = s.entries := by
  unfold State.evaluateDay; (try dsimp only); repeat' split
  all_goals first | rfl | simp
@[simp] theorem State.evaluateDay_journal (s : State) : s.evaluateDay.journal = s.journal := by
  unfold State.evaluateDay; (try dsimp only); repeat' split
  all_goals first | rfl | simp
@[simp] theorem State.evaluateDay_landing (s : State) : s.evaluateDay.landing = s.landing := by
  unfold State.evaluateDay; (try dsimp only); repeat' split
  all_goals first | rfl | simp
@[simp] theorem State.evaluateDay_muster (s : State) : s.evaluateDay.muster = s.muster := by
  unfold State.evaluateDay; (try dsimp only); repeat' split
  all_goals first | rfl | simp
@[simp] theorem State.evaluateDay_router (s : State) : s.evaluateDay.router = s.router := by
  unfold State.evaluateDay; (try dsimp only); repeat' split
  all_goals first | rfl | simp
@[simp] theorem State.evaluateDay_link (s : State) : s.evaluateDay.link = s.link := by
  unfold State.evaluateDay; (try dsimp only); repeat' split
  all_goals first | rfl | simp
@[simp] theorem State.evaluateDay_notices (s : State) : s.evaluateDay.notices = s.notices := by
  unfold State.evaluateDay; (try dsimp only); repeat' split
  all_goals first | rfl | simp
@[simp] theorem State.claimFill_pending (s : State) (i : Fin 128) (k : RecKey) (w : List Waiter) : (s.claimFill i k w).pending = s.pending := by
  unfold State.claimFill; (try dsimp only); repeat' split
  all_goals first | rfl | simp
@[simp] theorem State.claimFill_inReset (s : State) (i : Fin 128) (k : RecKey) (w : List Waiter) : (s.claimFill i k w).inReset = s.inReset := by
  unfold State.claimFill; (try dsimp only); repeat' split
  all_goals first | rfl | simp
@[simp] theorem State.claimFill_straps (s : State) (i : Fin 128) (k : RecKey) (w : List Waiter) : (s.claimFill i k w).straps = s.straps := by
  unfold State.claimFill; (try dsimp only); repeat' split
  all_goals first | rfl | simp
@[simp] theorem State.claimFill_startUp (s : State) (i : Fin 128) (k : RecKey) (w : List Waiter) : (s.claimFill i k w).startUp = s.startUp := by
  unfold State.claimFill; (try dsimp only); repeat' split
  all_goals first | rfl | simp
@[simp] theorem State.claimFill_power (s : State) (i : Fin 128) (k : RecKey) (w : List Waiter) : (s.claimFill i k w).power = s.power := by
  unfold State.claimFill; (try dsimp only); repeat' split
  all_goals first | rfl | simp
@[simp] theorem State.claimFill_pins (s : State) (i : Fin 128) (k : RecKey) (w : List Waiter) : (s.claimFill i k w).pins = s.pins := by
  unfold State.claimFill; (try dsimp only); repeat' split
  all_goals first | rfl | simp
@[simp] theorem State.claimFill_mem (s : State) (i : Fin 128) (k : RecKey) (w : List Waiter) : (s.claimFill i k w).mem = s.mem := by
  unfold State.claimFill; (try dsimp only); repeat' split
  all_goals first | rfl | simp
@[simp] theorem State.claimFill_clock (s : State) (i : Fin 128) (k : RecKey) (w : List Waiter) : (s.claimFill i k w).clock = s.clock := by
  unfold State.claimFill; (try dsimp only); repeat' split
  all_goals first | rfl | simp
@[simp] theorem State.claimFill_settings (s : State) (i : Fin 128) (k : RecKey) (w : List Waiter) : (s.claimFill i k w).settings = s.settings := by
  unfold State.claimFill; (try dsimp only); repeat' split
  all_goals first | rfl | simp
@[simp] theorem State.claimFill_plans (s : State) (i : Fin 128) (k : RecKey) (w : List Waiter) : (s.claimFill i k w).plans = s.plans := by
  unfold State.claimFill; (try dsimp only); repeat' split
  all_goals first | rfl | simp
@[simp] theorem State.claimFill_profiles (s : State) (i : Fin 128) (k : RecKey) (w : List Waiter) : (s.claimFill i k w).profiles = s.profiles := by
  unfold State.claimFill; (try dsimp only); repeat' split
  all_goals first | rfl | simp
@[simp] theorem State.claimFill_bindings (s : State) (i : Fin 128) (k : RecKey) (w : List Waiter) : (s.claimFill i k w).bindings = s.bindings := by
  unfold State.claimFill; (try dsimp only); repeat' split
  all_goals first | rfl | simp
@[simp] theorem State.claimFill_index (s : State) (i : Fin 128) (k : RecKey) (w : List Waiter) : (s.claimFill i k w).index = s.index := by
  unfold State.claimFill; (try dsimp only); repeat' split
  all_goals first | rfl | simp
@[simp] theorem State.claimFill_lines (s : State) (i : Fin 128) (k : RecKey) (w : List Waiter) : (s.claimFill i k w).lines = s.lines := by
  unfold State.claimFill; (try dsimp only); repeat' split
  all_goals first | rfl | simp
@[simp] theorem State.claimFill_entries (s : State) (i : Fin 128) (k : RecKey) (w : List Waiter) : (s.claimFill i k w).entries = s.entries := by
  unfold State.claimFill; (try dsimp only); repeat' split
  all_goals first | rfl | simp
@[simp] theorem State.claimFill_journal (s : State) (i : Fin 128) (k : RecKey) (w : List Waiter) : (s.claimFill i k w).journal = s.journal := by
  unfold State.claimFill; (try dsimp only); repeat' split
  all_goals first | rfl | simp
@[simp] theorem State.claimFill_landing (s : State) (i : Fin 128) (k : RecKey) (w : List Waiter) : (s.claimFill i k w).landing = s.landing := by
  unfold State.claimFill; (try dsimp only); repeat' split
  all_goals first | rfl | simp
@[simp] theorem State.claimFill_muster (s : State) (i : Fin 128) (k : RecKey) (w : List Waiter) : (s.claimFill i k w).muster = s.muster := by
  unfold State.claimFill; (try dsimp only); repeat' split
  all_goals first | rfl | simp
@[simp] theorem State.claimFill_link (s : State) (i : Fin 128) (k : RecKey) (w : List Waiter) : (s.claimFill i k w).link = s.link := by
  unfold State.claimFill; (try dsimp only); repeat' split
  all_goals first | rfl | simp
@[simp] theorem State.claimFill_notices (s : State) (i : Fin 128) (k : RecKey) (w : List Waiter) : (s.claimFill i k w).notices = s.notices := by
  unfold State.claimFill; (try dsimp only); repeat' split
  all_goals first | rfl | simp
@[simp] theorem State.claimPair_pending (s : State) (i : Fin 128) (k : RecKey) (w : List Waiter) : (s.claimPair i k w).pending = s.pending := by
  unfold State.claimPair; (try dsimp only); repeat' split
  all_goals first | rfl | simp
@[simp] theorem State.claimPair_inReset (s : State) (i : Fin 128) (k : RecKey) (w : List Waiter) : (s.claimPair i k w).inReset = s.inReset := by
  unfold State.claimPair; (try dsimp only); repeat' split
  all_goals first | rfl | simp
@[simp] theorem State.claimPair_straps (s : State) (i : Fin 128) (k : RecKey) (w : List Waiter) : (s.claimPair i k w).straps = s.straps := by
  unfold State.claimPair; (try dsimp only); repeat' split
  all_goals first | rfl | simp
@[simp] theorem State.claimPair_startUp (s : State) (i : Fin 128) (k : RecKey) (w : List Waiter) : (s.claimPair i k w).startUp = s.startUp := by
  unfold State.claimPair; (try dsimp only); repeat' split
  all_goals first | rfl | simp
@[simp] theorem State.claimPair_power (s : State) (i : Fin 128) (k : RecKey) (w : List Waiter) : (s.claimPair i k w).power = s.power := by
  unfold State.claimPair; (try dsimp only); repeat' split
  all_goals first | rfl | simp
@[simp] theorem State.claimPair_pins (s : State) (i : Fin 128) (k : RecKey) (w : List Waiter) : (s.claimPair i k w).pins = s.pins := by
  unfold State.claimPair; (try dsimp only); repeat' split
  all_goals first | rfl | simp
@[simp] theorem State.claimPair_mem (s : State) (i : Fin 128) (k : RecKey) (w : List Waiter) : (s.claimPair i k w).mem = s.mem := by
  unfold State.claimPair; (try dsimp only); repeat' split
  all_goals first | rfl | simp
@[simp] theorem State.claimPair_clock (s : State) (i : Fin 128) (k : RecKey) (w : List Waiter) : (s.claimPair i k w).clock = s.clock := by
  unfold State.claimPair; (try dsimp only); repeat' split
  all_goals first | rfl | simp
@[simp] theorem State.claimPair_settings (s : State) (i : Fin 128) (k : RecKey) (w : List Waiter) : (s.claimPair i k w).settings = s.settings := by
  unfold State.claimPair; (try dsimp only); repeat' split
  all_goals first | rfl | simp
@[simp] theorem State.claimPair_plans (s : State) (i : Fin 128) (k : RecKey) (w : List Waiter) : (s.claimPair i k w).plans = s.plans := by
  unfold State.claimPair; (try dsimp only); repeat' split
  all_goals first | rfl | simp
@[simp] theorem State.claimPair_profiles (s : State) (i : Fin 128) (k : RecKey) (w : List Waiter) : (s.claimPair i k w).profiles = s.profiles := by
  unfold State.claimPair; (try dsimp only); repeat' split
  all_goals first | rfl | simp
@[simp] theorem State.claimPair_bindings (s : State) (i : Fin 128) (k : RecKey) (w : List Waiter) : (s.claimPair i k w).bindings = s.bindings := by
  unfold State.claimPair; (try dsimp only); repeat' split
  all_goals first | rfl | simp
@[simp] theorem State.claimPair_index (s : State) (i : Fin 128) (k : RecKey) (w : List Waiter) : (s.claimPair i k w).index = s.index := by
  unfold State.claimPair; (try dsimp only); repeat' split
  all_goals first | rfl | simp
@[simp] theorem State.claimPair_lines (s : State) (i : Fin 128) (k : RecKey) (w : List Waiter) : (s.claimPair i k w).lines = s.lines := by
  unfold State.claimPair; (try dsimp only); repeat' split
  all_goals first | rfl | simp
@[simp] theorem State.claimPair_entries (s : State) (i : Fin 128) (k : RecKey) (w : List Waiter) : (s.claimPair i k w).entries = s.entries := by
  unfold State.claimPair; (try dsimp only); repeat' split
  all_goals first | rfl | simp
@[simp] theorem State.claimPair_journal (s : State) (i : Fin 128) (k : RecKey) (w : List Waiter) : (s.claimPair i k w).journal = s.journal := by
  unfold State.claimPair; (try dsimp only); repeat' split
  all_goals first | rfl | simp
@[simp] theorem State.claimPair_landing (s : State) (i : Fin 128) (k : RecKey) (w : List Waiter) : (s.claimPair i k w).landing = s.landing := by
  unfold State.claimPair; (try dsimp only); repeat' split
  all_goals first | rfl | simp
@[simp] theorem State.claimPair_muster (s : State) (i : Fin 128) (k : RecKey) (w : List Waiter) : (s.claimPair i k w).muster = s.muster := by
  unfold State.claimPair; (try dsimp only); repeat' split
  all_goals first | rfl | simp
@[simp] theorem State.claimPair_link (s : State) (i : Fin 128) (k : RecKey) (w : List Waiter) : (s.claimPair i k w).link = s.link := by
  unfold State.claimPair; (try dsimp only); repeat' split
  all_goals first | rfl | simp
@[simp] theorem State.claimPair_notices (s : State) (i : Fin 128) (k : RecKey) (w : List Waiter) : (s.claimPair i k w).notices = s.notices := by
  unfold State.claimPair; (try dsimp only); repeat' split
  all_goals first | rfl | simp
@[simp] theorem State.change_pending (s : State) (i : Fin 128) (r : Rec) : (s.change i r).pending = s.pending := by
  unfold State.change; (try dsimp only); repeat' split
  all_goals first | rfl | simp
@[simp] theorem State.change_inReset (s : State) (i : Fin 128) (r : Rec) : (s.change i r).inReset = s.inReset := by
  unfold State.change; (try dsimp only); repeat' split
  all_goals first | rfl | simp
@[simp] theorem State.change_straps (s : State) (i : Fin 128) (r : Rec) : (s.change i r).straps = s.straps := by
  unfold State.change; (try dsimp only); repeat' split
  all_goals first | rfl | simp
@[simp] theorem State.change_startUp (s : State) (i : Fin 128) (r : Rec) : (s.change i r).startUp = s.startUp := by
  unfold State.change; (try dsimp only); repeat' split
  all_goals first | rfl | simp
@[simp] theorem State.change_power (s : State) (i : Fin 128) (r : Rec) : (s.change i r).power = s.power := by
  unfold State.change; (try dsimp only); repeat' split
  all_goals first | rfl | simp
@[simp] theorem State.change_pins (s : State) (i : Fin 128) (r : Rec) : (s.change i r).pins = s.pins := by
  unfold State.change; (try dsimp only); repeat' split
  all_goals first | rfl | simp
@[simp] theorem State.change_mem (s : State) (i : Fin 128) (r : Rec) : (s.change i r).mem = s.mem := by
  unfold State.change; (try dsimp only); repeat' split
  all_goals first | rfl | simp
@[simp] theorem State.change_clock (s : State) (i : Fin 128) (r : Rec) : (s.change i r).clock = s.clock := by
  unfold State.change; (try dsimp only); repeat' split
  all_goals first | rfl | simp
@[simp] theorem State.change_settings (s : State) (i : Fin 128) (r : Rec) : (s.change i r).settings = s.settings := by
  unfold State.change; (try dsimp only); repeat' split
  all_goals first | rfl | simp
@[simp] theorem State.change_plans (s : State) (i : Fin 128) (r : Rec) : (s.change i r).plans = s.plans := by
  unfold State.change; (try dsimp only); repeat' split
  all_goals first | rfl | simp
@[simp] theorem State.change_profiles (s : State) (i : Fin 128) (r : Rec) : (s.change i r).profiles = s.profiles := by
  unfold State.change; (try dsimp only); repeat' split
  all_goals first | rfl | simp
@[simp] theorem State.change_bindings (s : State) (i : Fin 128) (r : Rec) : (s.change i r).bindings = s.bindings := by
  unfold State.change; (try dsimp only); repeat' split
  all_goals first | rfl | simp
@[simp] theorem State.change_index (s : State) (i : Fin 128) (r : Rec) : (s.change i r).index = s.index := by
  unfold State.change; (try dsimp only); repeat' split
  all_goals first | rfl | simp
@[simp] theorem State.change_port (s : State) (i : Fin 128) (r : Rec) : (s.change i r).port = s.port := by
  unfold State.change; (try dsimp only); repeat' split
  all_goals first | rfl | simp
@[simp] theorem State.change_lines (s : State) (i : Fin 128) (r : Rec) : (s.change i r).lines = s.lines := by
  unfold State.change; (try dsimp only); repeat' split
  all_goals first | rfl | simp
@[simp] theorem State.change_entries (s : State) (i : Fin 128) (r : Rec) : (s.change i r).entries = s.entries := by
  unfold State.change; (try dsimp only); repeat' split
  all_goals first | rfl | simp
@[simp] theorem State.change_journal (s : State) (i : Fin 128) (r : Rec) : (s.change i r).journal = s.journal := by
  unfold State.change; (try dsimp only); repeat' split
  all_goals first | rfl | simp
@[simp] theorem State.change_landing (s : State) (i : Fin 128) (r : Rec) : (s.change i r).landing = s.landing := by
  unfold State.change; (try dsimp only); repeat' split
  all_goals first | rfl | simp
@[simp] theorem State.change_muster (s : State) (i : Fin 128) (r : Rec) : (s.change i r).muster = s.muster := by
  unfold State.change; (try dsimp only); repeat' split
  all_goals first | rfl | simp
@[simp] theorem State.change_router (s : State) (i : Fin 128) (r : Rec) : (s.change i r).router = s.router := by
  unfold State.change; (try dsimp only); repeat' split
  all_goals first | rfl | simp
@[simp] theorem State.change_link (s : State) (i : Fin 128) (r : Rec) : (s.change i r).link = s.link := by
  unfold State.change; (try dsimp only); repeat' split
  all_goals first | rfl | simp
@[simp] theorem State.change_notices (s : State) (i : Fin 128) (r : Rec) : (s.change i r).notices = s.notices := by
  unfold State.change; (try dsimp only); repeat' split
  all_goals first | rfl | simp
@[simp] theorem State.urgentWrite_pending (s : State) (i : Fin 128) : (s.urgentWrite i).pending = s.pending := by
  unfold State.urgentWrite; (try dsimp only); repeat' split
  all_goals first | rfl | simp
@[simp] theorem State.urgentWrite_inReset (s : State) (i : Fin 128) : (s.urgentWrite i).inReset = s.inReset := by
  unfold State.urgentWrite; (try dsimp only); repeat' split
  all_goals first | rfl | simp
@[simp] theorem State.urgentWrite_straps (s : State) (i : Fin 128) : (s.urgentWrite i).straps = s.straps := by
  unfold State.urgentWrite; (try dsimp only); repeat' split
  all_goals first | rfl | simp
@[simp] theorem State.urgentWrite_startUp (s : State) (i : Fin 128) : (s.urgentWrite i).startUp = s.startUp := by
  unfold State.urgentWrite; (try dsimp only); repeat' split
  all_goals first | rfl | simp
@[simp] theorem State.urgentWrite_power (s : State) (i : Fin 128) : (s.urgentWrite i).power = s.power := by
  unfold State.urgentWrite; (try dsimp only); repeat' split
  all_goals first | rfl | simp
@[simp] theorem State.urgentWrite_pins (s : State) (i : Fin 128) : (s.urgentWrite i).pins = s.pins := by
  unfold State.urgentWrite; (try dsimp only); repeat' split
  all_goals first | rfl | simp
@[simp] theorem State.urgentWrite_mem (s : State) (i : Fin 128) : (s.urgentWrite i).mem = s.mem := by
  unfold State.urgentWrite; (try dsimp only); repeat' split
  all_goals first | rfl | simp
@[simp] theorem State.urgentWrite_clock (s : State) (i : Fin 128) : (s.urgentWrite i).clock = s.clock := by
  unfold State.urgentWrite; (try dsimp only); repeat' split
  all_goals first | rfl | simp
@[simp] theorem State.urgentWrite_settings (s : State) (i : Fin 128) : (s.urgentWrite i).settings = s.settings := by
  unfold State.urgentWrite; (try dsimp only); repeat' split
  all_goals first | rfl | simp
@[simp] theorem State.urgentWrite_plans (s : State) (i : Fin 128) : (s.urgentWrite i).plans = s.plans := by
  unfold State.urgentWrite; (try dsimp only); repeat' split
  all_goals first | rfl | simp
@[simp] theorem State.urgentWrite_profiles (s : State) (i : Fin 128) : (s.urgentWrite i).profiles = s.profiles := by
  unfold State.urgentWrite; (try dsimp only); repeat' split
  all_goals first | rfl | simp
@[simp] theorem State.urgentWrite_bindings (s : State) (i : Fin 128) : (s.urgentWrite i).bindings = s.bindings := by
  unfold State.urgentWrite; (try dsimp only); repeat' split
  all_goals first | rfl | simp
@[simp] theorem State.urgentWrite_index (s : State) (i : Fin 128) : (s.urgentWrite i).index = s.index := by
  unfold State.urgentWrite; (try dsimp only); repeat' split
  all_goals first | rfl | simp
@[simp] theorem State.urgentWrite_lines (s : State) (i : Fin 128) : (s.urgentWrite i).lines = s.lines := by
  unfold State.urgentWrite; (try dsimp only); repeat' split
  all_goals first | rfl | simp
@[simp] theorem State.urgentWrite_entries (s : State) (i : Fin 128) : (s.urgentWrite i).entries = s.entries := by
  unfold State.urgentWrite; (try dsimp only); repeat' split
  all_goals first | rfl | simp
@[simp] theorem State.urgentWrite_journal (s : State) (i : Fin 128) : (s.urgentWrite i).journal = s.journal := by
  unfold State.urgentWrite; (try dsimp only); repeat' split
  all_goals first | rfl | simp
@[simp] theorem State.urgentWrite_landing (s : State) (i : Fin 128) : (s.urgentWrite i).landing = s.landing := by
  unfold State.urgentWrite; (try dsimp only); repeat' split
  all_goals first | rfl | simp
@[simp] theorem State.urgentWrite_muster (s : State) (i : Fin 128) : (s.urgentWrite i).muster = s.muster := by
  unfold State.urgentWrite; (try dsimp only); repeat' split
  all_goals first | rfl | simp
@[simp] theorem State.urgentWrite_router (s : State) (i : Fin 128) : (s.urgentWrite i).router = s.router := by
  unfold State.urgentWrite; (try dsimp only); repeat' split
  all_goals first | rfl | simp
@[simp] theorem State.urgentWrite_link (s : State) (i : Fin 128) : (s.urgentWrite i).link = s.link := by
  unfold State.urgentWrite; (try dsimp only); repeat' split
  all_goals first | rfl | simp
@[simp] theorem State.urgentWrite_notices (s : State) (i : Fin 128) : (s.urgentWrite i).notices = s.notices := by
  unfold State.urgentWrite; (try dsimp only); repeat' split
  all_goals first | rfl | simp
@[simp] theorem State.flushReview_pending (s : State) : s.flushReview.pending = s.pending := by
  unfold State.flushReview; (try dsimp only); repeat' split
  all_goals first | rfl | simp
@[simp] theorem State.flushReview_inReset (s : State) : s.flushReview.inReset = s.inReset := by
  unfold State.flushReview; (try dsimp only); repeat' split
  all_goals first | rfl | simp
@[simp] theorem State.flushReview_straps (s : State) : s.flushReview.straps = s.straps := by
  unfold State.flushReview; (try dsimp only); repeat' split
  all_goals first | rfl | simp
@[simp] theorem State.flushReview_startUp (s : State) : s.flushReview.startUp = s.startUp := by
  unfold State.flushReview; (try dsimp only); repeat' split
  all_goals first | rfl | simp
@[simp] theorem State.flushReview_power (s : State) : s.flushReview.power = s.power := by
  unfold State.flushReview; (try dsimp only); repeat' split
  all_goals first | rfl | simp
@[simp] theorem State.flushReview_mem (s : State) : s.flushReview.mem = s.mem := by
  unfold State.flushReview; (try dsimp only); repeat' split
  all_goals first | rfl | simp
@[simp] theorem State.flushReview_clock (s : State) : s.flushReview.clock = s.clock := by
  unfold State.flushReview; (try dsimp only); repeat' split
  all_goals first | rfl | simp
@[simp] theorem State.flushReview_settings (s : State) : s.flushReview.settings = s.settings := by
  unfold State.flushReview; (try dsimp only); repeat' split
  all_goals first | rfl | simp
@[simp] theorem State.flushReview_plans (s : State) : s.flushReview.plans = s.plans := by
  unfold State.flushReview; (try dsimp only); repeat' split
  all_goals first | rfl | simp
@[simp] theorem State.flushReview_profiles (s : State) : s.flushReview.profiles = s.profiles := by
  unfold State.flushReview; (try dsimp only); repeat' split
  all_goals first | rfl | simp
@[simp] theorem State.flushReview_bindings (s : State) : s.flushReview.bindings = s.bindings := by
  unfold State.flushReview; (try dsimp only); repeat' split
  all_goals first | rfl | simp
@[simp] theorem State.flushReview_index (s : State) : s.flushReview.index = s.index := by
  unfold State.flushReview; (try dsimp only); repeat' split
  all_goals first | rfl | simp
@[simp] theorem State.flushReview_port (s : State) : s.flushReview.port = s.port := by
  unfold State.flushReview; (try dsimp only); repeat' split
  all_goals first | rfl | simp
@[simp] theorem State.flushReview_lines (s : State) : s.flushReview.lines = s.lines := by
  unfold State.flushReview; (try dsimp only); repeat' split
  all_goals first | rfl | simp
@[simp] theorem State.flushReview_entries (s : State) : s.flushReview.entries = s.entries := by
  unfold State.flushReview; (try dsimp only); repeat' split
  all_goals first | rfl | simp
@[simp] theorem State.flushReview_journal (s : State) : s.flushReview.journal = s.journal := by
  unfold State.flushReview; (try dsimp only); repeat' split
  all_goals first | rfl | simp
@[simp] theorem State.flushReview_landing (s : State) : s.flushReview.landing = s.landing := by
  unfold State.flushReview; (try dsimp only); repeat' split
  all_goals first | rfl | simp
@[simp] theorem State.flushReview_muster (s : State) : s.flushReview.muster = s.muster := by
  unfold State.flushReview; (try dsimp only); repeat' split
  all_goals first | rfl | simp
@[simp] theorem State.flushReview_router (s : State) : s.flushReview.router = s.router := by
  unfold State.flushReview; (try dsimp only); repeat' split
  all_goals first | rfl | simp
@[simp] theorem State.flushReview_link (s : State) : s.flushReview.link = s.link := by
  unfold State.flushReview; (try dsimp only); repeat' split
  all_goals first | rfl | simp
@[simp] theorem State.flushCompleted_pending (s : State) (i : Fin 128) (k : Bool) : (s.flushCompleted i k).pending = s.pending := by
  unfold State.flushCompleted; (try dsimp only); repeat' split
  all_goals first | rfl | simp
@[simp] theorem State.flushCompleted_inReset (s : State) (i : Fin 128) (k : Bool) : (s.flushCompleted i k).inReset = s.inReset := by
  unfold State.flushCompleted; (try dsimp only); repeat' split
  all_goals first | rfl | simp
@[simp] theorem State.flushCompleted_straps (s : State) (i : Fin 128) (k : Bool) : (s.flushCompleted i k).straps = s.straps := by
  unfold State.flushCompleted; (try dsimp only); repeat' split
  all_goals first | rfl | simp
@[simp] theorem State.flushCompleted_startUp (s : State) (i : Fin 128) (k : Bool) : (s.flushCompleted i k).startUp = s.startUp := by
  unfold State.flushCompleted; (try dsimp only); repeat' split
  all_goals first | rfl | simp
@[simp] theorem State.flushCompleted_power (s : State) (i : Fin 128) (k : Bool) : (s.flushCompleted i k).power = s.power := by
  unfold State.flushCompleted; (try dsimp only); repeat' split
  all_goals first | rfl | simp
@[simp] theorem State.flushCompleted_mem (s : State) (i : Fin 128) (k : Bool) : (s.flushCompleted i k).mem = s.mem := by
  unfold State.flushCompleted; (try dsimp only); repeat' split
  all_goals first | rfl | simp
@[simp] theorem State.flushCompleted_clock (s : State) (i : Fin 128) (k : Bool) : (s.flushCompleted i k).clock = s.clock := by
  unfold State.flushCompleted; (try dsimp only); repeat' split
  all_goals first | rfl | simp
@[simp] theorem State.flushCompleted_settings (s : State) (i : Fin 128) (k : Bool) : (s.flushCompleted i k).settings = s.settings := by
  unfold State.flushCompleted; (try dsimp only); repeat' split
  all_goals first | rfl | simp
@[simp] theorem State.flushCompleted_plans (s : State) (i : Fin 128) (k : Bool) : (s.flushCompleted i k).plans = s.plans := by
  unfold State.flushCompleted; (try dsimp only); repeat' split
  all_goals first | rfl | simp
@[simp] theorem State.flushCompleted_profiles (s : State) (i : Fin 128) (k : Bool) : (s.flushCompleted i k).profiles = s.profiles := by
  unfold State.flushCompleted; (try dsimp only); repeat' split
  all_goals first | rfl | simp
@[simp] theorem State.flushCompleted_bindings (s : State) (i : Fin 128) (k : Bool) : (s.flushCompleted i k).bindings = s.bindings := by
  unfold State.flushCompleted; (try dsimp only); repeat' split
  all_goals first | rfl | simp
@[simp] theorem State.flushCompleted_index (s : State) (i : Fin 128) (k : Bool) : (s.flushCompleted i k).index = s.index := by
  unfold State.flushCompleted; (try dsimp only); repeat' split
  all_goals first | rfl | simp
@[simp] theorem State.flushCompleted_port (s : State) (i : Fin 128) (k : Bool) : (s.flushCompleted i k).port = s.port := by
  unfold State.flushCompleted; (try dsimp only); repeat' split
  all_goals first | rfl | simp
@[simp] theorem State.flushCompleted_lines (s : State) (i : Fin 128) (k : Bool) : (s.flushCompleted i k).lines = s.lines := by
  unfold State.flushCompleted; (try dsimp only); repeat' split
  all_goals first | rfl | simp
@[simp] theorem State.flushCompleted_entries (s : State) (i : Fin 128) (k : Bool) : (s.flushCompleted i k).entries = s.entries := by
  unfold State.flushCompleted; (try dsimp only); repeat' split
  all_goals first | rfl | simp
@[simp] theorem State.flushCompleted_journal (s : State) (i : Fin 128) (k : Bool) : (s.flushCompleted i k).journal = s.journal := by
  unfold State.flushCompleted; (try dsimp only); repeat' split
  all_goals first | rfl | simp
@[simp] theorem State.flushCompleted_landing (s : State) (i : Fin 128) (k : Bool) : (s.flushCompleted i k).landing = s.landing := by
  unfold State.flushCompleted; (try dsimp only); repeat' split
  all_goals first | rfl | simp
@[simp] theorem State.flushCompleted_muster (s : State) (i : Fin 128) (k : Bool) : (s.flushCompleted i k).muster = s.muster := by
  unfold State.flushCompleted; (try dsimp only); repeat' split
  all_goals first | rfl | simp
@[simp] theorem State.flushCompleted_router (s : State) (i : Fin 128) (k : Bool) : (s.flushCompleted i k).router = s.router := by
  unfold State.flushCompleted; (try dsimp only); repeat' split
  all_goals first | rfl | simp
@[simp] theorem State.flushCompleted_link (s : State) (i : Fin 128) (k : Bool) : (s.flushCompleted i k).link = s.link := by
  unfold State.flushCompleted; (try dsimp only); repeat' split
  all_goals first | rfl | simp
@[simp] theorem State.makeOutgoing_pending (s : State) (l : Fin 4) (d : Nat) (q : Byte) (v : Verdict) : (s.makeOutgoing l d q v).pending = s.pending := by
  unfold State.makeOutgoing; (try dsimp only); repeat' split
  all_goals first | rfl | simp
@[simp] theorem State.makeOutgoing_inReset (s : State) (l : Fin 4) (d : Nat) (q : Byte) (v : Verdict) : (s.makeOutgoing l d q v).inReset = s.inReset := by
  unfold State.makeOutgoing; (try dsimp only); repeat' split
  all_goals first | rfl | simp
@[simp] theorem State.makeOutgoing_straps (s : State) (l : Fin 4) (d : Nat) (q : Byte) (v : Verdict) : (s.makeOutgoing l d q v).straps = s.straps := by
  unfold State.makeOutgoing; (try dsimp only); repeat' split
  all_goals first | rfl | simp
@[simp] theorem State.makeOutgoing_startUp (s : State) (l : Fin 4) (d : Nat) (q : Byte) (v : Verdict) : (s.makeOutgoing l d q v).startUp = s.startUp := by
  unfold State.makeOutgoing; (try dsimp only); repeat' split
  all_goals first | rfl | simp
@[simp] theorem State.makeOutgoing_power (s : State) (l : Fin 4) (d : Nat) (q : Byte) (v : Verdict) : (s.makeOutgoing l d q v).power = s.power := by
  unfold State.makeOutgoing; (try dsimp only); repeat' split
  all_goals first | rfl | simp
@[simp] theorem State.makeOutgoing_pins (s : State) (l : Fin 4) (d : Nat) (q : Byte) (v : Verdict) : (s.makeOutgoing l d q v).pins = s.pins := by
  unfold State.makeOutgoing; (try dsimp only); repeat' split
  all_goals first | rfl | simp
@[simp] theorem State.makeOutgoing_mem (s : State) (l : Fin 4) (d : Nat) (q : Byte) (v : Verdict) : (s.makeOutgoing l d q v).mem = s.mem := by
  unfold State.makeOutgoing; (try dsimp only); repeat' split
  all_goals first | rfl | simp
@[simp] theorem State.makeOutgoing_clock (s : State) (l : Fin 4) (d : Nat) (q : Byte) (v : Verdict) : (s.makeOutgoing l d q v).clock = s.clock := by
  unfold State.makeOutgoing; (try dsimp only); repeat' split
  all_goals first | rfl | simp
@[simp] theorem State.makeOutgoing_settings (s : State) (l : Fin 4) (d : Nat) (q : Byte) (v : Verdict) : (s.makeOutgoing l d q v).settings = s.settings := by
  unfold State.makeOutgoing; (try dsimp only); repeat' split
  all_goals first | rfl | simp
@[simp] theorem State.makeOutgoing_plans (s : State) (l : Fin 4) (d : Nat) (q : Byte) (v : Verdict) : (s.makeOutgoing l d q v).plans = s.plans := by
  unfold State.makeOutgoing; (try dsimp only); repeat' split
  all_goals first | rfl | simp
@[simp] theorem State.makeOutgoing_profiles (s : State) (l : Fin 4) (d : Nat) (q : Byte) (v : Verdict) : (s.makeOutgoing l d q v).profiles = s.profiles := by
  unfold State.makeOutgoing; (try dsimp only); repeat' split
  all_goals first | rfl | simp
@[simp] theorem State.makeOutgoing_bindings (s : State) (l : Fin 4) (d : Nat) (q : Byte) (v : Verdict) : (s.makeOutgoing l d q v).bindings = s.bindings := by
  unfold State.makeOutgoing; (try dsimp only); repeat' split
  all_goals first | rfl | simp
@[simp] theorem State.makeOutgoing_index (s : State) (l : Fin 4) (d : Nat) (q : Byte) (v : Verdict) : (s.makeOutgoing l d q v).index = s.index := by
  unfold State.makeOutgoing; (try dsimp only); repeat' split
  all_goals first | rfl | simp
@[simp] theorem State.makeOutgoing_cache (s : State) (l : Fin 4) (d : Nat) (q : Byte) (v : Verdict) : (s.makeOutgoing l d q v).cache = s.cache := by
  unfold State.makeOutgoing; (try dsimp only); repeat' split
  all_goals first | rfl | simp
@[simp] theorem State.makeOutgoing_port (s : State) (l : Fin 4) (d : Nat) (q : Byte) (v : Verdict) : (s.makeOutgoing l d q v).port = s.port := by
  unfold State.makeOutgoing; (try dsimp only); repeat' split
  all_goals first | rfl | simp
@[simp] theorem State.makeOutgoing_journal (s : State) (l : Fin 4) (d : Nat) (q : Byte) (v : Verdict) : (s.makeOutgoing l d q v).journal = s.journal := by
  unfold State.makeOutgoing; (try dsimp only); repeat' split
  all_goals first | rfl | simp
@[simp] theorem State.makeOutgoing_landing (s : State) (l : Fin 4) (d : Nat) (q : Byte) (v : Verdict) : (s.makeOutgoing l d q v).landing = s.landing := by
  unfold State.makeOutgoing; (try dsimp only); repeat' split
  all_goals first | rfl | simp
@[simp] theorem State.makeOutgoing_muster (s : State) (l : Fin 4) (d : Nat) (q : Byte) (v : Verdict) : (s.makeOutgoing l d q v).muster = s.muster := by
  unfold State.makeOutgoing; (try dsimp only); repeat' split
  all_goals first | rfl | simp
@[simp] theorem State.makeOutgoing_router (s : State) (l : Fin 4) (d : Nat) (q : Byte) (v : Verdict) : (s.makeOutgoing l d q v).router = s.router := by
  unfold State.makeOutgoing; (try dsimp only); repeat' split
  all_goals first | rfl | simp
@[simp] theorem State.makeOutgoing_link (s : State) (l : Fin 4) (d : Nat) (q : Byte) (v : Verdict) : (s.makeOutgoing l d q v).link = s.link := by
  unfold State.makeOutgoing; (try dsimp only); repeat' split
  all_goals first | rfl | simp
@[simp] theorem State.makeOutgoing_notices (s : State) (l : Fin 4) (d : Nat) (q : Byte) (v : Verdict) : (s.makeOutgoing l d q v).notices = s.notices := by
  unfold State.makeOutgoing; (try dsimp only); repeat' split
  all_goals first | rfl | simp
@[simp] theorem State.reportUndelivered_pending (s : State) (e : Entry) (o : Outgoing) (c : UndeliveredCause) : (s.reportUndelivered e o c).pending = s.pending := by
  unfold State.reportUndelivered; (try dsimp only); repeat' split
  all_goals first | rfl | simp
@[simp] theorem State.reportUndelivered_inReset (s : State) (e : Entry) (o : Outgoing) (c : UndeliveredCause) : (s.reportUndelivered e o c).inReset = s.inReset := by
  unfold State.reportUndelivered; (try dsimp only); repeat' split
  all_goals first | rfl | simp
@[simp] theorem State.reportUndelivered_straps (s : State) (e : Entry) (o : Outgoing) (c : UndeliveredCause) : (s.reportUndelivered e o c).straps = s.straps := by
  unfold State.reportUndelivered; (try dsimp only); repeat' split
  all_goals first | rfl | simp
@[simp] theorem State.reportUndelivered_startUp (s : State) (e : Entry) (o : Outgoing) (c : UndeliveredCause) : (s.reportUndelivered e o c).startUp = s.startUp := by
  unfold State.reportUndelivered; (try dsimp only); repeat' split
  all_goals first | rfl | simp
@[simp] theorem State.reportUndelivered_power (s : State) (e : Entry) (o : Outgoing) (c : UndeliveredCause) : (s.reportUndelivered e o c).power = s.power := by
  unfold State.reportUndelivered; (try dsimp only); repeat' split
  all_goals first | rfl | simp
@[simp] theorem State.reportUndelivered_mem (s : State) (e : Entry) (o : Outgoing) (c : UndeliveredCause) : (s.reportUndelivered e o c).mem = s.mem := by
  unfold State.reportUndelivered; (try dsimp only); repeat' split
  all_goals first | rfl | simp
@[simp] theorem State.reportUndelivered_clock (s : State) (e : Entry) (o : Outgoing) (c : UndeliveredCause) : (s.reportUndelivered e o c).clock = s.clock := by
  unfold State.reportUndelivered; (try dsimp only); repeat' split
  all_goals first | rfl | simp
@[simp] theorem State.reportUndelivered_settings (s : State) (e : Entry) (o : Outgoing) (c : UndeliveredCause) : (s.reportUndelivered e o c).settings = s.settings := by
  unfold State.reportUndelivered; (try dsimp only); repeat' split
  all_goals first | rfl | simp
@[simp] theorem State.reportUndelivered_plans (s : State) (e : Entry) (o : Outgoing) (c : UndeliveredCause) : (s.reportUndelivered e o c).plans = s.plans := by
  unfold State.reportUndelivered; (try dsimp only); repeat' split
  all_goals first | rfl | simp
@[simp] theorem State.reportUndelivered_profiles (s : State) (e : Entry) (o : Outgoing) (c : UndeliveredCause) : (s.reportUndelivered e o c).profiles = s.profiles := by
  unfold State.reportUndelivered; (try dsimp only); repeat' split
  all_goals first | rfl | simp
@[simp] theorem State.reportUndelivered_bindings (s : State) (e : Entry) (o : Outgoing) (c : UndeliveredCause) : (s.reportUndelivered e o c).bindings = s.bindings := by
  unfold State.reportUndelivered; (try dsimp only); repeat' split
  all_goals first | rfl | simp
@[simp] theorem State.reportUndelivered_index (s : State) (e : Entry) (o : Outgoing) (c : UndeliveredCause) : (s.reportUndelivered e o c).index = s.index := by
  unfold State.reportUndelivered; (try dsimp only); repeat' split
  all_goals first | rfl | simp
@[simp] theorem State.reportUndelivered_cache (s : State) (e : Entry) (o : Outgoing) (c : UndeliveredCause) : (s.reportUndelivered e o c).cache = s.cache := by
  unfold State.reportUndelivered; (try dsimp only); repeat' split
  all_goals first | rfl | simp
@[simp] theorem State.reportUndelivered_port (s : State) (e : Entry) (o : Outgoing) (c : UndeliveredCause) : (s.reportUndelivered e o c).port = s.port := by
  unfold State.reportUndelivered; (try dsimp only); repeat' split
  all_goals first | rfl | simp
@[simp] theorem State.reportUndelivered_lines (s : State) (e : Entry) (o : Outgoing) (c : UndeliveredCause) : (s.reportUndelivered e o c).lines = s.lines := by
  unfold State.reportUndelivered; (try dsimp only); repeat' split
  all_goals first | rfl | simp
@[simp] theorem State.reportUndelivered_entries (s : State) (e : Entry) (o : Outgoing) (c : UndeliveredCause) : (s.reportUndelivered e o c).entries = s.entries := by
  unfold State.reportUndelivered; (try dsimp only); repeat' split
  all_goals first | rfl | simp
@[simp] theorem State.reportUndelivered_journal (s : State) (e : Entry) (o : Outgoing) (c : UndeliveredCause) : (s.reportUndelivered e o c).journal = s.journal := by
  unfold State.reportUndelivered; (try dsimp only); repeat' split
  all_goals first | rfl | simp
@[simp] theorem State.reportUndelivered_landing (s : State) (e : Entry) (o : Outgoing) (c : UndeliveredCause) : (s.reportUndelivered e o c).landing = s.landing := by
  unfold State.reportUndelivered; (try dsimp only); repeat' split
  all_goals first | rfl | simp
@[simp] theorem State.reportUndelivered_muster (s : State) (e : Entry) (o : Outgoing) (c : UndeliveredCause) : (s.reportUndelivered e o c).muster = s.muster := by
  unfold State.reportUndelivered; (try dsimp only); repeat' split
  all_goals first | rfl | simp
@[simp] theorem State.reportUndelivered_router (s : State) (e : Entry) (o : Outgoing) (c : UndeliveredCause) : (s.reportUndelivered e o c).router = s.router := by
  unfold State.reportUndelivered; (try dsimp only); repeat' split
  all_goals first | rfl | simp
@[simp] theorem State.reportUndelivered_link (s : State) (e : Entry) (o : Outgoing) (c : UndeliveredCause) : (s.reportUndelivered e o c).link = s.link := by
  unfold State.reportUndelivered; (try dsimp only); repeat' split
  all_goals first | rfl | simp
@[simp] theorem State.dropOutgoing_pending (s : State) (e : Entry) (c : UndeliveredCause) : (s.dropOutgoing e c).pending = s.pending := by
  unfold State.dropOutgoing; (try dsimp only); repeat' split
  all_goals first | rfl | simp
@[simp] theorem State.dropOutgoing_inReset (s : State) (e : Entry) (c : UndeliveredCause) : (s.dropOutgoing e c).inReset = s.inReset := by
  unfold State.dropOutgoing; (try dsimp only); repeat' split
  all_goals first | rfl | simp
@[simp] theorem State.dropOutgoing_straps (s : State) (e : Entry) (c : UndeliveredCause) : (s.dropOutgoing e c).straps = s.straps := by
  unfold State.dropOutgoing; (try dsimp only); repeat' split
  all_goals first | rfl | simp
@[simp] theorem State.dropOutgoing_startUp (s : State) (e : Entry) (c : UndeliveredCause) : (s.dropOutgoing e c).startUp = s.startUp := by
  unfold State.dropOutgoing; (try dsimp only); repeat' split
  all_goals first | rfl | simp
@[simp] theorem State.dropOutgoing_power (s : State) (e : Entry) (c : UndeliveredCause) : (s.dropOutgoing e c).power = s.power := by
  unfold State.dropOutgoing; (try dsimp only); repeat' split
  all_goals first | rfl | simp
@[simp] theorem State.dropOutgoing_mem (s : State) (e : Entry) (c : UndeliveredCause) : (s.dropOutgoing e c).mem = s.mem := by
  unfold State.dropOutgoing; (try dsimp only); repeat' split
  all_goals first | rfl | simp
@[simp] theorem State.dropOutgoing_clock (s : State) (e : Entry) (c : UndeliveredCause) : (s.dropOutgoing e c).clock = s.clock := by
  unfold State.dropOutgoing; (try dsimp only); repeat' split
  all_goals first | rfl | simp
@[simp] theorem State.dropOutgoing_settings (s : State) (e : Entry) (c : UndeliveredCause) : (s.dropOutgoing e c).settings = s.settings := by
  unfold State.dropOutgoing; (try dsimp only); repeat' split
  all_goals first | rfl | simp
@[simp] theorem State.dropOutgoing_plans (s : State) (e : Entry) (c : UndeliveredCause) : (s.dropOutgoing e c).plans = s.plans := by
  unfold State.dropOutgoing; (try dsimp only); repeat' split
  all_goals first | rfl | simp
@[simp] theorem State.dropOutgoing_profiles (s : State) (e : Entry) (c : UndeliveredCause) : (s.dropOutgoing e c).profiles = s.profiles := by
  unfold State.dropOutgoing; (try dsimp only); repeat' split
  all_goals first | rfl | simp
@[simp] theorem State.dropOutgoing_bindings (s : State) (e : Entry) (c : UndeliveredCause) : (s.dropOutgoing e c).bindings = s.bindings := by
  unfold State.dropOutgoing; (try dsimp only); repeat' split
  all_goals first | rfl | simp
@[simp] theorem State.dropOutgoing_index (s : State) (e : Entry) (c : UndeliveredCause) : (s.dropOutgoing e c).index = s.index := by
  unfold State.dropOutgoing; (try dsimp only); repeat' split
  all_goals first | rfl | simp
@[simp] theorem State.dropOutgoing_cache (s : State) (e : Entry) (c : UndeliveredCause) : (s.dropOutgoing e c).cache = s.cache := by
  unfold State.dropOutgoing; (try dsimp only); repeat' split
  all_goals first | rfl | simp
@[simp] theorem State.dropOutgoing_port (s : State) (e : Entry) (c : UndeliveredCause) : (s.dropOutgoing e c).port = s.port := by
  unfold State.dropOutgoing; (try dsimp only); repeat' split
  all_goals first | rfl | simp
@[simp] theorem State.dropOutgoing_lines (s : State) (e : Entry) (c : UndeliveredCause) : (s.dropOutgoing e c).lines = s.lines := by
  unfold State.dropOutgoing; (try dsimp only); repeat' split
  all_goals first | rfl | simp
@[simp] theorem State.dropOutgoing_journal (s : State) (e : Entry) (c : UndeliveredCause) : (s.dropOutgoing e c).journal = s.journal := by
  unfold State.dropOutgoing; (try dsimp only); repeat' split
  all_goals first | rfl | simp
@[simp] theorem State.dropOutgoing_landing (s : State) (e : Entry) (c : UndeliveredCause) : (s.dropOutgoing e c).landing = s.landing := by
  unfold State.dropOutgoing; (try dsimp only); repeat' split
  all_goals first | rfl | simp
@[simp] theorem State.dropOutgoing_muster (s : State) (e : Entry) (c : UndeliveredCause) : (s.dropOutgoing e c).muster = s.muster := by
  unfold State.dropOutgoing; (try dsimp only); repeat' split
  all_goals first | rfl | simp
@[simp] theorem State.dropOutgoing_router (s : State) (e : Entry) (c : UndeliveredCause) : (s.dropOutgoing e c).router = s.router := by
  unfold State.dropOutgoing; (try dsimp only); repeat' split
  all_goals first | rfl | simp
@[simp] theorem State.dropOutgoing_link (s : State) (e : Entry) (c : UndeliveredCause) : (s.dropOutgoing e c).link = s.link := by
  unfold State.dropOutgoing; (try dsimp only); repeat' split
  all_goals first | rfl | simp
@[simp] theorem State.giveFinal_pending (s : State) (l : Fin 4) (d : Nat) (q : Byte) (v : Verdict) : (s.giveFinal l d q v).pending = s.pending := by
  unfold State.giveFinal; (try dsimp only); repeat' split
  all_goals first | rfl | simp
@[simp] theorem State.giveFinal_inReset (s : State) (l : Fin 4) (d : Nat) (q : Byte) (v : Verdict) : (s.giveFinal l d q v).inReset = s.inReset := by
  unfold State.giveFinal; (try dsimp only); repeat' split
  all_goals first | rfl | simp
@[simp] theorem State.giveFinal_straps (s : State) (l : Fin 4) (d : Nat) (q : Byte) (v : Verdict) : (s.giveFinal l d q v).straps = s.straps := by
  unfold State.giveFinal; (try dsimp only); repeat' split
  all_goals first | rfl | simp
@[simp] theorem State.giveFinal_startUp (s : State) (l : Fin 4) (d : Nat) (q : Byte) (v : Verdict) : (s.giveFinal l d q v).startUp = s.startUp := by
  unfold State.giveFinal; (try dsimp only); repeat' split
  all_goals first | rfl | simp
@[simp] theorem State.giveFinal_power (s : State) (l : Fin 4) (d : Nat) (q : Byte) (v : Verdict) : (s.giveFinal l d q v).power = s.power := by
  unfold State.giveFinal; (try dsimp only); repeat' split
  all_goals first | rfl | simp
@[simp] theorem State.giveFinal_pins (s : State) (l : Fin 4) (d : Nat) (q : Byte) (v : Verdict) : (s.giveFinal l d q v).pins = s.pins := by
  unfold State.giveFinal; (try dsimp only); repeat' split
  all_goals first | rfl | simp
@[simp] theorem State.giveFinal_mem (s : State) (l : Fin 4) (d : Nat) (q : Byte) (v : Verdict) : (s.giveFinal l d q v).mem = s.mem := by
  unfold State.giveFinal; (try dsimp only); repeat' split
  all_goals first | rfl | simp
@[simp] theorem State.giveFinal_clock (s : State) (l : Fin 4) (d : Nat) (q : Byte) (v : Verdict) : (s.giveFinal l d q v).clock = s.clock := by
  unfold State.giveFinal; (try dsimp only); repeat' split
  all_goals first | rfl | simp
@[simp] theorem State.giveFinal_settings (s : State) (l : Fin 4) (d : Nat) (q : Byte) (v : Verdict) : (s.giveFinal l d q v).settings = s.settings := by
  unfold State.giveFinal; (try dsimp only); repeat' split
  all_goals first | rfl | simp
@[simp] theorem State.giveFinal_plans (s : State) (l : Fin 4) (d : Nat) (q : Byte) (v : Verdict) : (s.giveFinal l d q v).plans = s.plans := by
  unfold State.giveFinal; (try dsimp only); repeat' split
  all_goals first | rfl | simp
@[simp] theorem State.giveFinal_profiles (s : State) (l : Fin 4) (d : Nat) (q : Byte) (v : Verdict) : (s.giveFinal l d q v).profiles = s.profiles := by
  unfold State.giveFinal; (try dsimp only); repeat' split
  all_goals first | rfl | simp
@[simp] theorem State.giveFinal_bindings (s : State) (l : Fin 4) (d : Nat) (q : Byte) (v : Verdict) : (s.giveFinal l d q v).bindings = s.bindings := by
  unfold State.giveFinal; (try dsimp only); repeat' split
  all_goals first | rfl | simp
@[simp] theorem State.giveFinal_index (s : State) (l : Fin 4) (d : Nat) (q : Byte) (v : Verdict) : (s.giveFinal l d q v).index = s.index := by
  unfold State.giveFinal; (try dsimp only); repeat' split
  all_goals first | rfl | simp
@[simp] theorem State.giveFinal_port (s : State) (l : Fin 4) (d : Nat) (q : Byte) (v : Verdict) : (s.giveFinal l d q v).port = s.port := by
  unfold State.giveFinal; (try dsimp only); repeat' split
  all_goals first | rfl | simp
@[simp] theorem State.giveFinal_journal (s : State) (l : Fin 4) (d : Nat) (q : Byte) (v : Verdict) : (s.giveFinal l d q v).journal = s.journal := by
  unfold State.giveFinal; (try dsimp only); repeat' split
  all_goals first | rfl | simp
@[simp] theorem State.giveFinal_landing (s : State) (l : Fin 4) (d : Nat) (q : Byte) (v : Verdict) : (s.giveFinal l d q v).landing = s.landing := by
  unfold State.giveFinal; (try dsimp only); repeat' split
  all_goals first | rfl | simp
@[simp] theorem State.giveFinal_muster (s : State) (l : Fin 4) (d : Nat) (q : Byte) (v : Verdict) : (s.giveFinal l d q v).muster = s.muster := by
  unfold State.giveFinal; (try dsimp only); repeat' split
  all_goals first | rfl | simp
@[simp] theorem State.giveFinal_router (s : State) (l : Fin 4) (d : Nat) (q : Byte) (v : Verdict) : (s.giveFinal l d q v).router = s.router := by
  unfold State.giveFinal; (try dsimp only); repeat' split
  all_goals first | rfl | simp
@[simp] theorem State.giveFinal_link (s : State) (l : Fin 4) (d : Nat) (q : Byte) (v : Verdict) : (s.giveFinal l d q v).link = s.link := by
  unfold State.giveFinal; (try dsimp only); repeat' split
  all_goals first | rfl | simp
@[simp] theorem State.giveFinal_notices (s : State) (l : Fin 4) (d : Nat) (q : Byte) (v : Verdict) : (s.giveFinal l d q v).notices = s.notices := by
  unfold State.giveFinal; (try dsimp only); repeat' split
  all_goals first | rfl | simp
@[simp] theorem State.defer_pending (s : State) (l : Fin 4) (d : Nat) (q : Byte) : (s.defer l d q).pending = s.pending := by
  unfold State.defer; (try dsimp only); repeat' split
  all_goals first | rfl | simp
@[simp] theorem State.defer_inReset (s : State) (l : Fin 4) (d : Nat) (q : Byte) : (s.defer l d q).inReset = s.inReset := by
  unfold State.defer; (try dsimp only); repeat' split
  all_goals first | rfl | simp
@[simp] theorem State.defer_straps (s : State) (l : Fin 4) (d : Nat) (q : Byte) : (s.defer l d q).straps = s.straps := by
  unfold State.defer; (try dsimp only); repeat' split
  all_goals first | rfl | simp
@[simp] theorem State.defer_startUp (s : State) (l : Fin 4) (d : Nat) (q : Byte) : (s.defer l d q).startUp = s.startUp := by
  unfold State.defer; (try dsimp only); repeat' split
  all_goals first | rfl | simp
@[simp] theorem State.defer_power (s : State) (l : Fin 4) (d : Nat) (q : Byte) : (s.defer l d q).power = s.power := by
  unfold State.defer; (try dsimp only); repeat' split
  all_goals first | rfl | simp
@[simp] theorem State.defer_pins (s : State) (l : Fin 4) (d : Nat) (q : Byte) : (s.defer l d q).pins = s.pins := by
  unfold State.defer; (try dsimp only); repeat' split
  all_goals first | rfl | simp
@[simp] theorem State.defer_mem (s : State) (l : Fin 4) (d : Nat) (q : Byte) : (s.defer l d q).mem = s.mem := by
  unfold State.defer; (try dsimp only); repeat' split
  all_goals first | rfl | simp
@[simp] theorem State.defer_clock (s : State) (l : Fin 4) (d : Nat) (q : Byte) : (s.defer l d q).clock = s.clock := by
  unfold State.defer; (try dsimp only); repeat' split
  all_goals first | rfl | simp
@[simp] theorem State.defer_settings (s : State) (l : Fin 4) (d : Nat) (q : Byte) : (s.defer l d q).settings = s.settings := by
  unfold State.defer; (try dsimp only); repeat' split
  all_goals first | rfl | simp
@[simp] theorem State.defer_plans (s : State) (l : Fin 4) (d : Nat) (q : Byte) : (s.defer l d q).plans = s.plans := by
  unfold State.defer; (try dsimp only); repeat' split
  all_goals first | rfl | simp
@[simp] theorem State.defer_profiles (s : State) (l : Fin 4) (d : Nat) (q : Byte) : (s.defer l d q).profiles = s.profiles := by
  unfold State.defer; (try dsimp only); repeat' split
  all_goals first | rfl | simp
@[simp] theorem State.defer_bindings (s : State) (l : Fin 4) (d : Nat) (q : Byte) : (s.defer l d q).bindings = s.bindings := by
  unfold State.defer; (try dsimp only); repeat' split
  all_goals first | rfl | simp
@[simp] theorem State.defer_index (s : State) (l : Fin 4) (d : Nat) (q : Byte) : (s.defer l d q).index = s.index := by
  unfold State.defer; (try dsimp only); repeat' split
  all_goals first | rfl | simp
@[simp] theorem State.defer_cache (s : State) (l : Fin 4) (d : Nat) (q : Byte) : (s.defer l d q).cache = s.cache := by
  unfold State.defer; (try dsimp only); repeat' split
  all_goals first | rfl | simp
@[simp] theorem State.defer_port (s : State) (l : Fin 4) (d : Nat) (q : Byte) : (s.defer l d q).port = s.port := by
  unfold State.defer; (try dsimp only); repeat' split
  all_goals first | rfl | simp
@[simp] theorem State.defer_journal (s : State) (l : Fin 4) (d : Nat) (q : Byte) : (s.defer l d q).journal = s.journal := by
  unfold State.defer; (try dsimp only); repeat' split
  all_goals first | rfl | simp
@[simp] theorem State.defer_landing (s : State) (l : Fin 4) (d : Nat) (q : Byte) : (s.defer l d q).landing = s.landing := by
  unfold State.defer; (try dsimp only); repeat' split
  all_goals first | rfl | simp
@[simp] theorem State.defer_muster (s : State) (l : Fin 4) (d : Nat) (q : Byte) : (s.defer l d q).muster = s.muster := by
  unfold State.defer; (try dsimp only); repeat' split
  all_goals first | rfl | simp
@[simp] theorem State.defer_router (s : State) (l : Fin 4) (d : Nat) (q : Byte) : (s.defer l d q).router = s.router := by
  unfold State.defer; (try dsimp only); repeat' split
  all_goals first | rfl | simp
@[simp] theorem State.defer_link (s : State) (l : Fin 4) (d : Nat) (q : Byte) : (s.defer l d q).link = s.link := by
  unfold State.defer; (try dsimp only); repeat' split
  all_goals first | rfl | simp
@[simp] theorem State.defer_notices (s : State) (l : Fin 4) (d : Nat) (q : Byte) : (s.defer l d q).notices = s.notices := by
  unfold State.defer; (try dsimp only); repeat' split
  all_goals first | rfl | simp
@[simp] theorem State.decideLock_pending (s : State) (l : Fin 4) (d : Nat) (q : Byte) (c : CardId) (r : Option (Fin 2048)) (v : Verdict) : (s.decideLock l d q c r v).pending = s.pending := by
  unfold State.decideLock; (try dsimp only); repeat' split
  all_goals first | rfl | simp
@[simp] theorem State.decideLock_inReset (s : State) (l : Fin 4) (d : Nat) (q : Byte) (c : CardId) (r : Option (Fin 2048)) (v : Verdict) : (s.decideLock l d q c r v).inReset = s.inReset := by
  unfold State.decideLock; (try dsimp only); repeat' split
  all_goals first | rfl | simp
@[simp] theorem State.decideLock_straps (s : State) (l : Fin 4) (d : Nat) (q : Byte) (c : CardId) (r : Option (Fin 2048)) (v : Verdict) : (s.decideLock l d q c r v).straps = s.straps := by
  unfold State.decideLock; (try dsimp only); repeat' split
  all_goals first | rfl | simp
@[simp] theorem State.decideLock_startUp (s : State) (l : Fin 4) (d : Nat) (q : Byte) (c : CardId) (r : Option (Fin 2048)) (v : Verdict) : (s.decideLock l d q c r v).startUp = s.startUp := by
  unfold State.decideLock; (try dsimp only); repeat' split
  all_goals first | rfl | simp
@[simp] theorem State.decideLock_power (s : State) (l : Fin 4) (d : Nat) (q : Byte) (c : CardId) (r : Option (Fin 2048)) (v : Verdict) : (s.decideLock l d q c r v).power = s.power := by
  unfold State.decideLock; (try dsimp only); repeat' split
  all_goals first | rfl | simp
@[simp] theorem State.decideLock_pins (s : State) (l : Fin 4) (d : Nat) (q : Byte) (c : CardId) (r : Option (Fin 2048)) (v : Verdict) : (s.decideLock l d q c r v).pins = s.pins := by
  unfold State.decideLock; (try dsimp only); repeat' split
  all_goals first | rfl | simp
@[simp] theorem State.decideLock_mem (s : State) (l : Fin 4) (d : Nat) (q : Byte) (c : CardId) (r : Option (Fin 2048)) (v : Verdict) : (s.decideLock l d q c r v).mem = s.mem := by
  unfold State.decideLock; (try dsimp only); repeat' split
  all_goals first | rfl | simp
@[simp] theorem State.decideLock_clock (s : State) (l : Fin 4) (d : Nat) (q : Byte) (c : CardId) (r : Option (Fin 2048)) (v : Verdict) : (s.decideLock l d q c r v).clock = s.clock := by
  unfold State.decideLock; (try dsimp only); repeat' split
  all_goals first | rfl | simp
@[simp] theorem State.decideLock_settings (s : State) (l : Fin 4) (d : Nat) (q : Byte) (c : CardId) (r : Option (Fin 2048)) (v : Verdict) : (s.decideLock l d q c r v).settings = s.settings := by
  unfold State.decideLock; (try dsimp only); repeat' split
  all_goals first | rfl | simp
@[simp] theorem State.decideLock_plans (s : State) (l : Fin 4) (d : Nat) (q : Byte) (c : CardId) (r : Option (Fin 2048)) (v : Verdict) : (s.decideLock l d q c r v).plans = s.plans := by
  unfold State.decideLock; (try dsimp only); repeat' split
  all_goals first | rfl | simp
@[simp] theorem State.decideLock_profiles (s : State) (l : Fin 4) (d : Nat) (q : Byte) (c : CardId) (r : Option (Fin 2048)) (v : Verdict) : (s.decideLock l d q c r v).profiles = s.profiles := by
  unfold State.decideLock; (try dsimp only); repeat' split
  all_goals first | rfl | simp
@[simp] theorem State.decideLock_bindings (s : State) (l : Fin 4) (d : Nat) (q : Byte) (c : CardId) (r : Option (Fin 2048)) (v : Verdict) : (s.decideLock l d q c r v).bindings = s.bindings := by
  unfold State.decideLock; (try dsimp only); repeat' split
  all_goals first | rfl | simp
@[simp] theorem State.decideLock_index (s : State) (l : Fin 4) (d : Nat) (q : Byte) (c : CardId) (r : Option (Fin 2048)) (v : Verdict) : (s.decideLock l d q c r v).index = s.index := by
  unfold State.decideLock; (try dsimp only); repeat' split
  all_goals first | rfl | simp
@[simp] theorem State.decideLock_port (s : State) (l : Fin 4) (d : Nat) (q : Byte) (c : CardId) (r : Option (Fin 2048)) (v : Verdict) : (s.decideLock l d q c r v).port = s.port := by
  unfold State.decideLock; (try dsimp only); repeat' split
  all_goals first | rfl | simp
@[simp] theorem State.decideLock_journal (s : State) (l : Fin 4) (d : Nat) (q : Byte) (c : CardId) (r : Option (Fin 2048)) (v : Verdict) : (s.decideLock l d q c r v).journal = s.journal := by
  unfold State.decideLock; (try dsimp only); repeat' split
  all_goals first | rfl | simp
@[simp] theorem State.decideLock_landing (s : State) (l : Fin 4) (d : Nat) (q : Byte) (c : CardId) (r : Option (Fin 2048)) (v : Verdict) : (s.decideLock l d q c r v).landing = s.landing := by
  unfold State.decideLock; (try dsimp only); repeat' split
  all_goals first | rfl | simp
@[simp] theorem State.decideLock_muster (s : State) (l : Fin 4) (d : Nat) (q : Byte) (c : CardId) (r : Option (Fin 2048)) (v : Verdict) : (s.decideLock l d q c r v).muster = s.muster := by
  unfold State.decideLock; (try dsimp only); repeat' split
  all_goals first | rfl | simp
@[simp] theorem State.decideLock_router (s : State) (l : Fin 4) (d : Nat) (q : Byte) (c : CardId) (r : Option (Fin 2048)) (v : Verdict) : (s.decideLock l d q c r v).router = s.router := by
  unfold State.decideLock; (try dsimp only); repeat' split
  all_goals first | rfl | simp
@[simp] theorem State.decideLock_link (s : State) (l : Fin 4) (d : Nat) (q : Byte) (c : CardId) (r : Option (Fin 2048)) (v : Verdict) : (s.decideLock l d q c r v).link = s.link := by
  unfold State.decideLock; (try dsimp only); repeat' split
  all_goals first | rfl | simp
@[simp] theorem State.decideLock_notices (s : State) (l : Fin 4) (d : Nat) (q : Byte) (c : CardId) (r : Option (Fin 2048)) (v : Verdict) : (s.decideLock l d q c r v).notices = s.notices := by
  unfold State.decideLock; (try dsimp only); repeat' split
  all_goals first | rfl | simp
@[simp] theorem State.deny_pending (s : State) (e : Entry) (q : Byte) (c : CardId) (r : Option (Fin 2048)) (z : Reason) : (s.deny e q c r z).pending = s.pending := by
  unfold State.deny; (try dsimp only); repeat' split
  all_goals first | rfl | simp
@[simp] theorem State.deny_inReset (s : State) (e : Entry) (q : Byte) (c : CardId) (r : Option (Fin 2048)) (z : Reason) : (s.deny e q c r z).inReset = s.inReset := by
  unfold State.deny; (try dsimp only); repeat' split
  all_goals first | rfl | simp
@[simp] theorem State.deny_straps (s : State) (e : Entry) (q : Byte) (c : CardId) (r : Option (Fin 2048)) (z : Reason) : (s.deny e q c r z).straps = s.straps := by
  unfold State.deny; (try dsimp only); repeat' split
  all_goals first | rfl | simp
@[simp] theorem State.deny_startUp (s : State) (e : Entry) (q : Byte) (c : CardId) (r : Option (Fin 2048)) (z : Reason) : (s.deny e q c r z).startUp = s.startUp := by
  unfold State.deny; (try dsimp only); repeat' split
  all_goals first | rfl | simp
@[simp] theorem State.deny_power (s : State) (e : Entry) (q : Byte) (c : CardId) (r : Option (Fin 2048)) (z : Reason) : (s.deny e q c r z).power = s.power := by
  unfold State.deny; (try dsimp only); repeat' split
  all_goals first | rfl | simp
@[simp] theorem State.deny_pins (s : State) (e : Entry) (q : Byte) (c : CardId) (r : Option (Fin 2048)) (z : Reason) : (s.deny e q c r z).pins = s.pins := by
  unfold State.deny; (try dsimp only); repeat' split
  all_goals first | rfl | simp
@[simp] theorem State.deny_mem (s : State) (e : Entry) (q : Byte) (c : CardId) (r : Option (Fin 2048)) (z : Reason) : (s.deny e q c r z).mem = s.mem := by
  unfold State.deny; (try dsimp only); repeat' split
  all_goals first | rfl | simp
@[simp] theorem State.deny_clock (s : State) (e : Entry) (q : Byte) (c : CardId) (r : Option (Fin 2048)) (z : Reason) : (s.deny e q c r z).clock = s.clock := by
  unfold State.deny; (try dsimp only); repeat' split
  all_goals first | rfl | simp
@[simp] theorem State.deny_settings (s : State) (e : Entry) (q : Byte) (c : CardId) (r : Option (Fin 2048)) (z : Reason) : (s.deny e q c r z).settings = s.settings := by
  unfold State.deny; (try dsimp only); repeat' split
  all_goals first | rfl | simp
@[simp] theorem State.deny_plans (s : State) (e : Entry) (q : Byte) (c : CardId) (r : Option (Fin 2048)) (z : Reason) : (s.deny e q c r z).plans = s.plans := by
  unfold State.deny; (try dsimp only); repeat' split
  all_goals first | rfl | simp
@[simp] theorem State.deny_profiles (s : State) (e : Entry) (q : Byte) (c : CardId) (r : Option (Fin 2048)) (z : Reason) : (s.deny e q c r z).profiles = s.profiles := by
  unfold State.deny; (try dsimp only); repeat' split
  all_goals first | rfl | simp
@[simp] theorem State.deny_bindings (s : State) (e : Entry) (q : Byte) (c : CardId) (r : Option (Fin 2048)) (z : Reason) : (s.deny e q c r z).bindings = s.bindings := by
  unfold State.deny; (try dsimp only); repeat' split
  all_goals first | rfl | simp
@[simp] theorem State.deny_index (s : State) (e : Entry) (q : Byte) (c : CardId) (r : Option (Fin 2048)) (z : Reason) : (s.deny e q c r z).index = s.index := by
  unfold State.deny; (try dsimp only); repeat' split
  all_goals first | rfl | simp
@[simp] theorem State.deny_port (s : State) (e : Entry) (q : Byte) (c : CardId) (r : Option (Fin 2048)) (z : Reason) : (s.deny e q c r z).port = s.port := by
  unfold State.deny; (try dsimp only); repeat' split
  all_goals first | rfl | simp
@[simp] theorem State.deny_journal (s : State) (e : Entry) (q : Byte) (c : CardId) (r : Option (Fin 2048)) (z : Reason) : (s.deny e q c r z).journal = s.journal := by
  unfold State.deny; (try dsimp only); repeat' split
  all_goals first | rfl | simp
@[simp] theorem State.deny_landing (s : State) (e : Entry) (q : Byte) (c : CardId) (r : Option (Fin 2048)) (z : Reason) : (s.deny e q c r z).landing = s.landing := by
  unfold State.deny; (try dsimp only); repeat' split
  all_goals first | rfl | simp
@[simp] theorem State.deny_muster (s : State) (e : Entry) (q : Byte) (c : CardId) (r : Option (Fin 2048)) (z : Reason) : (s.deny e q c r z).muster = s.muster := by
  unfold State.deny; (try dsimp only); repeat' split
  all_goals first | rfl | simp
@[simp] theorem State.deny_router (s : State) (e : Entry) (q : Byte) (c : CardId) (r : Option (Fin 2048)) (z : Reason) : (s.deny e q c r z).router = s.router := by
  unfold State.deny; (try dsimp only); repeat' split
  all_goals first | rfl | simp
@[simp] theorem State.deny_link (s : State) (e : Entry) (q : Byte) (c : CardId) (r : Option (Fin 2048)) (z : Reason) : (s.deny e q c r z).link = s.link := by
  unfold State.deny; (try dsimp only); repeat' split
  all_goals first | rfl | simp
@[simp] theorem State.deny_notices (s : State) (e : Entry) (q : Byte) (c : CardId) (r : Option (Fin 2048)) (z : Reason) : (s.deny e q c r z).notices = s.notices := by
  unfold State.deny; (try dsimp only); repeat' split
  all_goals first | rfl | simp
@[simp] theorem State.failWaiter_pending (s : State) (w : Waiter) : (s.failWaiter w).pending = s.pending := by
  unfold State.failWaiter; (try dsimp only); repeat' split
  all_goals first | rfl | simp
@[simp] theorem State.failWaiter_inReset (s : State) (w : Waiter) : (s.failWaiter w).inReset = s.inReset := by
  unfold State.failWaiter; (try dsimp only); repeat' split
  all_goals first | rfl | simp
@[simp] theorem State.failWaiter_straps (s : State) (w : Waiter) : (s.failWaiter w).straps = s.straps := by
  unfold State.failWaiter; (try dsimp only); repeat' split
  all_goals first | rfl | simp
@[simp] theorem State.failWaiter_startUp (s : State) (w : Waiter) : (s.failWaiter w).startUp = s.startUp := by
  unfold State.failWaiter; (try dsimp only); repeat' split
  all_goals first | rfl | simp
@[simp] theorem State.failWaiter_power (s : State) (w : Waiter) : (s.failWaiter w).power = s.power := by
  unfold State.failWaiter; (try dsimp only); repeat' split
  all_goals first | rfl | simp
@[simp] theorem State.failWaiter_pins (s : State) (w : Waiter) : (s.failWaiter w).pins = s.pins := by
  unfold State.failWaiter; (try dsimp only); repeat' split
  all_goals first | rfl | simp
@[simp] theorem State.failWaiter_mem (s : State) (w : Waiter) : (s.failWaiter w).mem = s.mem := by
  unfold State.failWaiter; (try dsimp only); repeat' split
  all_goals first | rfl | simp
@[simp] theorem State.failWaiter_clock (s : State) (w : Waiter) : (s.failWaiter w).clock = s.clock := by
  unfold State.failWaiter; (try dsimp only); repeat' split
  all_goals first | rfl | simp
@[simp] theorem State.failWaiter_settings (s : State) (w : Waiter) : (s.failWaiter w).settings = s.settings := by
  unfold State.failWaiter; (try dsimp only); repeat' split
  all_goals first | rfl | simp
@[simp] theorem State.failWaiter_plans (s : State) (w : Waiter) : (s.failWaiter w).plans = s.plans := by
  unfold State.failWaiter; (try dsimp only); repeat' split
  all_goals first | rfl | simp
@[simp] theorem State.failWaiter_profiles (s : State) (w : Waiter) : (s.failWaiter w).profiles = s.profiles := by
  unfold State.failWaiter; (try dsimp only); repeat' split
  all_goals first | rfl | simp
@[simp] theorem State.failWaiter_bindings (s : State) (w : Waiter) : (s.failWaiter w).bindings = s.bindings := by
  unfold State.failWaiter; (try dsimp only); repeat' split
  all_goals first | rfl | simp
@[simp] theorem State.failWaiter_index (s : State) (w : Waiter) : (s.failWaiter w).index = s.index := by
  unfold State.failWaiter; (try dsimp only); repeat' split
  all_goals first | rfl | simp
@[simp] theorem State.failWaiter_port (s : State) (w : Waiter) : (s.failWaiter w).port = s.port := by
  unfold State.failWaiter; (try dsimp only); repeat' split
  all_goals first | rfl | simp
@[simp] theorem State.failWaiter_journal (s : State) (w : Waiter) : (s.failWaiter w).journal = s.journal := by
  unfold State.failWaiter; (try dsimp only); repeat' split
  all_goals first | rfl | simp
@[simp] theorem State.failWaiter_landing (s : State) (w : Waiter) : (s.failWaiter w).landing = s.landing := by
  unfold State.failWaiter; (try dsimp only); repeat' split
  all_goals first | rfl | simp
@[simp] theorem State.failWaiter_muster (s : State) (w : Waiter) : (s.failWaiter w).muster = s.muster := by
  unfold State.failWaiter; (try dsimp only); repeat' split
  all_goals first | rfl | simp
@[simp] theorem State.failWaiter_router (s : State) (w : Waiter) : (s.failWaiter w).router = s.router := by
  unfold State.failWaiter; (try dsimp only); repeat' split
  all_goals first | rfl | simp
@[simp] theorem State.failWaiter_notices (s : State) (w : Waiter) : (s.failWaiter w).notices = s.notices := by
  unfold State.failWaiter; (try dsimp only); repeat' split
  all_goals first | rfl | simp
@[simp] theorem State.countOut_pending (s : State) (n : Fin 2048) (m : Bool) : (s.countOut n m).pending = s.pending := by
  unfold State.countOut; (try dsimp only); repeat' split
  all_goals first | rfl | simp
@[simp] theorem State.countOut_inReset (s : State) (n : Fin 2048) (m : Bool) : (s.countOut n m).inReset = s.inReset := by
  unfold State.countOut; (try dsimp only); repeat' split
  all_goals first | rfl | simp
@[simp] theorem State.countOut_straps (s : State) (n : Fin 2048) (m : Bool) : (s.countOut n m).straps = s.straps := by
  unfold State.countOut; (try dsimp only); repeat' split
  all_goals first | rfl | simp
@[simp] theorem State.countOut_startUp (s : State) (n : Fin 2048) (m : Bool) : (s.countOut n m).startUp = s.startUp := by
  unfold State.countOut; (try dsimp only); repeat' split
  all_goals first | rfl | simp
@[simp] theorem State.countOut_power (s : State) (n : Fin 2048) (m : Bool) : (s.countOut n m).power = s.power := by
  unfold State.countOut; (try dsimp only); repeat' split
  all_goals first | rfl | simp
@[simp] theorem State.countOut_pins (s : State) (n : Fin 2048) (m : Bool) : (s.countOut n m).pins = s.pins := by
  unfold State.countOut; (try dsimp only); repeat' split
  all_goals first | rfl | simp
@[simp] theorem State.countOut_mem (s : State) (n : Fin 2048) (m : Bool) : (s.countOut n m).mem = s.mem := by
  unfold State.countOut; (try dsimp only); repeat' split
  all_goals first | rfl | simp
@[simp] theorem State.countOut_clock (s : State) (n : Fin 2048) (m : Bool) : (s.countOut n m).clock = s.clock := by
  unfold State.countOut; (try dsimp only); repeat' split
  all_goals first | rfl | simp
@[simp] theorem State.countOut_settings (s : State) (n : Fin 2048) (m : Bool) : (s.countOut n m).settings = s.settings := by
  unfold State.countOut; (try dsimp only); repeat' split
  all_goals first | rfl | simp
@[simp] theorem State.countOut_plans (s : State) (n : Fin 2048) (m : Bool) : (s.countOut n m).plans = s.plans := by
  unfold State.countOut; (try dsimp only); repeat' split
  all_goals first | rfl | simp
@[simp] theorem State.countOut_profiles (s : State) (n : Fin 2048) (m : Bool) : (s.countOut n m).profiles = s.profiles := by
  unfold State.countOut; (try dsimp only); repeat' split
  all_goals first | rfl | simp
@[simp] theorem State.countOut_bindings (s : State) (n : Fin 2048) (m : Bool) : (s.countOut n m).bindings = s.bindings := by
  unfold State.countOut; (try dsimp only); repeat' split
  all_goals first | rfl | simp
@[simp] theorem State.countOut_index (s : State) (n : Fin 2048) (m : Bool) : (s.countOut n m).index = s.index := by
  unfold State.countOut; (try dsimp only); repeat' split
  all_goals first | rfl | simp
@[simp] theorem State.countOut_cache (s : State) (n : Fin 2048) (m : Bool) : (s.countOut n m).cache = s.cache := by
  unfold State.countOut; (try dsimp only); repeat' split
  all_goals first | rfl | simp
@[simp] theorem State.countOut_port (s : State) (n : Fin 2048) (m : Bool) : (s.countOut n m).port = s.port := by
  unfold State.countOut; (try dsimp only); repeat' split
  all_goals first | rfl | simp
@[simp] theorem State.countOut_lines (s : State) (n : Fin 2048) (m : Bool) : (s.countOut n m).lines = s.lines := by
  unfold State.countOut; (try dsimp only); repeat' split
  all_goals first | rfl | simp
@[simp] theorem State.countOut_entries (s : State) (n : Fin 2048) (m : Bool) : (s.countOut n m).entries = s.entries := by
  unfold State.countOut; (try dsimp only); repeat' split
  all_goals first | rfl | simp
@[simp] theorem State.countOut_journal (s : State) (n : Fin 2048) (m : Bool) : (s.countOut n m).journal = s.journal := by
  unfold State.countOut; (try dsimp only); repeat' split
  all_goals first | rfl | simp
@[simp] theorem State.countOut_router (s : State) (n : Fin 2048) (m : Bool) : (s.countOut n m).router = s.router := by
  unfold State.countOut; (try dsimp only); repeat' split
  all_goals first | rfl | simp
@[simp] theorem State.countOut_link (s : State) (n : Fin 2048) (m : Bool) : (s.countOut n m).link = s.link := by
  unfold State.countOut; (try dsimp only); repeat' split
  all_goals first | rfl | simp
@[simp] theorem State.countOut_notices (s : State) (n : Fin 2048) (m : Bool) : (s.countOut n m).notices = s.notices := by
  unfold State.countOut; (try dsimp only); repeat' split
  all_goals first | rfl | simp
@[simp] theorem State.countIn_pending (s : State) (n : Fin 2048) (g : Guest) (m : Bool) : (s.countIn n g m).pending = s.pending := by
  unfold State.countIn; (try dsimp only); repeat' split
  all_goals first | rfl | simp
@[simp] theorem State.countIn_inReset (s : State) (n : Fin 2048) (g : Guest) (m : Bool) : (s.countIn n g m).inReset = s.inReset := by
  unfold State.countIn; (try dsimp only); repeat' split
  all_goals first | rfl | simp
@[simp] theorem State.countIn_straps (s : State) (n : Fin 2048) (g : Guest) (m : Bool) : (s.countIn n g m).straps = s.straps := by
  unfold State.countIn; (try dsimp only); repeat' split
  all_goals first | rfl | simp
@[simp] theorem State.countIn_startUp (s : State) (n : Fin 2048) (g : Guest) (m : Bool) : (s.countIn n g m).startUp = s.startUp := by
  unfold State.countIn; (try dsimp only); repeat' split
  all_goals first | rfl | simp
@[simp] theorem State.countIn_power (s : State) (n : Fin 2048) (g : Guest) (m : Bool) : (s.countIn n g m).power = s.power := by
  unfold State.countIn; (try dsimp only); repeat' split
  all_goals first | rfl | simp
@[simp] theorem State.countIn_pins (s : State) (n : Fin 2048) (g : Guest) (m : Bool) : (s.countIn n g m).pins = s.pins := by
  unfold State.countIn; (try dsimp only); repeat' split
  all_goals first | rfl | simp
@[simp] theorem State.countIn_mem (s : State) (n : Fin 2048) (g : Guest) (m : Bool) : (s.countIn n g m).mem = s.mem := by
  unfold State.countIn; (try dsimp only); repeat' split
  all_goals first | rfl | simp
@[simp] theorem State.countIn_clock (s : State) (n : Fin 2048) (g : Guest) (m : Bool) : (s.countIn n g m).clock = s.clock := by
  unfold State.countIn; (try dsimp only); repeat' split
  all_goals first | rfl | simp
@[simp] theorem State.countIn_settings (s : State) (n : Fin 2048) (g : Guest) (m : Bool) : (s.countIn n g m).settings = s.settings := by
  unfold State.countIn; (try dsimp only); repeat' split
  all_goals first | rfl | simp
@[simp] theorem State.countIn_plans (s : State) (n : Fin 2048) (g : Guest) (m : Bool) : (s.countIn n g m).plans = s.plans := by
  unfold State.countIn; (try dsimp only); repeat' split
  all_goals first | rfl | simp
@[simp] theorem State.countIn_profiles (s : State) (n : Fin 2048) (g : Guest) (m : Bool) : (s.countIn n g m).profiles = s.profiles := by
  unfold State.countIn; (try dsimp only); repeat' split
  all_goals first | rfl | simp
@[simp] theorem State.countIn_bindings (s : State) (n : Fin 2048) (g : Guest) (m : Bool) : (s.countIn n g m).bindings = s.bindings := by
  unfold State.countIn; (try dsimp only); repeat' split
  all_goals first | rfl | simp
@[simp] theorem State.countIn_index (s : State) (n : Fin 2048) (g : Guest) (m : Bool) : (s.countIn n g m).index = s.index := by
  unfold State.countIn; (try dsimp only); repeat' split
  all_goals first | rfl | simp
@[simp] theorem State.countIn_cache (s : State) (n : Fin 2048) (g : Guest) (m : Bool) : (s.countIn n g m).cache = s.cache := by
  unfold State.countIn; (try dsimp only); repeat' split
  all_goals first | rfl | simp
@[simp] theorem State.countIn_port (s : State) (n : Fin 2048) (g : Guest) (m : Bool) : (s.countIn n g m).port = s.port := by
  unfold State.countIn; (try dsimp only); repeat' split
  all_goals first | rfl | simp
@[simp] theorem State.countIn_lines (s : State) (n : Fin 2048) (g : Guest) (m : Bool) : (s.countIn n g m).lines = s.lines := by
  unfold State.countIn; (try dsimp only); repeat' split
  all_goals first | rfl | simp
@[simp] theorem State.countIn_entries (s : State) (n : Fin 2048) (g : Guest) (m : Bool) : (s.countIn n g m).entries = s.entries := by
  unfold State.countIn; (try dsimp only); repeat' split
  all_goals first | rfl | simp
@[simp] theorem State.countIn_journal (s : State) (n : Fin 2048) (g : Guest) (m : Bool) : (s.countIn n g m).journal = s.journal := by
  unfold State.countIn; (try dsimp only); repeat' split
  all_goals first | rfl | simp
@[simp] theorem State.countIn_router (s : State) (n : Fin 2048) (g : Guest) (m : Bool) : (s.countIn n g m).router = s.router := by
  unfold State.countIn; (try dsimp only); repeat' split
  all_goals first | rfl | simp
@[simp] theorem State.countIn_link (s : State) (n : Fin 2048) (g : Guest) (m : Bool) : (s.countIn n g m).link = s.link := by
  unfold State.countIn; (try dsimp only); repeat' split
  all_goals first | rfl | simp
@[simp] theorem State.countIn_notices (s : State) (n : Fin 2048) (g : Guest) (m : Bool) : (s.countIn n g m).notices = s.notices := by
  unfold State.countIn; (try dsimp only); repeat' split
  all_goals first | rfl | simp
@[simp] theorem State.recount_pending (s : State) (n : Fin 2048) (g : Guest) : (s.recount n g).pending = s.pending := by
  unfold State.recount; (try dsimp only); repeat' split
  all_goals first | rfl | simp
@[simp] theorem State.recount_inReset (s : State) (n : Fin 2048) (g : Guest) : (s.recount n g).inReset = s.inReset := by
  unfold State.recount; (try dsimp only); repeat' split
  all_goals first | rfl | simp
@[simp] theorem State.recount_straps (s : State) (n : Fin 2048) (g : Guest) : (s.recount n g).straps = s.straps := by
  unfold State.recount; (try dsimp only); repeat' split
  all_goals first | rfl | simp
@[simp] theorem State.recount_startUp (s : State) (n : Fin 2048) (g : Guest) : (s.recount n g).startUp = s.startUp := by
  unfold State.recount; (try dsimp only); repeat' split
  all_goals first | rfl | simp
@[simp] theorem State.recount_power (s : State) (n : Fin 2048) (g : Guest) : (s.recount n g).power = s.power := by
  unfold State.recount; (try dsimp only); repeat' split
  all_goals first | rfl | simp
@[simp] theorem State.recount_pins (s : State) (n : Fin 2048) (g : Guest) : (s.recount n g).pins = s.pins := by
  unfold State.recount; (try dsimp only); repeat' split
  all_goals first | rfl | simp
@[simp] theorem State.recount_mem (s : State) (n : Fin 2048) (g : Guest) : (s.recount n g).mem = s.mem := by
  unfold State.recount; (try dsimp only); repeat' split
  all_goals first | rfl | simp
@[simp] theorem State.recount_clock (s : State) (n : Fin 2048) (g : Guest) : (s.recount n g).clock = s.clock := by
  unfold State.recount; (try dsimp only); repeat' split
  all_goals first | rfl | simp
@[simp] theorem State.recount_settings (s : State) (n : Fin 2048) (g : Guest) : (s.recount n g).settings = s.settings := by
  unfold State.recount; (try dsimp only); repeat' split
  all_goals first | rfl | simp
@[simp] theorem State.recount_plans (s : State) (n : Fin 2048) (g : Guest) : (s.recount n g).plans = s.plans := by
  unfold State.recount; (try dsimp only); repeat' split
  all_goals first | rfl | simp
@[simp] theorem State.recount_profiles (s : State) (n : Fin 2048) (g : Guest) : (s.recount n g).profiles = s.profiles := by
  unfold State.recount; (try dsimp only); repeat' split
  all_goals first | rfl | simp
@[simp] theorem State.recount_bindings (s : State) (n : Fin 2048) (g : Guest) : (s.recount n g).bindings = s.bindings := by
  unfold State.recount; (try dsimp only); repeat' split
  all_goals first | rfl | simp
@[simp] theorem State.recount_index (s : State) (n : Fin 2048) (g : Guest) : (s.recount n g).index = s.index := by
  unfold State.recount; (try dsimp only); repeat' split
  all_goals first | rfl | simp
@[simp] theorem State.recount_cache (s : State) (n : Fin 2048) (g : Guest) : (s.recount n g).cache = s.cache := by
  unfold State.recount; (try dsimp only); repeat' split
  all_goals first | rfl | simp
@[simp] theorem State.recount_port (s : State) (n : Fin 2048) (g : Guest) : (s.recount n g).port = s.port := by
  unfold State.recount; (try dsimp only); repeat' split
  all_goals first | rfl | simp
@[simp] theorem State.recount_lines (s : State) (n : Fin 2048) (g : Guest) : (s.recount n g).lines = s.lines := by
  unfold State.recount; (try dsimp only); repeat' split
  all_goals first | rfl | simp
@[simp] theorem State.recount_entries (s : State) (n : Fin 2048) (g : Guest) : (s.recount n g).entries = s.entries := by
  unfold State.recount; (try dsimp only); repeat' split
  all_goals first | rfl | simp
@[simp] theorem State.recount_journal (s : State) (n : Fin 2048) (g : Guest) : (s.recount n g).journal = s.journal := by
  unfold State.recount; (try dsimp only); repeat' split
  all_goals first | rfl | simp
@[simp] theorem State.recount_router (s : State) (n : Fin 2048) (g : Guest) : (s.recount n g).router = s.router := by
  unfold State.recount; (try dsimp only); repeat' split
  all_goals first | rfl | simp
@[simp] theorem State.recount_link (s : State) (n : Fin 2048) (g : Guest) : (s.recount n g).link = s.link := by
  unfold State.recount; (try dsimp only); repeat' split
  all_goals first | rfl | simp
@[simp] theorem State.recount_notices (s : State) (n : Fin 2048) (g : Guest) : (s.recount n g).notices = s.notices := by
  unfold State.recount; (try dsimp only); repeat' split
  all_goals first | rfl | simp
@[simp] theorem State.musterIn_pending (s : State) (n : Fin 2048) : (s.musterIn n).pending = s.pending := by
  unfold State.musterIn; (try dsimp only); repeat' split
  all_goals first | rfl | simp
@[simp] theorem State.musterIn_inReset (s : State) (n : Fin 2048) : (s.musterIn n).inReset = s.inReset := by
  unfold State.musterIn; (try dsimp only); repeat' split
  all_goals first | rfl | simp
@[simp] theorem State.musterIn_straps (s : State) (n : Fin 2048) : (s.musterIn n).straps = s.straps := by
  unfold State.musterIn; (try dsimp only); repeat' split
  all_goals first | rfl | simp
@[simp] theorem State.musterIn_startUp (s : State) (n : Fin 2048) : (s.musterIn n).startUp = s.startUp := by
  unfold State.musterIn; (try dsimp only); repeat' split
  all_goals first | rfl | simp
@[simp] theorem State.musterIn_power (s : State) (n : Fin 2048) : (s.musterIn n).power = s.power := by
  unfold State.musterIn; (try dsimp only); repeat' split
  all_goals first | rfl | simp
@[simp] theorem State.musterIn_pins (s : State) (n : Fin 2048) : (s.musterIn n).pins = s.pins := by
  unfold State.musterIn; (try dsimp only); repeat' split
  all_goals first | rfl | simp
@[simp] theorem State.musterIn_mem (s : State) (n : Fin 2048) : (s.musterIn n).mem = s.mem := by
  unfold State.musterIn; (try dsimp only); repeat' split
  all_goals first | rfl | simp
@[simp] theorem State.musterIn_clock (s : State) (n : Fin 2048) : (s.musterIn n).clock = s.clock := by
  unfold State.musterIn; (try dsimp only); repeat' split
  all_goals first | rfl | simp
@[simp] theorem State.musterIn_settings (s : State) (n : Fin 2048) : (s.musterIn n).settings = s.settings := by
  unfold State.musterIn; (try dsimp only); repeat' split
  all_goals first | rfl | simp
@[simp] theorem State.musterIn_plans (s : State) (n : Fin 2048) : (s.musterIn n).plans = s.plans := by
  unfold State.musterIn; (try dsimp only); repeat' split
  all_goals first | rfl | simp
@[simp] theorem State.musterIn_profiles (s : State) (n : Fin 2048) : (s.musterIn n).profiles = s.profiles := by
  unfold State.musterIn; (try dsimp only); repeat' split
  all_goals first | rfl | simp
@[simp] theorem State.musterIn_bindings (s : State) (n : Fin 2048) : (s.musterIn n).bindings = s.bindings := by
  unfold State.musterIn; (try dsimp only); repeat' split
  all_goals first | rfl | simp
@[simp] theorem State.musterIn_index (s : State) (n : Fin 2048) : (s.musterIn n).index = s.index := by
  unfold State.musterIn; (try dsimp only); repeat' split
  all_goals first | rfl | simp
@[simp] theorem State.musterIn_cache (s : State) (n : Fin 2048) : (s.musterIn n).cache = s.cache := by
  unfold State.musterIn; (try dsimp only); repeat' split
  all_goals first | rfl | simp
@[simp] theorem State.musterIn_port (s : State) (n : Fin 2048) : (s.musterIn n).port = s.port := by
  unfold State.musterIn; (try dsimp only); repeat' split
  all_goals first | rfl | simp
@[simp] theorem State.musterIn_lines (s : State) (n : Fin 2048) : (s.musterIn n).lines = s.lines := by
  unfold State.musterIn; (try dsimp only); repeat' split
  all_goals first | rfl | simp
@[simp] theorem State.musterIn_entries (s : State) (n : Fin 2048) : (s.musterIn n).entries = s.entries := by
  unfold State.musterIn; (try dsimp only); repeat' split
  all_goals first | rfl | simp
@[simp] theorem State.musterIn_journal (s : State) (n : Fin 2048) : (s.musterIn n).journal = s.journal := by
  unfold State.musterIn; (try dsimp only); repeat' split
  all_goals first | rfl | simp
@[simp] theorem State.musterIn_router (s : State) (n : Fin 2048) : (s.musterIn n).router = s.router := by
  unfold State.musterIn; (try dsimp only); repeat' split
  all_goals first | rfl | simp
@[simp] theorem State.musterIn_link (s : State) (n : Fin 2048) : (s.musterIn n).link = s.link := by
  unfold State.musterIn; (try dsimp only); repeat' split
  all_goals first | rfl | simp
@[simp] theorem State.musterIn_notices (s : State) (n : Fin 2048) : (s.musterIn n).notices = s.notices := by
  unfold State.musterIn; (try dsimp only); repeat' split
  all_goals first | rfl | simp
@[simp] theorem State.presenceChange_pending (s : State) (i : Fin 128) (n : Fin 2048) (g : Guest) (p : Presence) (t : Option (Fin 4)) : (s.presenceChange i n g p t).pending = s.pending := by
  unfold State.presenceChange; (try dsimp only); repeat' split
  all_goals first | rfl | simp
@[simp] theorem State.presenceChange_inReset (s : State) (i : Fin 128) (n : Fin 2048) (g : Guest) (p : Presence) (t : Option (Fin 4)) : (s.presenceChange i n g p t).inReset = s.inReset := by
  unfold State.presenceChange; (try dsimp only); repeat' split
  all_goals first | rfl | simp
@[simp] theorem State.presenceChange_straps (s : State) (i : Fin 128) (n : Fin 2048) (g : Guest) (p : Presence) (t : Option (Fin 4)) : (s.presenceChange i n g p t).straps = s.straps := by
  unfold State.presenceChange; (try dsimp only); repeat' split
  all_goals first | rfl | simp
@[simp] theorem State.presenceChange_startUp (s : State) (i : Fin 128) (n : Fin 2048) (g : Guest) (p : Presence) (t : Option (Fin 4)) : (s.presenceChange i n g p t).startUp = s.startUp := by
  unfold State.presenceChange; (try dsimp only); repeat' split
  all_goals first | rfl | simp
@[simp] theorem State.presenceChange_power (s : State) (i : Fin 128) (n : Fin 2048) (g : Guest) (p : Presence) (t : Option (Fin 4)) : (s.presenceChange i n g p t).power = s.power := by
  unfold State.presenceChange; (try dsimp only); repeat' split
  all_goals first | rfl | simp
@[simp] theorem State.presenceChange_pins (s : State) (i : Fin 128) (n : Fin 2048) (g : Guest) (p : Presence) (t : Option (Fin 4)) : (s.presenceChange i n g p t).pins = s.pins := by
  unfold State.presenceChange; (try dsimp only); repeat' split
  all_goals first | rfl | simp
@[simp] theorem State.presenceChange_mem (s : State) (i : Fin 128) (n : Fin 2048) (g : Guest) (p : Presence) (t : Option (Fin 4)) : (s.presenceChange i n g p t).mem = s.mem := by
  unfold State.presenceChange; (try dsimp only); repeat' split
  all_goals first | rfl | simp
@[simp] theorem State.presenceChange_clock (s : State) (i : Fin 128) (n : Fin 2048) (g : Guest) (p : Presence) (t : Option (Fin 4)) : (s.presenceChange i n g p t).clock = s.clock := by
  unfold State.presenceChange; (try dsimp only); repeat' split
  all_goals first | rfl | simp
@[simp] theorem State.presenceChange_settings (s : State) (i : Fin 128) (n : Fin 2048) (g : Guest) (p : Presence) (t : Option (Fin 4)) : (s.presenceChange i n g p t).settings = s.settings := by
  unfold State.presenceChange; (try dsimp only); repeat' split
  all_goals first | rfl | simp
@[simp] theorem State.presenceChange_plans (s : State) (i : Fin 128) (n : Fin 2048) (g : Guest) (p : Presence) (t : Option (Fin 4)) : (s.presenceChange i n g p t).plans = s.plans := by
  unfold State.presenceChange; (try dsimp only); repeat' split
  all_goals first | rfl | simp
@[simp] theorem State.presenceChange_profiles (s : State) (i : Fin 128) (n : Fin 2048) (g : Guest) (p : Presence) (t : Option (Fin 4)) : (s.presenceChange i n g p t).profiles = s.profiles := by
  unfold State.presenceChange; (try dsimp only); repeat' split
  all_goals first | rfl | simp
@[simp] theorem State.presenceChange_bindings (s : State) (i : Fin 128) (n : Fin 2048) (g : Guest) (p : Presence) (t : Option (Fin 4)) : (s.presenceChange i n g p t).bindings = s.bindings := by
  unfold State.presenceChange; (try dsimp only); repeat' split
  all_goals first | rfl | simp
@[simp] theorem State.presenceChange_index (s : State) (i : Fin 128) (n : Fin 2048) (g : Guest) (p : Presence) (t : Option (Fin 4)) : (s.presenceChange i n g p t).index = s.index := by
  unfold State.presenceChange; (try dsimp only); repeat' split
  all_goals first | rfl | simp
@[simp] theorem State.presenceChange_lines (s : State) (i : Fin 128) (n : Fin 2048) (g : Guest) (p : Presence) (t : Option (Fin 4)) : (s.presenceChange i n g p t).lines = s.lines := by
  unfold State.presenceChange; (try dsimp only); repeat' split
  all_goals first | rfl | simp
@[simp] theorem State.presenceChange_entries (s : State) (i : Fin 128) (n : Fin 2048) (g : Guest) (p : Presence) (t : Option (Fin 4)) : (s.presenceChange i n g p t).entries = s.entries := by
  unfold State.presenceChange; (try dsimp only); repeat' split
  all_goals first | rfl | simp
@[simp] theorem State.presenceChange_journal (s : State) (i : Fin 128) (n : Fin 2048) (g : Guest) (p : Presence) (t : Option (Fin 4)) : (s.presenceChange i n g p t).journal = s.journal := by
  unfold State.presenceChange; (try dsimp only); repeat' split
  all_goals first | rfl | simp
@[simp] theorem State.presenceChange_router (s : State) (i : Fin 128) (n : Fin 2048) (g : Guest) (p : Presence) (t : Option (Fin 4)) : (s.presenceChange i n g p t).router = s.router := by
  unfold State.presenceChange; (try dsimp only); repeat' split
  all_goals first | rfl | simp
@[simp] theorem State.presenceChange_link (s : State) (i : Fin 128) (n : Fin 2048) (g : Guest) (p : Presence) (t : Option (Fin 4)) : (s.presenceChange i n g p t).link = s.link := by
  unfold State.presenceChange; (try dsimp only); repeat' split
  all_goals first | rfl | simp
@[simp] theorem State.presenceChange_notices (s : State) (i : Fin 128) (n : Fin 2048) (g : Guest) (p : Presence) (t : Option (Fin 4)) : (s.presenceChange i n g p t).notices = s.notices := by
  unfold State.presenceChange; (try dsimp only); repeat' split
  all_goals first | rfl | simp
@[simp] theorem State.clearLeft_pending (s : State) (n : Fin 2048) (g : Guest) : (s.clearLeft n g).pending = s.pending := by
  unfold State.clearLeft; (try dsimp only); repeat' split
  all_goals first | rfl | simp
@[simp] theorem State.clearLeft_inReset (s : State) (n : Fin 2048) (g : Guest) : (s.clearLeft n g).inReset = s.inReset := by
  unfold State.clearLeft; (try dsimp only); repeat' split
  all_goals first | rfl | simp
@[simp] theorem State.clearLeft_straps (s : State) (n : Fin 2048) (g : Guest) : (s.clearLeft n g).straps = s.straps := by
  unfold State.clearLeft; (try dsimp only); repeat' split
  all_goals first | rfl | simp
@[simp] theorem State.clearLeft_startUp (s : State) (n : Fin 2048) (g : Guest) : (s.clearLeft n g).startUp = s.startUp := by
  unfold State.clearLeft; (try dsimp only); repeat' split
  all_goals first | rfl | simp
@[simp] theorem State.clearLeft_power (s : State) (n : Fin 2048) (g : Guest) : (s.clearLeft n g).power = s.power := by
  unfold State.clearLeft; (try dsimp only); repeat' split
  all_goals first | rfl | simp
@[simp] theorem State.clearLeft_mem (s : State) (n : Fin 2048) (g : Guest) : (s.clearLeft n g).mem = s.mem := by
  unfold State.clearLeft; (try dsimp only); repeat' split
  all_goals first | rfl | simp
@[simp] theorem State.clearLeft_clock (s : State) (n : Fin 2048) (g : Guest) : (s.clearLeft n g).clock = s.clock := by
  unfold State.clearLeft; (try dsimp only); repeat' split
  all_goals first | rfl | simp
@[simp] theorem State.clearLeft_settings (s : State) (n : Fin 2048) (g : Guest) : (s.clearLeft n g).settings = s.settings := by
  unfold State.clearLeft; (try dsimp only); repeat' split
  all_goals first | rfl | simp
@[simp] theorem State.clearLeft_plans (s : State) (n : Fin 2048) (g : Guest) : (s.clearLeft n g).plans = s.plans := by
  unfold State.clearLeft; (try dsimp only); repeat' split
  all_goals first | rfl | simp
@[simp] theorem State.clearLeft_profiles (s : State) (n : Fin 2048) (g : Guest) : (s.clearLeft n g).profiles = s.profiles := by
  unfold State.clearLeft; (try dsimp only); repeat' split
  all_goals first | rfl | simp
@[simp] theorem State.clearLeft_bindings (s : State) (n : Fin 2048) (g : Guest) : (s.clearLeft n g).bindings = s.bindings := by
  unfold State.clearLeft; (try dsimp only); repeat' split
  all_goals first | rfl | simp
@[simp] theorem State.clearLeft_index (s : State) (n : Fin 2048) (g : Guest) : (s.clearLeft n g).index = s.index := by
  unfold State.clearLeft; (try dsimp only); repeat' split
  all_goals first | rfl | simp
@[simp] theorem State.clearLeft_cache (s : State) (n : Fin 2048) (g : Guest) : (s.clearLeft n g).cache = s.cache := by
  unfold State.clearLeft; (try dsimp only); repeat' split
  all_goals first | rfl | simp
@[simp] theorem State.clearLeft_port (s : State) (n : Fin 2048) (g : Guest) : (s.clearLeft n g).port = s.port := by
  unfold State.clearLeft; (try dsimp only); repeat' split
  all_goals first | rfl | simp
@[simp] theorem State.clearLeft_lines (s : State) (n : Fin 2048) (g : Guest) : (s.clearLeft n g).lines = s.lines := by
  unfold State.clearLeft; (try dsimp only); repeat' split
  all_goals first | rfl | simp
@[simp] theorem State.clearLeft_entries (s : State) (n : Fin 2048) (g : Guest) : (s.clearLeft n g).entries = s.entries := by
  unfold State.clearLeft; (try dsimp only); repeat' split
  all_goals first | rfl | simp
@[simp] theorem State.clearLeft_journal (s : State) (n : Fin 2048) (g : Guest) : (s.clearLeft n g).journal = s.journal := by
  unfold State.clearLeft; (try dsimp only); repeat' split
  all_goals first | rfl | simp
@[simp] theorem State.clearLeft_landing (s : State) (n : Fin 2048) (g : Guest) : (s.clearLeft n g).landing = s.landing := by
  unfold State.clearLeft; (try dsimp only); repeat' split
  all_goals first | rfl | simp
@[simp] theorem State.clearLeft_muster (s : State) (n : Fin 2048) (g : Guest) : (s.clearLeft n g).muster = s.muster := by
  unfold State.clearLeft; (try dsimp only); repeat' split
  all_goals first | rfl | simp
@[simp] theorem State.clearLeft_router (s : State) (n : Fin 2048) (g : Guest) : (s.clearLeft n g).router = s.router := by
  unfold State.clearLeft; (try dsimp only); repeat' split
  all_goals first | rfl | simp
@[simp] theorem State.clearLeft_link (s : State) (n : Fin 2048) (g : Guest) : (s.clearLeft n g).link = s.link := by
  unfold State.clearLeft; (try dsimp only); repeat' split
  all_goals first | rfl | simp
@[simp] theorem State.overdue_pending (s : State) (t : Fin 4) (d : Nat) : (s.overdue t d).pending = s.pending := by
  unfold State.overdue; (try dsimp only); repeat' split
  all_goals first | rfl | simp
@[simp] theorem State.overdue_inReset (s : State) (t : Fin 4) (d : Nat) : (s.overdue t d).inReset = s.inReset := by
  unfold State.overdue; (try dsimp only); repeat' split
  all_goals first | rfl | simp
@[simp] theorem State.overdue_straps (s : State) (t : Fin 4) (d : Nat) : (s.overdue t d).straps = s.straps := by
  unfold State.overdue; (try dsimp only); repeat' split
  all_goals first | rfl | simp
@[simp] theorem State.overdue_startUp (s : State) (t : Fin 4) (d : Nat) : (s.overdue t d).startUp = s.startUp := by
  unfold State.overdue; (try dsimp only); repeat' split
  all_goals first | rfl | simp
@[simp] theorem State.overdue_power (s : State) (t : Fin 4) (d : Nat) : (s.overdue t d).power = s.power := by
  unfold State.overdue; (try dsimp only); repeat' split
  all_goals first | rfl | simp
@[simp] theorem State.overdue_mem (s : State) (t : Fin 4) (d : Nat) : (s.overdue t d).mem = s.mem := by
  unfold State.overdue; (try dsimp only); repeat' split
  all_goals first | rfl | simp
@[simp] theorem State.overdue_clock (s : State) (t : Fin 4) (d : Nat) : (s.overdue t d).clock = s.clock := by
  unfold State.overdue; (try dsimp only); repeat' split
  all_goals first | rfl | simp
@[simp] theorem State.overdue_settings (s : State) (t : Fin 4) (d : Nat) : (s.overdue t d).settings = s.settings := by
  unfold State.overdue; (try dsimp only); repeat' split
  all_goals first | rfl | simp
@[simp] theorem State.overdue_plans (s : State) (t : Fin 4) (d : Nat) : (s.overdue t d).plans = s.plans := by
  unfold State.overdue; (try dsimp only); repeat' split
  all_goals first | rfl | simp
@[simp] theorem State.overdue_profiles (s : State) (t : Fin 4) (d : Nat) : (s.overdue t d).profiles = s.profiles := by
  unfold State.overdue; (try dsimp only); repeat' split
  all_goals first | rfl | simp
@[simp] theorem State.overdue_bindings (s : State) (t : Fin 4) (d : Nat) : (s.overdue t d).bindings = s.bindings := by
  unfold State.overdue; (try dsimp only); repeat' split
  all_goals first | rfl | simp
@[simp] theorem State.overdue_index (s : State) (t : Fin 4) (d : Nat) : (s.overdue t d).index = s.index := by
  unfold State.overdue; (try dsimp only); repeat' split
  all_goals first | rfl | simp
@[simp] theorem State.overdue_lines (s : State) (t : Fin 4) (d : Nat) : (s.overdue t d).lines = s.lines := by
  unfold State.overdue; (try dsimp only); repeat' split
  all_goals first | rfl | simp
@[simp] theorem State.overdue_entries (s : State) (t : Fin 4) (d : Nat) : (s.overdue t d).entries = s.entries := by
  unfold State.overdue; (try dsimp only); repeat' split
  all_goals first | rfl | simp
@[simp] theorem State.overdue_journal (s : State) (t : Fin 4) (d : Nat) : (s.overdue t d).journal = s.journal := by
  unfold State.overdue; (try dsimp only); repeat' split
  all_goals first | rfl | simp
@[simp] theorem State.overdue_muster (s : State) (t : Fin 4) (d : Nat) : (s.overdue t d).muster = s.muster := by
  unfold State.overdue; (try dsimp only); repeat' split
  all_goals first | rfl | simp
@[simp] theorem State.overdue_router (s : State) (t : Fin 4) (d : Nat) : (s.overdue t d).router = s.router := by
  unfold State.overdue; (try dsimp only); repeat' split
  all_goals first | rfl | simp
@[simp] theorem State.overdue_link (s : State) (t : Fin 4) (d : Nat) : (s.overdue t d).link = s.link := by
  unfold State.overdue; (try dsimp only); repeat' split
  all_goals first | rfl | simp
@[simp] theorem State.censusCard_pending (s : State) (n : Fin 2048) (k : Fin 2) (c : Option Card) : (s.censusCard n k c).pending = s.pending := by
  unfold State.censusCard; (try dsimp only); repeat' split
  all_goals first | rfl | simp
@[simp] theorem State.censusCard_inReset (s : State) (n : Fin 2048) (k : Fin 2) (c : Option Card) : (s.censusCard n k c).inReset = s.inReset := by
  unfold State.censusCard; (try dsimp only); repeat' split
  all_goals first | rfl | simp
@[simp] theorem State.censusCard_straps (s : State) (n : Fin 2048) (k : Fin 2) (c : Option Card) : (s.censusCard n k c).straps = s.straps := by
  unfold State.censusCard; (try dsimp only); repeat' split
  all_goals first | rfl | simp
@[simp] theorem State.censusCard_startUp (s : State) (n : Fin 2048) (k : Fin 2) (c : Option Card) : (s.censusCard n k c).startUp = s.startUp := by
  unfold State.censusCard; (try dsimp only); repeat' split
  all_goals first | rfl | simp
@[simp] theorem State.censusCard_power (s : State) (n : Fin 2048) (k : Fin 2) (c : Option Card) : (s.censusCard n k c).power = s.power := by
  unfold State.censusCard; (try dsimp only); repeat' split
  all_goals first | rfl | simp
@[simp] theorem State.censusCard_pins (s : State) (n : Fin 2048) (k : Fin 2) (c : Option Card) : (s.censusCard n k c).pins = s.pins := by
  unfold State.censusCard; (try dsimp only); repeat' split
  all_goals first | rfl | simp
@[simp] theorem State.censusCard_mem (s : State) (n : Fin 2048) (k : Fin 2) (c : Option Card) : (s.censusCard n k c).mem = s.mem := by
  unfold State.censusCard; (try dsimp only); repeat' split
  all_goals first | rfl | simp
@[simp] theorem State.censusCard_clock (s : State) (n : Fin 2048) (k : Fin 2) (c : Option Card) : (s.censusCard n k c).clock = s.clock := by
  unfold State.censusCard; (try dsimp only); repeat' split
  all_goals first | rfl | simp
@[simp] theorem State.censusCard_settings (s : State) (n : Fin 2048) (k : Fin 2) (c : Option Card) : (s.censusCard n k c).settings = s.settings := by
  unfold State.censusCard; (try dsimp only); repeat' split
  all_goals first | rfl | simp
@[simp] theorem State.censusCard_plans (s : State) (n : Fin 2048) (k : Fin 2) (c : Option Card) : (s.censusCard n k c).plans = s.plans := by
  unfold State.censusCard; (try dsimp only); repeat' split
  all_goals first | rfl | simp
@[simp] theorem State.censusCard_profiles (s : State) (n : Fin 2048) (k : Fin 2) (c : Option Card) : (s.censusCard n k c).profiles = s.profiles := by
  unfold State.censusCard; (try dsimp only); repeat' split
  all_goals first | rfl | simp
@[simp] theorem State.censusCard_bindings (s : State) (n : Fin 2048) (k : Fin 2) (c : Option Card) : (s.censusCard n k c).bindings = s.bindings := by
  unfold State.censusCard; (try dsimp only); repeat' split
  all_goals first | rfl | simp
@[simp] theorem State.censusCard_cache (s : State) (n : Fin 2048) (k : Fin 2) (c : Option Card) : (s.censusCard n k c).cache = s.cache := by
  unfold State.censusCard; (try dsimp only); repeat' split
  all_goals first | rfl | simp
@[simp] theorem State.censusCard_port (s : State) (n : Fin 2048) (k : Fin 2) (c : Option Card) : (s.censusCard n k c).port = s.port := by
  unfold State.censusCard; (try dsimp only); repeat' split
  all_goals first | rfl | simp
@[simp] theorem State.censusCard_lines (s : State) (n : Fin 2048) (k : Fin 2) (c : Option Card) : (s.censusCard n k c).lines = s.lines := by
  unfold State.censusCard; (try dsimp only); repeat' split
  all_goals first | rfl | simp
@[simp] theorem State.censusCard_entries (s : State) (n : Fin 2048) (k : Fin 2) (c : Option Card) : (s.censusCard n k c).entries = s.entries := by
  unfold State.censusCard; (try dsimp only); repeat' split
  all_goals first | rfl | simp
@[simp] theorem State.censusCard_journal (s : State) (n : Fin 2048) (k : Fin 2) (c : Option Card) : (s.censusCard n k c).journal = s.journal := by
  unfold State.censusCard; (try dsimp only); repeat' split
  all_goals first | rfl | simp
@[simp] theorem State.censusCard_muster (s : State) (n : Fin 2048) (k : Fin 2) (c : Option Card) : (s.censusCard n k c).muster = s.muster := by
  unfold State.censusCard; (try dsimp only); repeat' split
  all_goals first | rfl | simp
@[simp] theorem State.censusCard_router (s : State) (n : Fin 2048) (k : Fin 2) (c : Option Card) : (s.censusCard n k c).router = s.router := by
  unfold State.censusCard; (try dsimp only); repeat' split
  all_goals first | rfl | simp
@[simp] theorem State.censusCard_link (s : State) (n : Fin 2048) (k : Fin 2) (c : Option Card) : (s.censusCard n k c).link = s.link := by
  unfold State.censusCard; (try dsimp only); repeat' split
  all_goals first | rfl | simp
@[simp] theorem State.censusCard_notices (s : State) (n : Fin 2048) (k : Fin 2) (c : Option Card) : (s.censusCard n k c).notices = s.notices := by
  unfold State.censusCard; (try dsimp only); repeat' split
  all_goals first | rfl | simp
@[simp] theorem State.censusCount_pending (s : State) (n : Fin 2048) (g : Guest) : (s.censusCount n g).pending = s.pending := by
  unfold State.censusCount; (try dsimp only); repeat' split
  all_goals first | rfl | simp
@[simp] theorem State.censusCount_inReset (s : State) (n : Fin 2048) (g : Guest) : (s.censusCount n g).inReset = s.inReset := by
  unfold State.censusCount; (try dsimp only); repeat' split
  all_goals first | rfl | simp
@[simp] theorem State.censusCount_straps (s : State) (n : Fin 2048) (g : Guest) : (s.censusCount n g).straps = s.straps := by
  unfold State.censusCount; (try dsimp only); repeat' split
  all_goals first | rfl | simp
@[simp] theorem State.censusCount_startUp (s : State) (n : Fin 2048) (g : Guest) : (s.censusCount n g).startUp = s.startUp := by
  unfold State.censusCount; (try dsimp only); repeat' split
  all_goals first | rfl | simp
@[simp] theorem State.censusCount_power (s : State) (n : Fin 2048) (g : Guest) : (s.censusCount n g).power = s.power := by
  unfold State.censusCount; (try dsimp only); repeat' split
  all_goals first | rfl | simp
@[simp] theorem State.censusCount_mem (s : State) (n : Fin 2048) (g : Guest) : (s.censusCount n g).mem = s.mem := by
  unfold State.censusCount; (try dsimp only); repeat' split
  all_goals first | rfl | simp
@[simp] theorem State.censusCount_clock (s : State) (n : Fin 2048) (g : Guest) : (s.censusCount n g).clock = s.clock := by
  unfold State.censusCount; (try dsimp only); repeat' split
  all_goals first | rfl | simp
@[simp] theorem State.censusCount_settings (s : State) (n : Fin 2048) (g : Guest) : (s.censusCount n g).settings = s.settings := by
  unfold State.censusCount; (try dsimp only); repeat' split
  all_goals first | rfl | simp
@[simp] theorem State.censusCount_plans (s : State) (n : Fin 2048) (g : Guest) : (s.censusCount n g).plans = s.plans := by
  unfold State.censusCount; (try dsimp only); repeat' split
  all_goals first | rfl | simp
@[simp] theorem State.censusCount_profiles (s : State) (n : Fin 2048) (g : Guest) : (s.censusCount n g).profiles = s.profiles := by
  unfold State.censusCount; (try dsimp only); repeat' split
  all_goals first | rfl | simp
@[simp] theorem State.censusCount_bindings (s : State) (n : Fin 2048) (g : Guest) : (s.censusCount n g).bindings = s.bindings := by
  unfold State.censusCount; (try dsimp only); repeat' split
  all_goals first | rfl | simp
@[simp] theorem State.censusCount_lines (s : State) (n : Fin 2048) (g : Guest) : (s.censusCount n g).lines = s.lines := by
  unfold State.censusCount; (try dsimp only); repeat' split
  all_goals first | rfl | simp
@[simp] theorem State.censusCount_entries (s : State) (n : Fin 2048) (g : Guest) : (s.censusCount n g).entries = s.entries := by
  unfold State.censusCount; (try dsimp only); repeat' split
  all_goals first | rfl | simp
@[simp] theorem State.censusCount_journal (s : State) (n : Fin 2048) (g : Guest) : (s.censusCount n g).journal = s.journal := by
  unfold State.censusCount; (try dsimp only); repeat' split
  all_goals first | rfl | simp
@[simp] theorem State.censusCount_router (s : State) (n : Fin 2048) (g : Guest) : (s.censusCount n g).router = s.router := by
  unfold State.censusCount; (try dsimp only); repeat' split
  all_goals first | rfl | simp
@[simp] theorem State.censusCount_link (s : State) (n : Fin 2048) (g : Guest) : (s.censusCount n g).link = s.link := by
  unfold State.censusCount; (try dsimp only); repeat' split
  all_goals first | rfl | simp
@[simp] theorem State.startUpReview_pending (s : State) : s.startUpReview.pending = s.pending := by
  unfold State.startUpReview; (try dsimp only); repeat' split
  all_goals first | rfl | simp
@[simp] theorem State.startUpReview_inReset (s : State) : s.startUpReview.inReset = s.inReset := by
  unfold State.startUpReview; (try dsimp only); repeat' split
  all_goals first | rfl | simp
@[simp] theorem State.startUpReview_straps (s : State) : s.startUpReview.straps = s.straps := by
  unfold State.startUpReview; (try dsimp only); repeat' split
  all_goals first | rfl | simp
@[simp] theorem State.startUpReview_power (s : State) : s.startUpReview.power = s.power := by
  unfold State.startUpReview; (try dsimp only); repeat' split
  all_goals first | rfl | simp
@[simp] theorem State.startUpReview_mem (s : State) : s.startUpReview.mem = s.mem := by
  unfold State.startUpReview; (try dsimp only); repeat' split
  all_goals first | rfl | simp
@[simp] theorem State.startUpReview_clock (s : State) : s.startUpReview.clock = s.clock := by
  unfold State.startUpReview; (try dsimp only); repeat' split
  all_goals first | rfl | simp
@[simp] theorem State.startUpReview_settings (s : State) : s.startUpReview.settings = s.settings := by
  unfold State.startUpReview; (try dsimp only); repeat' split
  all_goals first | rfl | simp
@[simp] theorem State.startUpReview_plans (s : State) : s.startUpReview.plans = s.plans := by
  unfold State.startUpReview; (try dsimp only); repeat' split
  all_goals first | rfl | simp
@[simp] theorem State.startUpReview_profiles (s : State) : s.startUpReview.profiles = s.profiles := by
  unfold State.startUpReview; (try dsimp only); repeat' split
  all_goals first | rfl | simp
@[simp] theorem State.startUpReview_bindings (s : State) : s.startUpReview.bindings = s.bindings := by
  unfold State.startUpReview; (try dsimp only); repeat' split
  all_goals first | rfl | simp
@[simp] theorem State.startUpReview_index (s : State) : s.startUpReview.index = s.index := by
  unfold State.startUpReview; (try dsimp only); repeat' split
  all_goals first | rfl | simp
@[simp] theorem State.startUpReview_cache (s : State) : s.startUpReview.cache = s.cache := by
  unfold State.startUpReview; (try dsimp only); repeat' split
  all_goals first | rfl | simp
@[simp] theorem State.startUpReview_port (s : State) : s.startUpReview.port = s.port := by
  unfold State.startUpReview; (try dsimp only); repeat' split
  all_goals first | rfl | simp
@[simp] theorem State.startUpReview_lines (s : State) : s.startUpReview.lines = s.lines := by
  unfold State.startUpReview; (try dsimp only); repeat' split
  all_goals first | rfl | simp
@[simp] theorem State.startUpReview_entries (s : State) : s.startUpReview.entries = s.entries := by
  unfold State.startUpReview; (try dsimp only); repeat' split
  all_goals first | rfl | simp
@[simp] theorem State.startUpReview_journal (s : State) : s.startUpReview.journal = s.journal := by
  unfold State.startUpReview; (try dsimp only); repeat' split
  all_goals first | rfl | simp
@[simp] theorem State.startUpReview_landing (s : State) : s.startUpReview.landing = s.landing := by
  unfold State.startUpReview; (try dsimp only); repeat' split
  all_goals first | rfl | simp
@[simp] theorem State.startUpReview_muster (s : State) : s.startUpReview.muster = s.muster := by
  unfold State.startUpReview; (try dsimp only); repeat' split
  all_goals first | rfl | simp
@[simp] theorem State.startUpReview_router (s : State) : s.startUpReview.router = s.router := by
  unfold State.startUpReview; (try dsimp only); repeat' split
  all_goals first | rfl | simp
@[simp] theorem State.startUpReview_link (s : State) : s.startUpReview.link = s.link := by
  unfold State.startUpReview; (try dsimp only); repeat' split
  all_goals first | rfl | simp
@[simp] theorem State.journalReview_pending (s : State) : s.journalReview.pending = s.pending := by
  unfold State.journalReview; (try dsimp only); repeat' split
  all_goals first | rfl | simp
@[simp] theorem State.journalReview_inReset (s : State) : s.journalReview.inReset = s.inReset := by
  unfold State.journalReview; (try dsimp only); repeat' split
  all_goals first | rfl | simp
@[simp] theorem State.journalReview_straps (s : State) : s.journalReview.straps = s.straps := by
  unfold State.journalReview; (try dsimp only); repeat' split
  all_goals first | rfl | simp
@[simp] theorem State.journalReview_startUp (s : State) : s.journalReview.startUp = s.startUp := by
  unfold State.journalReview; (try dsimp only); repeat' split
  all_goals first | rfl | simp
@[simp] theorem State.journalReview_power (s : State) : s.journalReview.power = s.power := by
  unfold State.journalReview; (try dsimp only); repeat' split
  all_goals first | rfl | simp
@[simp] theorem State.journalReview_mem (s : State) : s.journalReview.mem = s.mem := by
  unfold State.journalReview; (try dsimp only); repeat' split
  all_goals first | rfl | simp
@[simp] theorem State.journalReview_clock (s : State) : s.journalReview.clock = s.clock := by
  unfold State.journalReview; (try dsimp only); repeat' split
  all_goals first | rfl | simp
@[simp] theorem State.journalReview_settings (s : State) : s.journalReview.settings = s.settings := by
  unfold State.journalReview; (try dsimp only); repeat' split
  all_goals first | rfl | simp
@[simp] theorem State.journalReview_plans (s : State) : s.journalReview.plans = s.plans := by
  unfold State.journalReview; (try dsimp only); repeat' split
  all_goals first | rfl | simp
@[simp] theorem State.journalReview_profiles (s : State) : s.journalReview.profiles = s.profiles := by
  unfold State.journalReview; (try dsimp only); repeat' split
  all_goals first | rfl | simp
@[simp] theorem State.journalReview_bindings (s : State) : s.journalReview.bindings = s.bindings := by
  unfold State.journalReview; (try dsimp only); repeat' split
  all_goals first | rfl | simp
@[simp] theorem State.journalReview_index (s : State) : s.journalReview.index = s.index := by
  unfold State.journalReview; (try dsimp only); repeat' split
  all_goals first | rfl | simp
@[simp] theorem State.journalReview_cache (s : State) : s.journalReview.cache = s.cache := by
  unfold State.journalReview; (try dsimp only); repeat' split
  all_goals first | rfl | simp
@[simp] theorem State.journalReview_port (s : State) : s.journalReview.port = s.port := by
  unfold State.journalReview; (try dsimp only); repeat' split
  all_goals first | rfl | simp
@[simp] theorem State.journalReview_entries (s : State) : s.journalReview.entries = s.entries := by
  unfold State.journalReview; (try dsimp only); repeat' split
  all_goals first | rfl | simp
@[simp] theorem State.journalReview_journal (s : State) : s.journalReview.journal = s.journal := by
  unfold State.journalReview; (try dsimp only); repeat' split
  all_goals first | rfl | simp
@[simp] theorem State.journalReview_landing (s : State) : s.journalReview.landing = s.landing := by
  unfold State.journalReview; (try dsimp only); repeat' split
  all_goals first | rfl | simp
@[simp] theorem State.journalReview_muster (s : State) : s.journalReview.muster = s.muster := by
  unfold State.journalReview; (try dsimp only); repeat' split
  all_goals first | rfl | simp
@[simp] theorem State.journalReview_link (s : State) : s.journalReview.link = s.link := by
  unfold State.journalReview; (try dsimp only); repeat' split
  all_goals first | rfl | simp
@[simp] theorem State.modPending_pending (s : State) (k : RecKey) (f : Nat → Nat) : (s.modPending k f).pending = s.pending := by
  unfold State.modPending; (try dsimp only); repeat' split
  all_goals first | rfl | simp
@[simp] theorem State.modPending_inReset (s : State) (k : RecKey) (f : Nat → Nat) : (s.modPending k f).inReset = s.inReset := by
  unfold State.modPending; (try dsimp only); repeat' split
  all_goals first | rfl | simp
@[simp] theorem State.modPending_straps (s : State) (k : RecKey) (f : Nat → Nat) : (s.modPending k f).straps = s.straps := by
  unfold State.modPending; (try dsimp only); repeat' split
  all_goals first | rfl | simp
@[simp] theorem State.modPending_startUp (s : State) (k : RecKey) (f : Nat → Nat) : (s.modPending k f).startUp = s.startUp := by
  unfold State.modPending; (try dsimp only); repeat' split
  all_goals first | rfl | simp
@[simp] theorem State.modPending_power (s : State) (k : RecKey) (f : Nat → Nat) : (s.modPending k f).power = s.power := by
  unfold State.modPending; (try dsimp only); repeat' split
  all_goals first | rfl | simp
@[simp] theorem State.modPending_pins (s : State) (k : RecKey) (f : Nat → Nat) : (s.modPending k f).pins = s.pins := by
  unfold State.modPending; (try dsimp only); repeat' split
  all_goals first | rfl | simp
@[simp] theorem State.modPending_mem (s : State) (k : RecKey) (f : Nat → Nat) : (s.modPending k f).mem = s.mem := by
  unfold State.modPending; (try dsimp only); repeat' split
  all_goals first | rfl | simp
@[simp] theorem State.modPending_clock (s : State) (k : RecKey) (f : Nat → Nat) : (s.modPending k f).clock = s.clock := by
  unfold State.modPending; (try dsimp only); repeat' split
  all_goals first | rfl | simp
@[simp] theorem State.modPending_settings (s : State) (k : RecKey) (f : Nat → Nat) : (s.modPending k f).settings = s.settings := by
  unfold State.modPending; (try dsimp only); repeat' split
  all_goals first | rfl | simp
@[simp] theorem State.modPending_plans (s : State) (k : RecKey) (f : Nat → Nat) : (s.modPending k f).plans = s.plans := by
  unfold State.modPending; (try dsimp only); repeat' split
  all_goals first | rfl | simp
@[simp] theorem State.modPending_profiles (s : State) (k : RecKey) (f : Nat → Nat) : (s.modPending k f).profiles = s.profiles := by
  unfold State.modPending; (try dsimp only); repeat' split
  all_goals first | rfl | simp
@[simp] theorem State.modPending_bindings (s : State) (k : RecKey) (f : Nat → Nat) : (s.modPending k f).bindings = s.bindings := by
  unfold State.modPending; (try dsimp only); repeat' split
  all_goals first | rfl | simp
@[simp] theorem State.modPending_index (s : State) (k : RecKey) (f : Nat → Nat) : (s.modPending k f).index = s.index := by
  unfold State.modPending; (try dsimp only); repeat' split
  all_goals first | rfl | simp
@[simp] theorem State.modPending_port (s : State) (k : RecKey) (f : Nat → Nat) : (s.modPending k f).port = s.port := by
  unfold State.modPending; (try dsimp only); repeat' split
  all_goals first | rfl | simp
@[simp] theorem State.modPending_lines (s : State) (k : RecKey) (f : Nat → Nat) : (s.modPending k f).lines = s.lines := by
  unfold State.modPending; (try dsimp only); repeat' split
  all_goals first | rfl | simp
@[simp] theorem State.modPending_entries (s : State) (k : RecKey) (f : Nat → Nat) : (s.modPending k f).entries = s.entries := by
  unfold State.modPending; (try dsimp only); repeat' split
  all_goals first | rfl | simp
@[simp] theorem State.modPending_journal (s : State) (k : RecKey) (f : Nat → Nat) : (s.modPending k f).journal = s.journal := by
  unfold State.modPending; (try dsimp only); repeat' split
  all_goals first | rfl | simp
@[simp] theorem State.modPending_landing (s : State) (k : RecKey) (f : Nat → Nat) : (s.modPending k f).landing = s.landing := by
  unfold State.modPending; (try dsimp only); repeat' split
  all_goals first | rfl | simp
@[simp] theorem State.modPending_muster (s : State) (k : RecKey) (f : Nat → Nat) : (s.modPending k f).muster = s.muster := by
  unfold State.modPending; (try dsimp only); repeat' split
  all_goals first | rfl | simp
@[simp] theorem State.modPending_router (s : State) (k : RecKey) (f : Nat → Nat) : (s.modPending k f).router = s.router := by
  unfold State.modPending; (try dsimp only); repeat' split
  all_goals first | rfl | simp
@[simp] theorem State.modPending_link (s : State) (k : RecKey) (f : Nat → Nat) : (s.modPending k f).link = s.link := by
  unfold State.modPending; (try dsimp only); repeat' split
  all_goals first | rfl | simp
@[simp] theorem State.modPending_notices (s : State) (k : RecKey) (f : Nat → Nat) : (s.modPending k f).notices = s.notices := by
  unfold State.modPending; (try dsimp only); repeat' split
  all_goals first | rfl | simp
@[simp] theorem State.denyNoting_pending (s : State) (e : Entry) (q : Byte) (c : CardId) (n : Fin 2048) (g : Guest) (a : AnomalyCause) (r : Reason) : (s.denyNoting e q c n g a r).pending = s.pending := by
  unfold State.denyNoting; (try dsimp only); repeat' split
  all_goals first | rfl | simp
@[simp] theorem State.denyNoting_inReset (s : State) (e : Entry) (q : Byte) (c : CardId) (n : Fin 2048) (g : Guest) (a : AnomalyCause) (r : Reason) : (s.denyNoting e q c n g a r).inReset = s.inReset := by
  unfold State.denyNoting; (try dsimp only); repeat' split
  all_goals first | rfl | simp
@[simp] theorem State.denyNoting_straps (s : State) (e : Entry) (q : Byte) (c : CardId) (n : Fin 2048) (g : Guest) (a : AnomalyCause) (r : Reason) : (s.denyNoting e q c n g a r).straps = s.straps := by
  unfold State.denyNoting; (try dsimp only); repeat' split
  all_goals first | rfl | simp
@[simp] theorem State.denyNoting_startUp (s : State) (e : Entry) (q : Byte) (c : CardId) (n : Fin 2048) (g : Guest) (a : AnomalyCause) (r : Reason) : (s.denyNoting e q c n g a r).startUp = s.startUp := by
  unfold State.denyNoting; (try dsimp only); repeat' split
  all_goals first | rfl | simp
@[simp] theorem State.denyNoting_power (s : State) (e : Entry) (q : Byte) (c : CardId) (n : Fin 2048) (g : Guest) (a : AnomalyCause) (r : Reason) : (s.denyNoting e q c n g a r).power = s.power := by
  unfold State.denyNoting; (try dsimp only); repeat' split
  all_goals first | rfl | simp
@[simp] theorem State.denyNoting_mem (s : State) (e : Entry) (q : Byte) (c : CardId) (n : Fin 2048) (g : Guest) (a : AnomalyCause) (r : Reason) : (s.denyNoting e q c n g a r).mem = s.mem := by
  unfold State.denyNoting; (try dsimp only); repeat' split
  all_goals first | rfl | simp
@[simp] theorem State.denyNoting_clock (s : State) (e : Entry) (q : Byte) (c : CardId) (n : Fin 2048) (g : Guest) (a : AnomalyCause) (r : Reason) : (s.denyNoting e q c n g a r).clock = s.clock := by
  unfold State.denyNoting; (try dsimp only); repeat' split
  all_goals first | rfl | simp
@[simp] theorem State.denyNoting_settings (s : State) (e : Entry) (q : Byte) (c : CardId) (n : Fin 2048) (g : Guest) (a : AnomalyCause) (r : Reason) : (s.denyNoting e q c n g a r).settings = s.settings := by
  unfold State.denyNoting; (try dsimp only); repeat' split
  all_goals first | rfl | simp
@[simp] theorem State.denyNoting_plans (s : State) (e : Entry) (q : Byte) (c : CardId) (n : Fin 2048) (g : Guest) (a : AnomalyCause) (r : Reason) : (s.denyNoting e q c n g a r).plans = s.plans := by
  unfold State.denyNoting; (try dsimp only); repeat' split
  all_goals first | rfl | simp
@[simp] theorem State.denyNoting_profiles (s : State) (e : Entry) (q : Byte) (c : CardId) (n : Fin 2048) (g : Guest) (a : AnomalyCause) (r : Reason) : (s.denyNoting e q c n g a r).profiles = s.profiles := by
  unfold State.denyNoting; (try dsimp only); repeat' split
  all_goals first | rfl | simp
@[simp] theorem State.denyNoting_bindings (s : State) (e : Entry) (q : Byte) (c : CardId) (n : Fin 2048) (g : Guest) (a : AnomalyCause) (r : Reason) : (s.denyNoting e q c n g a r).bindings = s.bindings := by
  unfold State.denyNoting; (try dsimp only); repeat' split
  all_goals first | rfl | simp
@[simp] theorem State.denyNoting_index (s : State) (e : Entry) (q : Byte) (c : CardId) (n : Fin 2048) (g : Guest) (a : AnomalyCause) (r : Reason) : (s.denyNoting e q c n g a r).index = s.index := by
  unfold State.denyNoting; (try dsimp only); repeat' split
  all_goals first | rfl | simp
@[simp] theorem State.denyNoting_port (s : State) (e : Entry) (q : Byte) (c : CardId) (n : Fin 2048) (g : Guest) (a : AnomalyCause) (r : Reason) : (s.denyNoting e q c n g a r).port = s.port := by
  unfold State.denyNoting; (try dsimp only); repeat' split
  all_goals first | rfl | simp
@[simp] theorem State.denyNoting_journal (s : State) (e : Entry) (q : Byte) (c : CardId) (n : Fin 2048) (g : Guest) (a : AnomalyCause) (r : Reason) : (s.denyNoting e q c n g a r).journal = s.journal := by
  unfold State.denyNoting; (try dsimp only); repeat' split
  all_goals first | rfl | simp
@[simp] theorem State.denyNoting_landing (s : State) (e : Entry) (q : Byte) (c : CardId) (n : Fin 2048) (g : Guest) (a : AnomalyCause) (r : Reason) : (s.denyNoting e q c n g a r).landing = s.landing := by
  unfold State.denyNoting; (try dsimp only); repeat' split
  all_goals first | rfl | simp
@[simp] theorem State.denyNoting_muster (s : State) (e : Entry) (q : Byte) (c : CardId) (n : Fin 2048) (g : Guest) (a : AnomalyCause) (r : Reason) : (s.denyNoting e q c n g a r).muster = s.muster := by
  unfold State.denyNoting; (try dsimp only); repeat' split
  all_goals first | rfl | simp
@[simp] theorem State.denyNoting_router (s : State) (e : Entry) (q : Byte) (c : CardId) (n : Fin 2048) (g : Guest) (a : AnomalyCause) (r : Reason) : (s.denyNoting e q c n g a r).router = s.router := by
  unfold State.denyNoting; (try dsimp only); repeat' split
  all_goals first | rfl | simp
@[simp] theorem State.denyNoting_link (s : State) (e : Entry) (q : Byte) (c : CardId) (n : Fin 2048) (g : Guest) (a : AnomalyCause) (r : Reason) : (s.denyNoting e q c n g a r).link = s.link := by
  unfold State.denyNoting; (try dsimp only); repeat' split
  all_goals first | rfl | simp
@[simp] theorem State.deferUnindexed_pending (s : State) (e : Entry) (q : Byte) : (s.deferUnindexed e q).pending = s.pending := by
  unfold State.deferUnindexed; (try dsimp only); repeat' split
  all_goals first | rfl | simp
@[simp] theorem State.deferUnindexed_inReset (s : State) (e : Entry) (q : Byte) : (s.deferUnindexed e q).inReset = s.inReset := by
  unfold State.deferUnindexed; (try dsimp only); repeat' split
  all_goals first | rfl | simp
@[simp] theorem State.deferUnindexed_straps (s : State) (e : Entry) (q : Byte) : (s.deferUnindexed e q).straps = s.straps := by
  unfold State.deferUnindexed; (try dsimp only); repeat' split
  all_goals first | rfl | simp
@[simp] theorem State.deferUnindexed_startUp (s : State) (e : Entry) (q : Byte) : (s.deferUnindexed e q).startUp = s.startUp := by
  unfold State.deferUnindexed; (try dsimp only); repeat' split
  all_goals first | rfl | simp
@[simp] theorem State.deferUnindexed_power (s : State) (e : Entry) (q : Byte) : (s.deferUnindexed e q).power = s.power := by
  unfold State.deferUnindexed; (try dsimp only); repeat' split
  all_goals first | rfl | simp
@[simp] theorem State.deferUnindexed_pins (s : State) (e : Entry) (q : Byte) : (s.deferUnindexed e q).pins = s.pins := by
  unfold State.deferUnindexed; (try dsimp only); repeat' split
  all_goals first | rfl | simp
@[simp] theorem State.deferUnindexed_mem (s : State) (e : Entry) (q : Byte) : (s.deferUnindexed e q).mem = s.mem := by
  unfold State.deferUnindexed; (try dsimp only); repeat' split
  all_goals first | rfl | simp
@[simp] theorem State.deferUnindexed_clock (s : State) (e : Entry) (q : Byte) : (s.deferUnindexed e q).clock = s.clock := by
  unfold State.deferUnindexed; (try dsimp only); repeat' split
  all_goals first | rfl | simp
@[simp] theorem State.deferUnindexed_settings (s : State) (e : Entry) (q : Byte) : (s.deferUnindexed e q).settings = s.settings := by
  unfold State.deferUnindexed; (try dsimp only); repeat' split
  all_goals first | rfl | simp
@[simp] theorem State.deferUnindexed_plans (s : State) (e : Entry) (q : Byte) : (s.deferUnindexed e q).plans = s.plans := by
  unfold State.deferUnindexed; (try dsimp only); repeat' split
  all_goals first | rfl | simp
@[simp] theorem State.deferUnindexed_profiles (s : State) (e : Entry) (q : Byte) : (s.deferUnindexed e q).profiles = s.profiles := by
  unfold State.deferUnindexed; (try dsimp only); repeat' split
  all_goals first | rfl | simp
@[simp] theorem State.deferUnindexed_bindings (s : State) (e : Entry) (q : Byte) : (s.deferUnindexed e q).bindings = s.bindings := by
  unfold State.deferUnindexed; (try dsimp only); repeat' split
  all_goals first | rfl | simp
@[simp] theorem State.deferUnindexed_index (s : State) (e : Entry) (q : Byte) : (s.deferUnindexed e q).index = s.index := by
  unfold State.deferUnindexed; (try dsimp only); repeat' split
  all_goals first | rfl | simp
@[simp] theorem State.deferUnindexed_port (s : State) (e : Entry) (q : Byte) : (s.deferUnindexed e q).port = s.port := by
  unfold State.deferUnindexed; (try dsimp only); repeat' split
  all_goals first | rfl | simp
@[simp] theorem State.deferUnindexed_journal (s : State) (e : Entry) (q : Byte) : (s.deferUnindexed e q).journal = s.journal := by
  unfold State.deferUnindexed; (try dsimp only); repeat' split
  all_goals first | rfl | simp
@[simp] theorem State.deferUnindexed_landing (s : State) (e : Entry) (q : Byte) : (s.deferUnindexed e q).landing = s.landing := by
  unfold State.deferUnindexed; (try dsimp only); repeat' split
  all_goals first | rfl | simp
@[simp] theorem State.deferUnindexed_muster (s : State) (e : Entry) (q : Byte) : (s.deferUnindexed e q).muster = s.muster := by
  unfold State.deferUnindexed; (try dsimp only); repeat' split
  all_goals first | rfl | simp
@[simp] theorem State.deferUnindexed_router (s : State) (e : Entry) (q : Byte) : (s.deferUnindexed e q).router = s.router := by
  unfold State.deferUnindexed; (try dsimp only); repeat' split
  all_goals first | rfl | simp
@[simp] theorem State.deferUnindexed_link (s : State) (e : Entry) (q : Byte) : (s.deferUnindexed e q).link = s.link := by
  unfold State.deferUnindexed; (try dsimp only); repeat' split
  all_goals first | rfl | simp
@[simp] theorem State.deferUnindexed_notices (s : State) (e : Entry) (q : Byte) : (s.deferUnindexed e q).notices = s.notices := by
  unfold State.deferUnindexed; (try dsimp only); repeat' split
  all_goals first | rfl | simp
@[simp] theorem State.report_pending (s : State) (k : Bool) : (s.report k).pending = s.pending := by
  unfold State.report; (try dsimp only); repeat' split
  all_goals first | rfl | simp
@[simp] theorem State.report_inReset (s : State) (k : Bool) : (s.report k).inReset = s.inReset := by
  unfold State.report; (try dsimp only); repeat' split
  all_goals first | rfl | simp
@[simp] theorem State.report_straps (s : State) (k : Bool) : (s.report k).straps = s.straps := by
  unfold State.report; (try dsimp only); repeat' split
  all_goals first | rfl | simp
@[simp] theorem State.report_startUp (s : State) (k : Bool) : (s.report k).startUp = s.startUp := by
  unfold State.report; (try dsimp only); repeat' split
  all_goals first | rfl | simp
@[simp] theorem State.report_power (s : State) (k : Bool) : (s.report k).power = s.power := by
  unfold State.report; (try dsimp only); repeat' split
  all_goals first | rfl | simp
@[simp] theorem State.report_mem (s : State) (k : Bool) : (s.report k).mem = s.mem := by
  unfold State.report; (try dsimp only); repeat' split
  all_goals first | rfl | simp
@[simp] theorem State.report_clock (s : State) (k : Bool) : (s.report k).clock = s.clock := by
  unfold State.report; (try dsimp only); repeat' split
  all_goals first | rfl | simp
@[simp] theorem State.report_settings (s : State) (k : Bool) : (s.report k).settings = s.settings := by
  unfold State.report; (try dsimp only); repeat' split
  all_goals first | rfl | simp
@[simp] theorem State.report_plans (s : State) (k : Bool) : (s.report k).plans = s.plans := by
  unfold State.report; (try dsimp only); repeat' split
  all_goals first | rfl | simp
@[simp] theorem State.report_profiles (s : State) (k : Bool) : (s.report k).profiles = s.profiles := by
  unfold State.report; (try dsimp only); repeat' split
  all_goals first | rfl | simp
@[simp] theorem State.report_bindings (s : State) (k : Bool) : (s.report k).bindings = s.bindings := by
  unfold State.report; (try dsimp only); repeat' split
  all_goals first | rfl | simp
@[simp] theorem State.report_index (s : State) (k : Bool) : (s.report k).index = s.index := by
  unfold State.report; (try dsimp only); repeat' split
  all_goals first | rfl | simp
@[simp] theorem State.report_cache (s : State) (k : Bool) : (s.report k).cache = s.cache := by
  unfold State.report; (try dsimp only); repeat' split
  all_goals first | rfl | simp
@[simp] theorem State.report_port (s : State) (k : Bool) : (s.report k).port = s.port := by
  unfold State.report; (try dsimp only); repeat' split
  all_goals first | rfl | simp
@[simp] theorem State.report_entries (s : State) (k : Bool) : (s.report k).entries = s.entries := by
  unfold State.report; (try dsimp only); repeat' split
  all_goals first | rfl | simp
@[simp] theorem State.report_journal (s : State) (k : Bool) : (s.report k).journal = s.journal := by
  unfold State.report; (try dsimp only); repeat' split
  all_goals first | rfl | simp
@[simp] theorem State.report_landing (s : State) (k : Bool) : (s.report k).landing = s.landing := by
  unfold State.report; (try dsimp only); repeat' split
  all_goals first | rfl | simp
@[simp] theorem State.report_muster (s : State) (k : Bool) : (s.report k).muster = s.muster := by
  unfold State.report; (try dsimp only); repeat' split
  all_goals first | rfl | simp
@[simp] theorem State.report_link (s : State) (k : Bool) : (s.report k).link = s.link := by
  unfold State.report; (try dsimp only); repeat' split
  all_goals first | rfl | simp

end Sys2Proof.Machine
end

