-- ==== Sys2Proof/Laws/Frames.lean ====
section
/-! SUPPORT. What reading a field gives back of the bytes that form it: one lemma for each reader of Machine/Frames.lean. -/
namespace Sys2Proof.Machine

@[simp] theorem be_length (n v : Nat) : (be n v).length = n := by
  induction n with
  | zero => rfl
  | succ n ih => simp [be, ih]

/-- Bytes read after a number that stands before them. -/
theorem ofBe_fold (bs : List Byte) (a : Nat) :
    bs.foldl (fun a b => a * 256 + b.toNat) a = a * 256 ^ bs.length + ofBe bs := by
  induction bs generalizing a with
  | nil => simp [ofBe]
  | cons b bs ih =>
    have e : ofBe (b :: bs) = (0 * 256 + b.toNat) * 256 ^ bs.length + ofBe bs := ih _
    rw [List.foldl_cons, ih, e, List.length_cons, Nat.pow_succ]
    ring

theorem ofBe_be (n v : Nat) (h : v < 256 ^ n) : ofBe (be n v) = v := by
  induction n generalizing v with
  | zero => simp at h; subst h; rfl
  | succ n ih =>
    have step : ∀ w : Nat, be n w = be n (w % 256 ^ n) := by
      intro w
      clear ih h
      have all : ∀ k, k ≤ n → be k w = be k (w % 256 ^ n) := by
        intro k
        induction k with
        | zero => intro _; rfl
        | succ k ih =>
          intro le
          rw [be, be, ih (by omega)]
          congr 1
          apply BitVec.eq_of_toNat_eq
          rw [BitVec.toNat_ofNat, BitVec.toNat_ofNat, show (2 : Nat) ^ 8 = 256 from rfl]
          obtain ⟨d, rfl⟩ : ∃ d, n = k + 1 + d := ⟨n - (k + 1), by omega⟩
          rw [show 256 ^ (k + 1 + d) = 256 ^ k * (256 * 256 ^ d) by rw [Nat.pow_add, Nat.pow_succ]; ring, Nat.mod_mul_right_div_self,
            Nat.mod_mul_right_mod]
      exact all n (Nat.le_refl n)
    have top : (BitVec.ofNat 8 (v / 256 ^ n)).toNat = v / 256 ^ n := by
      rw [BitVec.toNat_ofNat, Nat.mod_eq_of_lt]
      rw [Nat.pow_succ] at h
      exact Nat.div_lt_of_lt_mul h
    have low := ih (v % 256 ^ n) (Nat.mod_lt _ (Nat.pow_pos (by decide)))
    rw [be, ofBe, List.foldl_cons, ofBe_fold, be_length, top, step v, low, Nat.zero_mul, Nat.zero_add, Nat.mul_comm]
    exact Nat.div_add_mod v (256 ^ n)

/-- A number is read back from its bytes. -/
theorem readNum_be (n v : Nat) (rest : List Byte) (h : v < 256 ^ n) : readNum n (be n v ++ rest) = some (v, rest) := by
  simp [readNum, ofBe_be n v h]

/-- A signed number is read back from its bytes. -/
theorem readSigned_be (n : Nat) (v : Int) (rest : List Byte) (h : fitsSigned n v = true) :
    readSigned n (be n (signed n v) ++ rest) = some (v, rest) := by
  have p : (0 : Int) < (256 ^ n : Nat) := by exact_mod_cast Nat.pow_pos (by decide)
  have lt : signed n v < 256 ^ n := by
    have := Int.emod_lt_of_pos v p
    have := Int.emod_nonneg v (Int.ne_of_gt p)
    unfold signed; omega
  have back : ofSigned n (signed n v) = v := by
    simp only [fitsSigned, decide_eq_true_eq] at h
    have e : ((256 : Int) ^ n) = ((256 ^ n : Nat) : Int) := by norm_cast
    rw [e] at h
    by_cases s : 0 ≤ v
    · have : signed n v = v.toNat := by unfold signed; rw [Int.emod_eq_of_lt s (by omega)]
      unfold ofSigned; rw [this]; split <;> omega
    · have : (signed n v : Int) = v + (256 ^ n : Nat) := by
        unfold signed
        rw [Int.toNat_of_nonneg (Int.emod_nonneg v (Int.ne_of_gt p)), ← Int.add_emod_right, Int.emod_eq_of_lt (by omega) (by omega)]
      unfold ofSigned; split <;> omega
  have := readNum_be n (signed n v) rest lt
  simp only [readSigned, Functor.map, StateT.map, this, back, bind, Option.bind, pure]

/-- A field behind its presence byte is read back, absent or present. -/
theorem readOpt_bytes {α : Type} (field : Reading α) (form : α → List Byte) (zero : List Byte) (z : α) (o : Option α)
    (rest : List Byte) (read : ∀ v, o = some v → field (form v ++ rest) = some (v, rest))
    (blank : field (zero ++ rest) = some (z, rest)) :
    readOpt field ((match o with | none => 0 :: zero | some v => 1 :: form v) ++ rest) = some (o, rest) := by
  have byte : ∀ (b : Byte) (bs : List Byte), readNum 1 (b :: bs) = some (b.toNat, bs) := by
    intro b bs; simp [readNum, ofBe]
  cases o with
  | none => simp [readOpt, bind, StateT.bind, byte, blank, pure, StateT.pure]
  | some v => simp [readOpt, bind, StateT.bind, byte, read v rfl, pure, StateT.pure]

/-- A list behind its count byte is read back. -/
theorem readList_listBytes {α : Type} (field : Reading α) (form : α → List Byte) (l : List α) (rest : List Byte)
    (short : l.length < 256) (read : ∀ x ∈ l, ∀ bs, field (form x ++ bs) = some (x, bs)) :
    readList field (listBytes form l ++ rest) = some (l, rest) := by
  have times : ∀ m : List α, (∀ x ∈ m, x ∈ l) → readTimes field m.length ((m.map form).flatten ++ rest) = some (m, rest) := by
    intro m
    induction m with
    | nil => intro _; rfl
    | cons x m ih =>
      intro sub
      have hx := read x (sub x (by simp)) ((m.map form).flatten ++ rest)
      have hm := ih fun y hy => sub y (by simp [hy])
      simp [readTimes, bind, StateT.bind, hx, hm, pure, StateT.pure]
  have count := readNum_be 1 l.length ((l.map form).flatten ++ rest) (by simpa using short)
  simp [readList, listBytes, bind, StateT.bind, List.append_assoc, count, times l fun _ h => h]

end Sys2Proof.Machine
end

