-- ==== Sys2Proof/Laws/Memory.lean ====
section
/-! SUPPORT. The record memory: its canonical form is kept, a byte written is read back, every other byte stays. -/
namespace Sys2Proof.Machine
set_option Elab.async false

/-- The canonical form, entry by entry. -/
theorem Memory.wf_cons (k : Nat) (w : Byte) (t : Memory) :
    Memory.wf ((k, w) :: t) = true ↔ w ≠ Config.blankByte ∧ (∀ p ∈ t, k < p.1) ∧ Memory.wf t = true := by
  induction t generalizing k w with
  | nil => simp [Memory.wf]
  | cons p t ih =>
    obtain ⟨b, x⟩ := p
    simp only [Memory.wf, Bool.and_eq_true, decide_eq_true_eq, List.forall_mem_cons]
    constructor
    · rintro ⟨⟨h1, h2⟩, h3⟩
      exact ⟨h1, ⟨h2, fun p hp => Nat.lt_trans h2 (((ih b x).mp h3).2.1 p hp)⟩, h3⟩
    · rintro ⟨h1, ⟨h2, -⟩, h3⟩
      exact ⟨⟨h1, h2⟩, h3⟩

/-- An address below every listed one reads as the blank byte. -/
theorem Memory.read_below (t : Memory) (a : Nat) (h : ∀ p ∈ t, a < p.1) : Memory.read t a = Config.blankByte := by
  induction t with
  | nil => rfl
  | cons p t ih =>
    obtain ⟨b, x⟩ := p
    have hb : a < b := h (b, x) (by simp)
    have hne : b ≠ a := by omega
    simp [Memory.read, hne, ih fun p hp => h p (by simp [hp])]

/-- A write lists no address below both the old ones and its own. -/
theorem Memory.write_above (t : Memory) (a : Nat) (v : Byte) (k : Nat) (h : ∀ p ∈ t, k < p.1) (hk : k < a) :
    ∀ p ∈ Memory.write t a v, k < p.1 := by
  induction t with
  | nil => unfold Memory.write; split <;> simp [hk]
  | cons p t ih =>
    obtain ⟨b, x⟩ := p
    have hb : k < b := h (b, x) (by simp)
    have ht : ∀ p ∈ t, k < p.1 := fun p hp => h p (by simp [hp])
    unfold Memory.write
    repeat' split
    all_goals first
      | exact ht
      | (simp only [List.forall_mem_cons]
         first
           | exact ⟨hk, hb, ht⟩
           | exact ⟨hb, ht⟩
           | exact ⟨hk, ht⟩
           | exact ⟨hb, ih ht⟩)

/-- A write keeps the canonical form. -/
theorem Memory.wf_write (t : Memory) (a : Nat) (v : Byte) (h : Memory.wf t = true) : Memory.wf (Memory.write t a v) = true := by
  induction t with
  | nil =>
    unfold Memory.write; split
    · rfl
    · rw [Memory.wf_cons]; exact ⟨‹_›, by simp, rfl⟩
  | cons p t ih =>
    obtain ⟨b, x⟩ := p
    have hc := (Memory.wf_cons b x t).mp h
    unfold Memory.write
    repeat' split
    · exact h
    · rw [Memory.wf_cons]
      refine ⟨‹_›, ?_, h⟩
      intro p hp
      rcases List.mem_cons.mp hp with rfl | hp
      · assumption
      · have := hc.2.1 p hp; omega
    · exact hc.2.2
    · rw [Memory.wf_cons]
      refine ⟨‹_›, ?_, hc.2.2⟩
      intro p hp
      have := hc.2.1 p hp; omega
    · rw [Memory.wf_cons]
      exact ⟨hc.1, Memory.write_above t a v b hc.2.1 (by omega), ih hc.2.2⟩

/-- What reading after a write gives. -/
theorem Memory.read_write (t : Memory) (a b : Nat) (v : Byte) (h : Memory.wf t = true) :
    Memory.read (Memory.write t a v) b = if b = a then v else Memory.read t b := by
  induction t with
  | nil =>
    unfold Memory.write
    split
    · split <;> simp_all [Memory.read]
    · simp only [Memory.read, eq_comm]
  | cons p t ih =>
    obtain ⟨k, w⟩ := p
    have hc := (Memory.wf_cons k w t).mp h
    unfold Memory.write
    by_cases h1 : a < k
    · simp only [h1, ↓reduceIte]
      split
      · by_cases hb : b = a
        · subst hb
          have hr := Memory.read_below ((k, w) :: t) b (by
            intro p hp
            rcases List.mem_cons.mp hp with rfl | hp
            · exact h1
            · have := hc.2.1 p hp; omega)
          simp_all
        · simp [hb]
      · by_cases hb : b = a
        · simp [Memory.read, hb]
        · have : a ≠ b := fun e => hb e.symm
          simp [Memory.read, hb, this]
    · by_cases h2 : a = k
      · subst h2
        simp only [Nat.lt_irrefl, ↓reduceIte]
        split
        · by_cases hb : b = a
          · subst hb
            rw [Memory.read_below t b hc.2.1]; simp_all
          · have : a ≠ b := fun e => hb e.symm
            simp [Memory.read, hb, this]
        · by_cases hb : b = a
          · simp [Memory.read, hb]
          · have : a ≠ b := fun e => hb e.symm
            simp [Memory.read, hb, this]
      · simp only [h1, h2, ↓reduceIte, Memory.read, ih hc.2.2]
        split
        · have : b ≠ a := by omega
          simp [this]
        · rfl

/-- Writing a block keeps the canonical form. -/
theorem Memory.wf_writeBlock (bs : List Byte) (m : Memory) (a : Nat) (h : Memory.wf m = true) :
    Memory.wf (Memory.writeBlock m a bs) = true := by
  induction bs generalizing m a with
  | nil => exact h
  | cons b bs ih => exact ih (m.write a b) (a + 1) (Memory.wf_write m a b h)

/-- What reading after a block write gives. -/
theorem Memory.read_writeBlock (bs : List Byte) (m : Memory) (a b : Nat) (h : Memory.wf m = true) :
    Memory.read (Memory.writeBlock m a bs) b
      = if h : a ≤ b ∧ b < a + bs.length then bs[b - a]'(by omega) else Memory.read m b := by
  induction bs generalizing m a with
  | nil =>
    simp [Memory.writeBlock]
  | cons x bs ih =>
    unfold Memory.writeBlock
    rw [ih (m.write a x) (a + 1) (Memory.wf_write m a x h)]
    by_cases h1 : a + 1 ≤ b ∧ b < a + 1 + bs.length
    · have h2 : a ≤ b ∧ b < a + (x :: bs).length := by simp; omega
      obtain ⟨d, hd⟩ : ∃ d, b - a = d + 1 := ⟨b - a - 1, by omega⟩
      have hd' : b - (a + 1) = d := by omega
      rw [dif_pos h1, dif_pos h2]; simp [hd, hd']
    · rw [dif_neg h1, Memory.read_write m a b x h]
      by_cases hb : b = a
      · subst hb; simp
      · have h2 : ¬(a ≤ b ∧ b < a + (x :: bs).length) := by simp; omega
        rw [dif_neg h2]; simp [hb]

/-- A block written is the block read back. -/
theorem Memory.readBlock_writeBlock (bs : List Byte) (m : Memory) (a : Nat) (h : Memory.wf m = true) :
    Memory.readBlock (Memory.writeBlock m a bs) a bs.length = bs := by
  apply List.ext_getElem
  · simp [Memory.readBlock]
  · intro i h1 h2
    have : a ≤ a + i ∧ a + i < a + bs.length := by omega
    simp [Memory.readBlock, Memory.read_writeBlock bs m a (a + i) h, this]

/-- Bytes outside a written block stay. -/
theorem Memory.read_writeBlock_of_outside (bs : List Byte) (m : Memory) (a b : Nat) (h : Memory.wf m = true)
    (ho : b < a ∨ a + bs.length ≤ b) : Memory.read (Memory.writeBlock m a bs) b = Memory.read m b := by
  rw [Memory.read_writeBlock bs m a b h, dif_neg (by omega)]

/-- Everything a checked write does (R24, R39): the form is kept, bytes outside the block stay; a good one leaves the block
as written, and a failed one leaves the memory as it was. -/
theorem Memory.writeChecked_spec (m : Memory) (a : Nat) (data : List Byte) (r : WriteResult) (h : Memory.wf m = true) :
    Memory.wf (m.writeChecked a data r).1 = true
    ∧ (∀ b, b < a ∨ a + data.length ≤ b → (m.writeChecked a data r).1.read b = m.read b)
    ∧ ((m.writeChecked a data r).2 = true → (m.writeChecked a data r).1.readBlock a data.length = data)
    ∧ ((m.writeChecked a data r).2 = false → (m.writeChecked a data r).1 = m)
    ∧ ((m.writeChecked a data r).2 = true ↔ r = .good) := by
  cases r with
  | good =>
    exact ⟨Memory.wf_writeBlock _ _ _ h, fun b hb => Memory.read_writeBlock_of_outside _ m a b h hb,
      fun _ => Memory.readBlock_writeBlock data m a h, by simp [Memory.writeChecked], by simp [Memory.writeChecked]⟩
  | differs => exact ⟨h, fun _ _ => rfl, by simp [Memory.writeChecked], fun _ => rfl, by simp [Memory.writeChecked]⟩

/-- Equal reads and canonical form make equal memories. -/
theorem Memory.ext_read {m m' : Memory} (h : Memory.wf m = true) (h' : Memory.wf m' = true)
    (hr : ∀ a, Memory.read m a = Memory.read m' a) : m = m' := by
  induction m generalizing m' with
  | nil =>
    cases m' with
    | nil => rfl
    | cons p t =>
      obtain ⟨k, w⟩ := p
      have hc := (Memory.wf_cons k w t).mp h'
      have := hr k
      simp [Memory.read] at this
      exact absurd this.symm hc.1
  | cons p t ih =>
    obtain ⟨k, w⟩ := p
    have hc := (Memory.wf_cons k w t).mp h
    cases m' with
    | nil =>
      have := hr k
      simp [Memory.read] at this
      exact absurd this hc.1
    | cons q u =>
      obtain ⟨j, x⟩ := q
      have hd := (Memory.wf_cons j x u).mp h'
      have hkj : k = j := by
        rcases Nat.lt_trichotomy k j with hlt | heq | hgt
        · have := hr k
          rw [Memory.read_below ((j, x) :: u) k (by
            intro p hp
            rcases List.mem_cons.mp hp with rfl | hp
            · exact hlt
            · have := hd.2.1 p hp; omega)] at this
          simp [Memory.read] at this
          exact absurd this hc.1
        · exact heq
        · have := hr j
          rw [Memory.read_below ((k, w) :: t) j (by
            intro p hp
            rcases List.mem_cons.mp hp with rfl | hp
            · exact hgt
            · have := hc.2.1 p hp; omega)] at this
          simp [Memory.read] at this
          exact absurd this.symm hd.1
      subst hkj
      have hw : w = x := by simpa [Memory.read] using hr k
      subst hw
      have : t = u := by
        apply ih hc.2.2 hd.2.2
        intro a
        by_cases ha : k = a
        · subst ha; rw [Memory.read_below t k hc.2.1, Memory.read_below u k hd.2.1]
        · simpa [Memory.read, ha] using hr a
      rw [this]

end Sys2Proof.Machine
end

