-- ==== Sys2Proof/Laws/MemoryFrame.lean ====
section
/-! SUPPORT. No shared operation of the units touches the waiting commands, the reset line, the straps or the record
memory: the memory jobs' ends and resets are where they change. -/

set_option linter.unusedTactic false
set_option linter.unreachableTactic false

namespace Sys2Proof.Machine
set_option Elab.async false

/-- What no unit's operation touches: the waiting commands, the reset line, the straps, the record memory. -/
def State.base (s : State) : List Instr × Bool × Straps × Memory := (s.pending, s.inReset, s.straps, s.mem)

theorem State.mem_of_base {s t : State} (h : t.base = s.base) : t.mem = s.mem := congrArg (·.2.2.2) h
theorem State.straps_of_base {s t : State} (h : t.base = s.base) : t.straps = s.straps := congrArg (·.2.2.1) h
theorem State.inReset_of_base {s t : State} (h : t.base = s.base) : t.inReset = s.inReset := congrArg (·.2.1) h
theorem State.pending_of_base {s t : State} (h : t.base = s.base) : t.pending = s.pending := congrArg (·.1) h

/-- A fold keeps what each of its steps keeps. -/
theorem foldl_base {α : Type} (f : State → α → State) (h : ∀ s a, (f s a).base = s.base) (l : List α) (s : State) :
    (l.foldl f s).base = s.base := by
  induction l generalizing s with
  | nil => rfl
  | cons a l ih => simp [ih, h]

@[simp] theorem State.notify_base (s : State) (b : NoticeBody) : (s.notify b).base = s.base := rfl
@[simp] theorem State.setSlot_base (s : State) (i : Fin 128) (x : Slot) : (s.setSlot i x).base = s.base := rfl
@[simp] theorem State.setQueue_base (s : State) (q : List Job) : (s.setQueue q).base = s.base := rfl
@[simp] theorem State.setWaiting_base (s : State) (w : List PlaceWaiter) : (s.setWaiting w).base = s.base := rfl
@[simp] theorem State.setWork_base (s : State) (w : Work) : (s.setWork w).base = s.base := rfl
@[simp] theorem State.touch_base (s : State) (i : Fin 128) : (s.touch i).base = s.base := rfl
@[simp] theorem State.missStuck_base (s : State) : s.missStuck.base = s.base := rfl
@[simp] theorem State.missStarted_base (s : State) : s.missStarted.base = s.base := rfl
@[simp] theorem State.endCondition_base (s : State) (x : FaultSource) : (s.endCondition x).base = s.base := rfl
@[simp] theorem State.refreshFault_base (s : State) : s.refreshFault.base = s.base := rfl
@[simp] theorem State.askIsolation_base (s : State) (n : Fin 4) (c : IsolateCause) : (s.askIsolation n c).base = s.base := rfl
@[simp] theorem State.modEntry_base (s : State) (l : Fin 4) (d : Nat) (f : Entry → Entry) : (s.modEntry l d f).base = s.base := rfl
@[simp] theorem State.modLine_base (s : State) (n : Fin 4) (f : Line → Line) : (s.modLine n f).base = s.base := rfl
@[simp] theorem State.rebind_base (s : State) (r : ReaderSerial) : (s.rebind r).base = s.base := rfl
@[simp] theorem State.indexCard_base (s : State) (c : CardId) (n : Fin 2048) (k : Fin 2) : (s.indexCard c n k).base = s.base := rfl
@[simp] theorem State.unindexCard_base (s : State) (c : CardId) (n : Fin 2048) (k : Fin 2) : (s.unindexCard c n k).base = s.base := rfl
@[simp] theorem State.setSite_base (s : State) (t : Fin 4) (x : Site) : (s.setSite t x).base = s.base := rfl
@[simp] theorem State.markCommits_base (s : State) (n : Fin 4) (d : Nat) (r : CommitReader) : (s.markCommits n d r).base = s.base := rfl
@[simp] theorem State.censusSkip_base (s : State) (n : Fin 2048) : (s.censusSkip n).base = s.base := rfl
@[simp] theorem State.goAboard_base (s : State) (x : AboardEntry) : (s.goAboard x).base = s.base := rfl
@[simp] theorem State.leaveAboard_base (s : State) (x : AboardEntry) : (s.leaveAboard x).base = s.base := rfl
@[simp] theorem State.restation_base (s : State) (n : Fin 2048) (x : Fin 8) : (s.restation n x).base = s.base := rfl
@[simp] theorem State.goAshore_base (s : State) (e : RosterEntry) : (s.goAshore e).base = s.base := rfl
@[simp] theorem State.leaveRoster_base (s : State) (e : RosterEntry) : (s.leaveRoster e).base = s.base := rfl
@[simp] theorem State.recastRoster_base (s : State) (e : RosterEntry) (c : Category) : (s.recastRoster e c).base = s.base := rfl
@[simp] theorem State.clearMustered_base (s : State) : s.clearMustered.base = s.base := rfl
@[simp] theorem State.askOp_base (s : State) (n : Fin 4) (o : LineOp) : (s.askOp n o).base = s.base := rfl
@[simp] theorem State.passCursor_base (s : State) (n : Fin 2048) : (s.passCursor n).base = s.base := rfl
@[simp] theorem State.replyBusy_base (s : State) (t : Tag) (k : Byte) : (s.replyBusy t k).base = s.base := rfl
@[simp] theorem State.frameArrived_base (s : State) : s.frameArrived.base = s.base := rfl
@[simp] theorem State.prune_base (s : State) (l : Fin 4) (d : Nat) (k : List RecKey) : (s.prune l d k).base = s.base := rfl
@[simp] theorem State.placeHold_base (s : State) (l : Fin 4) (d : Nat) (k : RecKey) (i : Fin 128) : (s.placeHold l d k i).base = s.base := rfl
@[simp] theorem State.refreshPolls_base (s : State) (n : Fin 4) : (s.refreshPolls n).base = s.base := rfl
@[simp] theorem State.countDelivery_base (s : State) (n : Fin 4) (d : Nat) : (s.countDelivery n d).base = s.base := rfl
@[simp] theorem State.closeTurn_base (s : State) (n : Fin 4) (d : Nat) : (s.closeTurn n d).base = s.base := rfl
@[simp] theorem State.beginRoundTurn_base (s : State) (n : Fin 4) (g d : Nat) (f : DeckFrame) : (s.beginRoundTurn n g d f).base = s.base := rfl
@[simp] theorem State.beginPriorityTurn_base (s : State) (n : Fin 4) (g : Nat) (r : List Nat) (f : DeckFrame) : (s.beginPriorityTurn n g r f).base = s.base := rfl
@[simp] theorem State.tickCounts_base (s : State) : s.tickCounts.base = s.base := rfl
@[simp] theorem State.lostSeen_base (s : State) (e : Entry) (c : CardId) (n : Fin 2048) : (s.lostSeen e c n).base = s.base := rfl
@[simp] theorem State.anomaly_base (s : State) (e : Entry) (a : AnomalyCause) (c : CardId) (n : Fin 2048) (g : Guest) (k : Bool) : (s.anomaly e a c n g k).base = s.base := rfl
@[simp] theorem State.enterStandalone_base (s : State) (c : StandaloneCause) : (s.enterStandalone c).base = s.base := by simp [State.base]
@[simp] theorem State.actOn_base (s : State) (b : Begun) : (s.actOn b).base = s.base := by simp [State.base]
@[simp] theorem State.beginCondition_base (s : State) (x : FaultSource) : (s.beginCondition x).base = s.base := by simp [State.base]
@[simp] theorem State.setCondition_base (s : State) (x : FaultSource) (p : Bool) : (s.setCondition x p).base = s.base := by simp [State.base]
@[simp] theorem State.reviewRouter_base (s : State) (m : Bool) : (s.reviewRouter m).base = s.base := by simp [State.base]
@[simp] theorem State.escalate_base (s : State) : s.escalate.base = s.base := by simp [State.base]
@[simp] theorem State.finish_base (s : State) (r : Result) (b : ReplyBody) : (s.finish r b).base = s.base := by simp [State.base]
@[simp] theorem State.awaitPlace_base (s : State) (w : PlaceWaiter) : (s.awaitPlace w).base = s.base := by simp [State.base]
@[simp] theorem State.takenSlot_base (s : State) (j : Job) : (s.takenSlot j).base = s.base := by simp [State.base]
@[simp] theorem State.startJob_base (s : State) (j : Job) : (s.startJob j).base = s.base := by simp [State.base]
@[simp] theorem State.pump_base (s : State) : s.pump.base = s.base := by simp [State.base]
@[simp] theorem State.enqueue_base (s : State) (j : Job) : (s.enqueue j).base = s.base := by simp [State.base]
@[simp] theorem State.queueWriteBack_base (s : State) (i : Fin 128) : (s.queueWriteBack i).base = s.base := by simp [State.base]
@[simp] theorem State.unitWrite_base (s : State) (b : ConfBlock) : (s.unitWrite b).base = s.base := by simp [State.base]
@[simp] theorem State.markClock_base (s : State) : s.markClock.base = s.base := by simp [State.base]
@[simp] theorem State.evaluateDay_base (s : State) : s.evaluateDay.base = s.base := by simp [State.base]
@[simp] theorem State.claimFill_base (s : State) (i : Fin 128) (k : RecKey) (w : List Waiter) : (s.claimFill i k w).base = s.base := by simp [State.base]
@[simp] theorem State.claimPair_base (s : State) (i : Fin 128) (k : RecKey) (w : List Waiter) : (s.claimPair i k w).base = s.base := by simp [State.base]
@[simp] theorem State.change_base (s : State) (i : Fin 128) (r : Rec) : (s.change i r).base = s.base := by simp [State.base]
@[simp] theorem State.urgentWrite_base (s : State) (i : Fin 128) : (s.urgentWrite i).base = s.base := by simp [State.base]
@[simp] theorem State.flushReview_base (s : State) : s.flushReview.base = s.base := by simp [State.base]
@[simp] theorem State.flushCompleted_base (s : State) (i : Fin 128) (k : Bool) : (s.flushCompleted i k).base = s.base := by simp [State.base]
@[simp] theorem State.makeOutgoing_base (s : State) (l : Fin 4) (d : Nat) (q : Byte) (v : Verdict) : (s.makeOutgoing l d q v).base = s.base := by simp [State.base]
@[simp] theorem State.reportUndelivered_base (s : State) (e : Entry) (o : Outgoing) (c : UndeliveredCause) : (s.reportUndelivered e o c).base = s.base := by simp [State.base]
@[simp] theorem State.dropOutgoing_base (s : State) (e : Entry) (c : UndeliveredCause) : (s.dropOutgoing e c).base = s.base := by simp [State.base]
@[simp] theorem State.giveFinal_base (s : State) (l : Fin 4) (d : Nat) (q : Byte) (v : Verdict) : (s.giveFinal l d q v).base = s.base := by simp [State.base]
@[simp] theorem State.defer_base (s : State) (l : Fin 4) (d : Nat) (q : Byte) : (s.defer l d q).base = s.base := by simp [State.base]
@[simp] theorem State.decideLock_base (s : State) (l : Fin 4) (d : Nat) (q : Byte) (c : CardId) (r : Option (Fin 2048)) (v : Verdict) : (s.decideLock l d q c r v).base = s.base := by simp [State.base]
@[simp] theorem State.deny_base (s : State) (e : Entry) (q : Byte) (c : CardId) (r : Option (Fin 2048)) (z : Reason) : (s.deny e q c r z).base = s.base := by simp [State.base]
@[simp] theorem State.failWaiter_base (s : State) (w : Waiter) : (s.failWaiter w).base = s.base := by simp [State.base]
@[simp] theorem State.countOut_base (s : State) (n : Fin 2048) (m : Bool) : (s.countOut n m).base = s.base := by simp [State.base]
@[simp] theorem State.countIn_base (s : State) (n : Fin 2048) (g : Guest) (m : Bool) : (s.countIn n g m).base = s.base := by simp [State.base]
@[simp] theorem State.recount_base (s : State) (n : Fin 2048) (g : Guest) : (s.recount n g).base = s.base := by simp [State.base]
@[simp] theorem State.musterIn_base (s : State) (n : Fin 2048) : (s.musterIn n).base = s.base := by simp [State.base]
@[simp] theorem State.presenceChange_base (s : State) (i : Fin 128) (n : Fin 2048) (g : Guest) (p : Presence) (t : Option (Fin 4)) : (s.presenceChange i n g p t).base = s.base := by simp [State.base]
@[simp] theorem State.clearLeft_base (s : State) (n : Fin 2048) (g : Guest) : (s.clearLeft n g).base = s.base := by simp [State.base]
@[simp] theorem State.overdue_base (s : State) (t : Fin 4) (d : Nat) : (s.overdue t d).base = s.base := by simp [State.base]
@[simp] theorem State.censusCard_base (s : State) (n : Fin 2048) (k : Fin 2) (c : Option Card) : (s.censusCard n k c).base = s.base := by simp [State.base]
@[simp] theorem State.censusCount_base (s : State) (n : Fin 2048) (g : Guest) : (s.censusCount n g).base = s.base := by simp [State.base]
@[simp] theorem State.startUpReview_base (s : State) : s.startUpReview.base = s.base := by simp [State.base]
@[simp] theorem State.journalReview_base (s : State) : s.journalReview.base = s.base := by simp [State.base]
@[simp] theorem State.modPending_base (s : State) (k : RecKey) (f : Nat → Nat) : (s.modPending k f).base = s.base := by simp [State.base]
@[simp] theorem State.denyNoting_base (s : State) (e : Entry) (q : Byte) (c : CardId) (n : Fin 2048) (g : Guest) (a : AnomalyCause) (r : Reason) : (s.denyNoting e q c n g a r).base = s.base := by simp [State.base]
@[simp] theorem State.deferUnindexed_base (s : State) (e : Entry) (q : Byte) : (s.deferUnindexed e q).base = s.base := by simp [State.base]
@[simp] theorem State.report_base (s : State) (k : Bool) : (s.report k).base = s.base := by simp [State.base]
@[simp] theorem State.sweepFlush_base (s : State) : s.sweepFlush.base = s.base := by simp [State.base]
@[simp] theorem State.sweepEmergency_base (s : State) : s.sweepEmergency.base = s.base := by simp [State.base]
@[simp] theorem State.beginCensus_base (s : State) (c : CensusCause) : (s.beginCensus c).base = s.base := by simp [State.base]
@[simp] theorem State.censusReads_base (k : Nat) (s : State) : (State.censusReads k s).base = s.base := by simp [State.base]
@[simp] theorem State.queueCommits_base (k : Nat) (s : State) : (State.queueCommits k s).base = s.base := by simp [State.base]
@[simp] theorem State.queueReads_base (k : Nat) (s : State) : (State.queueReads k s).base = s.base := by simp [State.base]
@[simp] theorem State.queueFormat_base (k : Nat) (s : State) : (State.queueFormat k s).base = s.base := by simp [State.base]
@[simp] theorem State.sweepFrom_base (wants : State → Fin 128 → Bool) (w : PlaceWaiter) (is : List (Fin 128)) (s : State) :
    (State.sweepFrom wants w is s).base = s.base := by simp [State.base]
theorem State.claim_base {s t : State} {k : RecKey} {ws : List Waiter} (h : s.claim k ws = some t) : t.base = s.base := by
  unfold State.claim at h; repeat' split at h
  all_goals first | (cases h; simp) | cases h
@[simp] theorem State.ask_base (s : State) (k : RecKey) (w : Waiter) : (s.ask k w).1.base = s.base := by
  unfold State.ask; repeat' split
  all_goals first
    | (simp; done)
    | (rename_i h _ _; exact State.claim_base h)
    | (rename_i h _ _ _; exact State.claim_base h)
    | (rename_i h _; exact State.claim_base h)

/-! ## The deciding blocks -/

@[simp] theorem State.gatherFolio_base (s : State) (e : Entry) (w : Waiter) (k : RecKey) (i : Fin 128) (g : Guest) (f : Fin 1024) : (s.gatherFolio e w k i g f).1.base = s.base := by
  unfold State.gatherFolio; (try dsimp only); repeat' split
  all_goals first | (simp; done) | (rename_i h; have h := congrArg (fun p => p.1.base) h; simp at h; simp [h]; done) | (rename_i h _; have h := congrArg (fun p => p.1.base) h; simp at h; simp [h]; done) | (rename_i h _ _; have h := congrArg (fun p => p.1.base) h; simp at h; simp [h]; done) | (rename_i h _ _ _; have h := congrArg (fun p => p.1.base) h; simp at h; simp [h]; done) | (rename_i h _ _ _ _; have h := congrArg (fun p => p.1.base) h; simp at h; simp [h]; done) | (rename_i h _ _ _ _ _; have h := congrArg (fun p => p.1.base) h; simp at h; simp [h]; done) | (rename_i h _ _ _ _ _ _; have h := congrArg (fun p => p.1.base) h; simp at h; simp [h]; done) | (rename_i h _ _ _ _ _ _ _; have h := congrArg (fun p => p.1.base) h; simp at h; simp [h]; done) | (rename_i h _ _ _ _ _ _ _ _; have h := congrArg (fun p => p.1.base) h; simp at h; simp [h]; done) | (rename_i h _ _ _ _ _ _ _ _ _; have h := congrArg (fun p => p.1.base) h; simp at h; simp [h]; done)
@[simp] theorem State.gather_base (s : State) (e : Entry) (q : Byte) (c : CardId) (x : IndexEntry) (b : Bool) : (s.gather e q c x b).1.base = s.base := by
  unfold State.gather; (try dsimp only); repeat' split
  all_goals first | (simp; done) | (rename_i h; have h := congrArg (fun p => p.1.base) h; simp at h; simp [h]; done) | (rename_i h _; have h := congrArg (fun p => p.1.base) h; simp at h; simp [h]; done) | (rename_i h _ _; have h := congrArg (fun p => p.1.base) h; simp at h; simp [h]; done) | (rename_i h _ _ _; have h := congrArg (fun p => p.1.base) h; simp at h; simp [h]; done) | (rename_i h _ _ _ _; have h := congrArg (fun p => p.1.base) h; simp at h; simp [h]; done) | (rename_i h _ _ _ _ _; have h := congrArg (fun p => p.1.base) h; simp at h; simp [h]; done) | (rename_i h _ _ _ _ _ _; have h := congrArg (fun p => p.1.base) h; simp at h; simp [h]; done) | (rename_i h _ _ _ _ _ _ _; have h := congrArg (fun p => p.1.base) h; simp at h; simp [h]; done) | (rename_i h _ _ _ _ _ _ _ _; have h := congrArg (fun p => p.1.base) h; simp at h; simp [h]; done) | (rename_i h _ _ _ _ _ _ _ _ _; have h := congrArg (fun p => p.1.base) h; simp at h; simp [h]; done)
@[simp] theorem State.lockDecide_base (s : State) (e : Entry) (q : Byte) (c : CardId) : (s.lockDecide e q c).base = s.base := by
  unfold State.lockDecide; (try dsimp only); repeat' split
  all_goals first | (simp; done) | (rename_i h; have h := congrArg (fun p => p.1.base) h; simp at h; simp [h]; done) | (rename_i h _; have h := congrArg (fun p => p.1.base) h; simp at h; simp [h]; done) | (rename_i h _ _; have h := congrArg (fun p => p.1.base) h; simp at h; simp [h]; done) | (rename_i h _ _ _; have h := congrArg (fun p => p.1.base) h; simp at h; simp [h]; done) | (rename_i h _ _ _ _; have h := congrArg (fun p => p.1.base) h; simp at h; simp [h]; done) | (rename_i h _ _ _ _ _; have h := congrArg (fun p => p.1.base) h; simp at h; simp [h]; done) | (rename_i h _ _ _ _ _ _; have h := congrArg (fun p => p.1.base) h; simp at h; simp [h]; done) | (rename_i h _ _ _ _ _ _ _; have h := congrArg (fun p => p.1.base) h; simp at h; simp [h]; done) | (rename_i h _ _ _ _ _ _ _ _; have h := congrArg (fun p => p.1.base) h; simp at h; simp [h]; done) | (rename_i h _ _ _ _ _ _ _ _ _; have h := congrArg (fun p => p.1.base) h; simp at h; simp [h]; done)
@[simp] theorem State.acceptSale_base (s : State) (e : Entry) (q : Byte) (b : Binding) (n : Fin 2048) (i : Fin 128) (g : Guest) (j : Fin 128) (f : Fin 1024) (x : Folio) (v : SaleFigures) : (s.acceptSale e q b n i g j f x v).base = s.base := by
  unfold State.acceptSale; (try dsimp only); repeat' split
  all_goals first | (simp; done) | (simp; simp [State.base]; done) | (simp [State.base]; done) | rfl
@[simp] theorem State.evaluateSale_base (s : State) (e : Entry) (q : Byte) (b : Binding) (p : Profile) (l : List SaleLine) (n : Fin 2048) (i : Fin 128) (g : Guest) (j : Fin 128) (f : Fin 1024) (x : Folio) : (s.evaluateSale e q b p l n i g j f x).base = s.base := by
  unfold State.evaluateSale; (try dsimp only); repeat' split
  all_goals first | (simp; done) | (simp; simp [State.base]; done) | (simp [State.base]; done) | rfl
@[simp] theorem State.saleDecide_base (s : State) (e : Entry) (q : Byte) (c : CardId) (l : List SaleLine) : (s.saleDecide e q c l).base = s.base := by
  unfold State.saleDecide; (try dsimp only); repeat' split
  all_goals first | (simp; done) | (rename_i h; have h := congrArg (fun p => p.1.base) h; simp at h; simp [h]; done) | (rename_i h _; have h := congrArg (fun p => p.1.base) h; simp at h; simp [h]; done) | (rename_i h _ _; have h := congrArg (fun p => p.1.base) h; simp at h; simp [h]; done) | (rename_i h _ _ _; have h := congrArg (fun p => p.1.base) h; simp at h; simp [h]; done) | (rename_i h _ _ _ _; have h := congrArg (fun p => p.1.base) h; simp at h; simp [h]; done) | (rename_i h _ _ _ _ _; have h := congrArg (fun p => p.1.base) h; simp at h; simp [h]; done) | (rename_i h _ _ _ _ _ _; have h := congrArg (fun p => p.1.base) h; simp at h; simp [h]; done) | (rename_i h _ _ _ _ _ _ _; have h := congrArg (fun p => p.1.base) h; simp at h; simp [h]; done) | (rename_i h _ _ _ _ _ _ _ _; have h := congrArg (fun p => p.1.base) h; simp at h; simp [h]; done) | (rename_i h _ _ _ _ _ _ _ _ _; have h := congrArg (fun p => p.1.base) h; simp at h; simp [h]; done)
@[simp] theorem State.laneRepeat_base (s : State) (e : Entry) (q : Byte) (g : Guest) : (s.laneRepeat e q g).base = s.base := by
  unfold State.laneRepeat; (try dsimp only); repeat' split
  all_goals first | (simp; done) | (simp; simp [State.base]; done) | (simp [State.base]; done) | rfl
@[simp] theorem State.laneReturn_base (s : State) (e : Entry) (q : Byte) (b : Binding) (n : Fin 2048) (i : Fin 128) (g : Guest) (t : Fin 4) : (s.laneReturn e q b n i g t).base = s.base := by
  unfold State.laneReturn; (try dsimp only); repeat' split
  all_goals first | (simp; done) | (simp; simp [State.base]; done) | (simp [State.base]; done) | rfl
@[simp] theorem State.laneOut_base (s : State) (e : Entry) (q : Byte) (c : CardId) (b : Binding) (n : Fin 2048) (i : Fin 128) (g : Guest) : (s.laneOut e q c b n i g).base = s.base := by
  unfold State.laneOut; (try dsimp only); repeat' split
  all_goals first | (simp; done) | (simp; simp [State.base]; done) | (simp [State.base]; done) | rfl
@[simp] theorem State.laneIn_base (s : State) (e : Entry) (q : Byte) (c : CardId) (b : Binding) (n : Fin 2048) (i : Fin 128) (g : Guest) : (s.laneIn e q c b n i g).base = s.base := by
  unfold State.laneIn; (try dsimp only); repeat' split
  all_goals first | (simp; done) | (simp; simp [State.base]; done) | (simp [State.base]; done) | rfl
@[simp] theorem State.laneDecide_base (s : State) (e : Entry) (q : Byte) (c : CardId) : (s.laneDecide e q c).base = s.base := by
  unfold State.laneDecide; (try dsimp only); repeat' split
  all_goals first | (simp; done) | (rename_i h; have h := congrArg (fun p => p.1.base) h; simp at h; simp [h]; done) | (rename_i h _; have h := congrArg (fun p => p.1.base) h; simp at h; simp [h]; done) | (rename_i h _ _; have h := congrArg (fun p => p.1.base) h; simp at h; simp [h]; done) | (rename_i h _ _ _; have h := congrArg (fun p => p.1.base) h; simp at h; simp [h]; done) | (rename_i h _ _ _ _; have h := congrArg (fun p => p.1.base) h; simp at h; simp [h]; done) | (rename_i h _ _ _ _ _; have h := congrArg (fun p => p.1.base) h; simp at h; simp [h]; done) | (rename_i h _ _ _ _ _ _; have h := congrArg (fun p => p.1.base) h; simp at h; simp [h]; done) | (rename_i h _ _ _ _ _ _ _; have h := congrArg (fun p => p.1.base) h; simp at h; simp [h]; done) | (rename_i h _ _ _ _ _ _ _ _; have h := congrArg (fun p => p.1.base) h; simp at h; simp [h]; done) | (rename_i h _ _ _ _ _ _ _ _ _; have h := congrArg (fun p => p.1.base) h; simp at h; simp [h]; done)
@[simp] theorem State.musterHolder_base (s : State) (e : Entry) (q : Byte) (b : Binding) (n : Fin 2048) (i : Fin 128) (g : Guest) : (s.musterHolder e q b n i g).base = s.base := by
  unfold State.musterHolder; (try dsimp only); repeat' split
  all_goals first | (simp; done) | (simp; simp [State.base]; done) | (simp [State.base]; done) | rfl
@[simp] theorem State.musterCount_base (s : State) (e : Entry) (q : Byte) (c : CardId) (b : Binding) (n : Fin 2048) (i : Fin 128) (g : Guest) : (s.musterCount e q c b n i g).base = s.base := by
  unfold State.musterCount; (try dsimp only); repeat' split
  all_goals first | (simp; done) | (simp; simp [State.base]; done) | (simp [State.base]; done) | rfl
@[simp] theorem State.musterDecide_base (s : State) (e : Entry) (q : Byte) (c : CardId) : (s.musterDecide e q c).base = s.base := by
  unfold State.musterDecide; (try dsimp only); repeat' split
  all_goals first | (simp; done) | (rename_i h; have h := congrArg (fun p => p.1.base) h; simp at h; simp [h]; done) | (rename_i h _; have h := congrArg (fun p => p.1.base) h; simp at h; simp [h]; done) | (rename_i h _ _; have h := congrArg (fun p => p.1.base) h; simp at h; simp [h]; done) | (rename_i h _ _ _; have h := congrArg (fun p => p.1.base) h; simp at h; simp [h]; done) | (rename_i h _ _ _ _; have h := congrArg (fun p => p.1.base) h; simp at h; simp [h]; done) | (rename_i h _ _ _ _ _; have h := congrArg (fun p => p.1.base) h; simp at h; simp [h]; done) | (rename_i h _ _ _ _ _ _; have h := congrArg (fun p => p.1.base) h; simp at h; simp [h]; done) | (rename_i h _ _ _ _ _ _ _; have h := congrArg (fun p => p.1.base) h; simp at h; simp [h]; done) | (rename_i h _ _ _ _ _ _ _ _; have h := congrArg (fun p => p.1.base) h; simp at h; simp [h]; done) | (rename_i h _ _ _ _ _ _ _ _ _; have h := congrArg (fun p => p.1.base) h; simp at h; simp [h]; done)
@[simp] theorem State.ownerDecide_base (s : State) (e : Entry) (q : Byte) (c : CardId) (l : List SaleLine) : (s.ownerDecide e q c l).base = s.base := by
  unfold State.ownerDecide; (try dsimp only); repeat' split
  all_goals first | (simp; done) | (simp; simp [State.base]; done) | (simp [State.base]; done) | rfl

/-! ## Requests -/

@[simp] theorem State.putGuest_base (s : State) (i : Fin 128) (n : Fin 2048) (g : Guest) : (s.putGuest i n g).base = s.base := by
  unfold State.putGuest; (try dsimp only); repeat' split
  all_goals first | (simp; done) | (simp; simp [State.base]; done) | (simp [State.base]; done) | rfl
@[simp] theorem State.unindexAll_base (s : State) (n : Fin 2048) (g : Guest) : (s.unindexAll n g).base = s.base := by
  unfold State.unindexAll; (try dsimp only); repeat' split
  all_goals first | (simp; done) | (simp; simp [State.base]; done) | (simp [State.base]; done) | rfl
@[simp] theorem State.guestPut_base (s : State) (i : Fin 128) (n : Fin 2048) (g : Guest) (f : GuestFields) : (s.guestPut i n g f).base = s.base := by
  unfold State.guestPut; (try dsimp only); repeat' split
  all_goals first | (simp; done) | (simp; simp [State.base]; done) | (simp [State.base]; done) | rfl
@[simp] theorem State.indexIfService_base (s : State) (c : CardId) (n : Fin 2048) (k : Fin 2) : (s.indexIfService c n k).base = s.base := by
  unfold State.indexIfService; (try dsimp only); repeat' split
  all_goals first | (simp; done) | (simp; simp [State.base]; done) | (simp [State.base]; done) | rfl
@[simp] theorem State.refuseCard_base (s : State) (c : CardId) (n : Fin 2048) (k : Fin 2) : (s.refuseCard c n k).base = s.base := by
  unfold State.refuseCard; (try dsimp only); repeat' split
  all_goals first | (simp; done) | (simp; simp [State.base]; done) | (simp [State.base]; done) | rfl
@[simp] theorem State.cardAdd_base (s : State) (i : Fin 128) (n : Fin 2048) (g : Guest) (k : Fin 2) (c : CardId) : (s.cardAdd i n g k c).base = s.base := by
  unfold State.cardAdd; (try dsimp only); repeat' split
  all_goals first | (simp; done) | (simp; simp [State.base]; done) | (simp [State.base]; done) | rfl
@[simp] theorem State.cardMarkLost_base (s : State) (i : Fin 128) (n : Fin 2048) (g : Guest) (k : Fin 2) (c : CardId) : (s.cardMarkLost i n g k c).base = s.base := by
  unfold State.cardMarkLost; (try dsimp only); repeat' split
  all_goals first | (simp; done) | (simp; simp [State.base]; done) | (simp [State.base]; done) | rfl
@[simp] theorem State.cardRemove_base (s : State) (i : Fin 128) (n : Fin 2048) (g : Guest) (k : Fin 2) (c : CardId) : (s.cardRemove i n g k c).base = s.base := by
  unfold State.cardRemove; (try dsimp only); repeat' split
  all_goals first | (simp; done) | (simp; simp [State.base]; done) | (simp [State.base]; done) | rfl
@[simp] theorem State.presenceSet_base (s : State) (i : Fin 128) (n : Fin 2048) (g : Guest) (p : Presence) (t : Option (Fin 4)) : (s.presenceSet i n g p t).base = s.base := by
  unfold State.presenceSet; (try dsimp only); repeat' split
  all_goals first | (simp; done) | (simp; simp [State.base]; done) | (simp [State.base]; done) | rfl
@[simp] theorem State.putFolio_base (s : State) (i : Fin 128) (f : Folio) : (s.putFolio i f).base = s.base := by
  unfold State.putFolio; (try dsimp only); repeat' split
  all_goals first | (simp; done) | (simp; simp [State.base]; done) | (simp [State.base]; done) | rfl
@[simp] theorem State.folioPut_base (s : State) (i : Fin 128) (f : Folio) (x : FolioStatus) (l a : Nat) (b : Option Int) (c : SaleFlags) : (s.folioPut i f x l a b c).base = s.base := by
  unfold State.folioPut; (try dsimp only); repeat' split
  all_goals first | (simp; done) | (simp; simp [State.base]; done) | (simp [State.base]; done) | rfl
@[simp] theorem State.folioSettle_base (s : State) (i : Fin 128) (n : Fin 1024) (f : Folio) (a : Int) : (s.folioSettle i n f a).base = s.base := by
  unfold State.folioSettle; (try dsimp only); repeat' split
  all_goals first | (simp; done) | (simp; simp [State.base]; done) | (simp [State.base]; done) | rfl
@[simp] theorem State.applyRecord_base (s : State) (r : RecordReq) (i : Fin 128) : (s.applyRecord r i).base = s.base := by
  unfold State.applyRecord; (try dsimp only); repeat' split
  all_goals first | (simp; done) | (simp; simp [State.base]; done) | (simp [State.base]; done) | rfl
@[simp] theorem State.startRecord_base (s : State) (r : RecordReq) : (s.startRecord r).base = s.base := by
  unfold State.startRecord; (try dsimp only); repeat' split
  all_goals first | (simp; done) | (rename_i h; have h := congrArg (fun p => p.1.base) h; simp at h; simp [h]; done) | (rename_i h _; have h := congrArg (fun p => p.1.base) h; simp at h; simp [h]; done) | (rename_i h _ _; have h := congrArg (fun p => p.1.base) h; simp at h; simp [h]; done) | (rename_i h _ _ _; have h := congrArg (fun p => p.1.base) h; simp at h; simp [h]; done) | (rename_i h _ _ _ _; have h := congrArg (fun p => p.1.base) h; simp at h; simp [h]; done) | (rename_i h _ _ _ _ _; have h := congrArg (fun p => p.1.base) h; simp at h; simp [h]; done) | (rename_i h _ _ _ _ _ _; have h := congrArg (fun p => p.1.base) h; simp at h; simp [h]; done) | (rename_i h _ _ _ _ _ _ _; have h := congrArg (fun p => p.1.base) h; simp at h; simp [h]; done) | (rename_i h _ _ _ _ _ _ _ _; have h := congrArg (fun p => p.1.base) h; simp at h; simp [h]; done) | (rename_i h _ _ _ _ _ _ _ _ _; have h := congrArg (fun p => p.1.base) h; simp at h; simp [h]; done)
@[simp] theorem State.putInForce_base (s : State) (r : ConfReq) : (s.putInForce r).base = s.base := by
  unfold State.putInForce; (try dsimp only); repeat' split
  all_goals first | (simp; done) | (simp; simp [State.base]; done) | (simp [State.base]; done) | rfl
@[simp] theorem State.afterForce_base (s : State) (o : State) (r : ConfReq) : (s.afterForce o r).base = s.base := by
  unfold State.afterForce; (try dsimp only); repeat' split
  all_goals first | (simp; done) | (simp; simp [State.base]; done) | (simp [State.base]; done) | rfl
@[simp] theorem State.startConf_base (s : State) (r : ConfReq) : (s.startConf r).base = s.base := by
  unfold State.startConf; (try dsimp only); repeat' split
  all_goals first | (simp; done) | (simp; simp [State.base]; done) | (simp [State.base]; done) | rfl
@[simp] theorem State.startTake_base (s : State) (m : Nat) : (s.startTake m).base = s.base := by
  unfold State.startTake; (try dsimp only); repeat' split
  all_goals first | (simp; done) | (simp; simp [State.base]; done) | (simp [State.base]; done) | rfl
@[simp] theorem State.takeReview_base (s : State) : s.takeReview.base = s.base := by
  unfold State.takeReview; (try dsimp only); repeat' split
  all_goals first | (simp; done) | (simp; simp [State.base]; done) | (simp [State.base]; done) | rfl
@[simp] theorem State.formatReview_base (s : State) : s.formatReview.base = s.base := by
  unfold State.formatReview; (try dsimp only); repeat' split
  all_goals first | (simp; done) | (simp; simp [State.base]; done) | (simp [State.base]; done) | rfl
@[simp] theorem State.formatWritten_base (s : State) (t : WriteTarget) (k : Bool) : (s.formatWritten t k).base = s.base := by
  unfold State.formatWritten; (try dsimp only); repeat' split
  all_goals first | (simp; done) | (simp; simp [State.base]; done) | (simp [State.base]; done) | rfl
@[simp] theorem State.startFormat_base (s : State) : s.startFormat.base = s.base := by
  unfold State.startFormat; (try dsimp only); repeat' split
  all_goals first | (simp; done) | (simp; simp [State.base]; done) | (simp [State.base]; done) | rfl
@[simp] theorem State.serve_base (s : State) (w : PlaceWaiter) : (s.serve w).base = s.base := by
  unfold State.serve; (try dsimp only); repeat' split
  all_goals first | (simp; done) | (simp; simp [State.base]; done) | (simp [State.base]; done) | rfl
@[simp] theorem State.servePlaces_base (s : State) (asks : Bool) : (s.servePlaces asks).base = s.base := by
  unfold State.servePlaces; exact foldl_base _ (fun s a => by dsimp only; split <;> simp) _ _
@[simp] theorem State.clearEmptySites_base (s : State) : s.clearEmptySites.base = s.base := by
  unfold State.clearEmptySites; exact foldl_base _ (fun s a => by split <;> simp) _ _
@[simp] theorem State.clearEmptySites_pending (s : State) : s.clearEmptySites.pending = s.pending := State.pending_of_base (State.clearEmptySites_base s)
@[simp] theorem State.clearEmptySites_inReset (s : State) : s.clearEmptySites.inReset = s.inReset := State.inReset_of_base (State.clearEmptySites_base s)
@[simp] theorem State.clearEmptySites_straps (s : State) : s.clearEmptySites.straps = s.straps := State.straps_of_base (State.clearEmptySites_base s)
@[simp] theorem State.clearEmptySites_mem (s : State) : s.clearEmptySites.mem = s.mem := State.mem_of_base (State.clearEmptySites_base s)
@[simp] theorem State.censusReview_base (s : State) : s.censusReview.base = s.base := by
  unfold State.censusReview; dsimp only; repeat' split
  all_goals simp [State.base]
@[simp] theorem State.censusTaken_base (s : State) (n : Fin 2048) (g : Option Guest) : (s.censusTaken n g).base = s.base := by
  unfold State.censusTaken; (try dsimp only); repeat' split
  all_goals first | (simp; done) | (simp; simp [State.base]; done) | (simp [State.base]; done) | rfl
@[simp] theorem State.censusInstant_base (s : State) (n : Fin 2048) (i : Fin 128) : (s.censusInstant n i).base = s.base := by
  unfold State.censusInstant; (try dsimp only); repeat' split
  all_goals first | (simp; done) | (simp; simp [State.base]; done) | (simp [State.base]; done) | rfl
@[simp] theorem State.settle_base (s : State) (asks : Bool) : (s.settle asks).base = s.base := by
  unfold State.settle; (try dsimp only); repeat' split
  all_goals first | (simp; done) | (simp; simp [State.base]; done) | (simp [State.base]; done) | rfl
@[simp] theorem State.censusRun_base (k : Nat) (s : State) : (State.censusRun k s).base = s.base := by
  induction k generalizing s with
  | zero => rfl
  | succ k ih => unfold State.censusRun; repeat' split
                 all_goals first | rfl | simp [ih]
@[simp] theorem State.jobOver_base (s : State) : s.jobOver.base = s.base := by
  unfold State.jobOver; (try dsimp only); repeat' split
  all_goals first | (simp; done) | (simp; simp [State.base]; done) | (simp [State.base]; done) | rfl

/-! ## Power -/

@[simp] theorem State.interruptHand_base (s : State) : s.interruptHand.base = s.base := by
  unfold State.interruptHand; (try dsimp only); repeat' split
  all_goals first | (simp; done) | (simp; simp [State.base]; done) | (simp [State.base]; done) | rfl
@[simp] theorem State.interruptHand_pending (s : State) : s.interruptHand.pending = s.pending := State.pending_of_base (State.interruptHand_base s)
@[simp] theorem State.interruptHand_inReset (s : State) : s.interruptHand.inReset = s.inReset := State.inReset_of_base (State.interruptHand_base s)
@[simp] theorem State.interruptHand_straps (s : State) : s.interruptHand.straps = s.straps := State.straps_of_base (State.interruptHand_base s)
@[simp] theorem State.interruptHand_mem (s : State) : s.interruptHand.mem = s.mem := State.mem_of_base (State.interruptHand_base s)
@[simp] theorem State.enterEmergency_base (s : State) : s.enterEmergency.base = s.base := by
  unfold State.enterEmergency; (try dsimp only); repeat' split
  all_goals first | (simp; done) | (simp; simp [State.base]; done) | (simp [State.base]; done) | rfl
@[simp] theorem State.returnNormal_base (s : State) : s.returnNormal.base = s.base := by
  unfold State.returnNormal; (try dsimp only); repeat' split
  all_goals first | (simp; done) | (simp; simp [State.base]; done) | (simp [State.base]; done) | rfl
@[simp] theorem State.beginRestart_base (s : State) : s.beginRestart.base = s.base := by
  unfold State.beginRestart; (try dsimp only); repeat' split
  all_goals first | (simp; done) | (simp; simp [State.base]; done) | (simp [State.base]; done) | rfl

/-! ## Turns and lines -/

@[simp] theorem State.completeRound_base (s : State) (n : Fin 4) : (s.completeRound n).base = s.base := by
  unfold State.completeRound; (try dsimp only); repeat' split
  all_goals first | (simp; done) | (simp; simp [State.base]; done) | (simp [State.base]; done) | rfl
@[simp] theorem State.roundReview_base (s : State) (n : Fin 4) : (s.roundReview n).base = s.base := by
  unfold State.roundReview; (try dsimp only); repeat' split
  all_goals first | (simp; done) | (simp; simp [State.base]; done) | (simp [State.base]; done) | rfl
@[simp] theorem State.leaveServing_base (s : State) (n : Fin 4) : (s.leaveServing n).base = s.base := by
  unfold State.leaveServing; (try dsimp only); repeat' split
  all_goals first | (simp; done) | (simp; simp [State.base]; done) | (simp [State.base]; done) | rfl
@[simp] theorem State.goodAnswer_base (s : State) (n : Fin 4) (e : Entry) (k : GoodKind) : (s.goodAnswer n e k).base = s.base := by
  unfold State.goodAnswer; (try dsimp only); repeat' split
  all_goals first | (simp; done) | (simp; simp [State.base]; done) | (simp [State.base]; done) | rfl
@[simp] theorem State.badAnswer_base (s : State) (n : Fin 4) (d : Nat) (g : Bool) : (s.badAnswer n d g).base = s.base := by
  unfold State.badAnswer; (try dsimp only); repeat' split
  all_goals first | (simp; done) | (simp; simp [State.base]; done) | (simp [State.base]; done) | rfl
@[simp] theorem State.badTurn_base (s : State) (n : Fin 4) (t d : Nat) (g : Bool) : (s.badTurn n t d g).base = s.base := by
  unfold State.badTurn; (try dsimp only); repeat' split
  all_goals first | (simp; done) | (simp; simp [State.base]; done) | (simp [State.base]; done) | rfl
@[simp] theorem State.supersede_base (s : State) (e : Entry) : (s.supersede e).base = s.base := by
  unfold State.supersede; (try dsimp only); repeat' split
  all_goals first | (simp; done) | (simp; simp [State.base]; done) | (simp [State.base]; done) | rfl
@[simp] theorem State.handOffer_base (s : State) (e : Entry) (q : Byte) (c : CardId) (l : List SaleLine) : (s.handOffer e q c l).base = s.base := by
  unfold State.handOffer; (try dsimp only); repeat' split
  all_goals first | (simp; done) | (simp; simp [State.base]; done) | (simp [State.base]; done) | rfl
@[simp] theorem State.newOffer_base (s : State) (e : Entry) (q : Byte) (c : CardId) (l : List SaleLine) : (s.newOffer e q c l).base = s.base := by
  unfold State.newOffer; (try dsimp only); repeat' split
  all_goals first | (simp; done) | (simp; simp [State.base]; done) | (simp [State.base]; done) | rfl
@[simp] theorem State.repeatOffer_base (s : State) (e : Entry) (q : Byte) (c : CardId) (l : List SaleLine) : (s.repeatOffer e q c l).base = s.base := by
  unfold State.repeatOffer; (try dsimp only); repeat' split
  all_goals first | (simp; done) | (simp; simp [State.base]; done) | (simp [State.base]; done) | rfl
@[simp] theorem State.offered_base (s : State) (e : Entry) (q : Byte) (c : CardId) (l : List SaleLine) : (s.offered e q c l).base = s.base := by
  unfold State.offered; (try dsimp only); repeat' split
  all_goals first | (simp; done) | (simp; simp [State.base]; done) | (simp [State.base]; done) | rfl
@[simp] theorem State.cancelled_base (s : State) (e : Entry) (q : Byte) : (s.cancelled e q).base = s.base := by
  unfold State.cancelled; (try dsimp only); repeat' split
  all_goals first | (simp; done) | (simp; simp [State.base]; done) | (simp [State.base]; done) | rfl
@[simp] theorem State.bringUpDone_base (s : State) (n : Fin 4) (b : BringUp) : (s.bringUpDone n b).base = s.base := by
  unfold State.bringUpDone; (try dsimp only); repeat' split
  all_goals first | (simp; done) | (simp; simp [State.base]; done) | (simp [State.base]; done) | rfl
@[simp] theorem State.reportEnumeration_base (s : State) (n : Fin 4) (r : EnumResult) (es : List Entry) : (s.reportEnumeration n r es).base = s.base := by
  unfold State.reportEnumeration; (try dsimp only); repeat' split
  all_goals first | (simp; done) | (simp; simp [State.base]; done) | (simp [State.base]; done) | rfl
@[simp] theorem State.endEnumeration_base (s : State) (n : Fin 4) (r : EnumResult) : (s.endEnumeration n r).base = s.base := by
  unfold State.endEnumeration; (try dsimp only); repeat' split
  all_goals first | (simp; done) | (simp; simp [State.base]; done) | (simp [State.base]; done) | rfl
@[simp] theorem State.assignFailed_base (s : State) (n : Fin 4) (r : EnumRun) (b : Bool) : (s.assignFailed n r b).base = s.base := by
  unfold State.assignFailed; (try dsimp only); repeat' split
  all_goals first | (simp; done) | (simp; simp [State.base]; done) | (simp [State.base]; done) | rfl
@[simp] theorem State.joined_base (s : State) (n : Fin 4) (r : EnumRun) (k : ReaderKind) (x : ReaderSerial) : (s.joined n r k x).base = s.base := by
  unfold State.joined; (try dsimp only); repeat' split
  all_goals first | (simp; done) | (simp; simp [State.base]; done) | (simp [State.base]; done) | rfl
@[simp] theorem State.garbled_base (s : State) (n : Fin 4) (d : Nat) : (s.garbled n d).base = s.base := by
  unfold State.garbled; (try dsimp only); repeat' split
  all_goals first | (simp; done) | (simp; simp [State.base]; done) | (simp [State.base]; done) | rfl
@[simp] theorem State.silenced_base (s : State) (n : Fin 4) (d : Nat) : (s.silenced n d).base = s.base := by
  unfold State.silenced; (try dsimp only); repeat' split
  all_goals first | (simp; done) | (simp; simp [State.base]; done) | (simp [State.base]; done) | rfl
@[simp] theorem State.isolated_base (s : State) (n : Fin 4) (c : IsolateCause) : (s.isolated n c).base = s.base := by
  unfold State.isolated; (try dsimp only); repeat' split
  all_goals first | (simp; done) | (simp; simp [State.base]; done) | (simp [State.base]; done) | rfl
@[simp] theorem State.endCheck_base (s : State) (n : Fin 4) (c : CheckRun) (r : CheckResult) (x : Option LineState) : (s.endCheck n c r x).base = s.base := by
  unfold State.endCheck; (try dsimp only); repeat' split
  all_goals first | (simp; done) | (simp; simp [State.base]; done) | (simp [State.base]; done) | rfl
@[simp] theorem State.answerCheck_base (s : State) (n : Fin 4) (c : CheckRun) (r : CheckResult) : (s.answerCheck n c r).base = s.base := by
  unfold State.answerCheck; (try dsimp only); repeat' split
  all_goals first | (simp; done) | (simp; simp [State.base]; done) | (simp [State.base]; done) | rfl
@[simp] theorem State.removeEntry_base (s : State) (e : Entry) : (s.removeEntry e).base = s.base := by
  unfold State.removeEntry; (try dsimp only); repeat' split
  all_goals first | (simp; done) | (simp; simp [State.base]; done) | (simp [State.base]; done) | rfl

/-! ## Job ends, apart from their writes -/

@[simp] theorem State.serveWaiter_base (s : State) (i : Fin 128) (k : RecKey) (w : Waiter) : (s.serveWaiter i k w).base = s.base := by
  unfold State.serveWaiter; (try dsimp only); repeat' split
  all_goals first | (simp; done) | (simp; simp [State.base]; done) | (simp [State.base]; done) | rfl
@[simp] theorem State.fillDone_base (s : State) (i : Fin 128) (r : ReadResult) : (s.fillDone i r).base = s.base := by
  unfold State.fillDone; dsimp only; split
  · rw [foldl_base _ (fun s a => by simp)]; simp
  · rw [foldl_base _ (fun s a => by simp)]; simp
  · simp
@[simp] theorem State.restartMiss_base (s : State) (k : RecKey) (w : List Waiter) (h : List Hold) : (s.restartMiss k w h).base = s.base := by
  unfold State.restartMiss; repeat' split
  all_goals first | rfl | (simp; done) | (rename_i h _; simpa using State.claim_base h) | (rename_i h _ _; simpa using State.claim_base h)
@[simp] theorem State.pairSecond_base (s : State) (i : Fin 128) (k : RecKey) : (s.pairSecond i k).base = s.base := by
  unfold State.pairSecond; (try dsimp only); repeat' split
  all_goals first | (simp; done) | (simp; simp [State.base]; done) | (simp [State.base]; done) | rfl
@[simp] theorem State.saleUndelivered_base (s : State) (c : CommitEntry) (u : UndeliveredCause) : (s.saleUndelivered c u).base = s.base := by
  unfold State.saleUndelivered; (try dsimp only); repeat' split
  all_goals first | (simp; done) | (simp; simp [State.base]; done) | (simp [State.base]; done) | rfl
@[simp] theorem State.rememberAs_base (s : State) (l : Fin 4) (d : Nat) (v : Verdict) : (s.rememberAs l d v).base = s.base := by
  unfold State.rememberAs; (try dsimp only); repeat' split
  all_goals first | (simp; done) | (simp; simp [State.base]; done) | (simp [State.base]; done) | rfl
@[simp] theorem State.settleAccepted_base (s : State) (c : CommitEntry) : (s.settleAccepted c).base = s.base := by
  unfold State.settleAccepted; (try dsimp only); repeat' split
  all_goals first | (simp; done) | (simp; simp [State.base]; done) | (simp [State.base]; done) | rfl
@[simp] theorem State.settleFailed_base (s : State) (c : CommitEntry) : (s.settleFailed c).base = s.base := by
  unfold State.settleFailed; (try dsimp only); repeat' split
  all_goals first | (simp; done) | (simp; simp [State.base]; done) | (simp [State.base]; done) | rfl
@[simp] theorem State.changeFolio_base (s : State) (n : Fin 1024) (f : Folio → Folio) : (s.changeFolio n f).base = s.base := by
  unfold State.changeFolio; (try dsimp only); repeat' split
  all_goals first | (simp; done) | (simp; simp [State.base]; done) | (simp [State.base]; done) | rfl
@[simp] theorem State.changeGuest_base (s : State) (n : Fin 2048) (f : Guest → Guest) : (s.changeGuest n f).base = s.base := by
  unfold State.changeGuest; (try dsimp only); repeat' split
  all_goals first | (simp; done) | (simp; simp [State.base]; done) | (simp [State.base]; done) | rfl
@[simp] theorem State.releasePending_base (s : State) (c : CommitEntry) : (s.releasePending c).base = s.base := by
  unfold State.releasePending; (try dsimp only); repeat' split
  all_goals first | (simp; done) | (simp; simp [State.base]; done) | (simp [State.base]; done) | rfl
@[simp] theorem State.commitDone_base (s : State) (c : CommitEntry) (r : List CommitEntry) : (s.commitDone c r).base = s.base := by
  unfold State.commitDone; (try dsimp only); repeat' split
  all_goals first | (simp; done) | (simp; simp [State.base]; done) | (simp [State.base]; done) | rfl
@[simp] theorem State.commitFailed_base (s : State) (c : CommitEntry) (r : List CommitEntry) : (s.commitFailed c r).base = s.base := by
  unfold State.commitFailed; (try dsimp only); repeat' split
  all_goals first | (simp; done) | (simp; simp [State.base]; done) | (simp [State.base]; done) | rfl
@[simp] theorem State.confWritten_base (s : State) (t : WriteTarget) (k : Bool) (o : WriteOwner) : (s.confWritten t k o).base = s.base := by
  unfold State.confWritten; (try dsimp only); repeat' split
  all_goals first | (simp; done) | (simp; simp [State.base]; done) | (simp [State.base]; done) | rfl

/-! ## Start-up and timers -/

@[simp] theorem State.loadBinding_base (s : State) (i : Fin 192) (x : Option Binding) : (s.loadBinding i x).base = s.base := by
  unfold State.loadBinding; (try dsimp only); repeat' split
  all_goals first | (simp; done) | (simp; simp [State.base]; done) | (simp [State.base]; done) | rfl
@[simp] theorem State.loadBindings_base (s : State) (b : Fin 12) (l : List (Option Binding)) : (s.loadBindings b l).base = s.base := by
  unfold State.loadBindings; exact foldl_base _ (fun s a => by simp) _ _
@[simp] theorem State.loadSites_base (s : State) (l : List Site) (m : List (Option (Fin 4))) : (s.loadSites l m).base = s.base := by
  unfold State.loadSites; (try dsimp only); repeat' split
  all_goals first | (simp; done) | (simp; simp [State.base]; done) | (simp [State.base]; done) | rfl
@[simp] theorem State.loadPlans_base (s : State) (l : List FaultPlan) : (s.loadPlans l).base = s.base := by
  unfold State.loadPlans; (try dsimp only); repeat' split
  all_goals first | (simp; done) | (simp; simp [State.base]; done) | (simp [State.base]; done) | rfl
@[simp] theorem State.loadMarks_base (s : State) (h t : PostSerial) : (s.loadMarks h t).base = s.base := by
  unfold State.loadMarks; (try dsimp only); repeat' split
  all_goals first | (simp; done) | (simp; simp [State.base]; done) | (simp [State.base]; done) | rfl
@[simp] theorem State.loadClock_base (s : State) (a b : Nat) (o : Int) : (s.loadClock a b o).base = s.base := by
  unfold State.loadClock; (try dsimp only); repeat' split
  all_goals first | (simp; done) | (simp; simp [State.base]; done) | (simp [State.base]; done) | rfl
@[simp] theorem State.loadFormat_base (s : State) (b : ConfBlock) : (s.loadFormat b).base = s.base := by
  unfold State.loadFormat; (try dsimp only); repeat' split
  all_goals first | (simp; done) | (simp; simp [State.base]; done) | (simp [State.base]; done) | rfl
theorem State.loadBlock_base {s t : State} {b : ConfBlock} {bs : List Byte} (h : s.loadBlock b bs = some t) : t.base = s.base := by
  unfold State.loadBlock at h; split at h
  all_goals (simp only [Option.map_eq_some_iff] at h; obtain ⟨v, -, rfl⟩ := h; first | (simp; done) | (simp [State.base]; done))
@[simp] theorem State.beginBringUps_base (s : State) : s.beginBringUps.base = s.base := by
  unfold State.beginBringUps; (try dsimp only); repeat' split
  all_goals first | (simp; done) | (simp; simp [State.base]; done) | (simp [State.base]; done) | rfl
@[simp] theorem State.maintenanceUp_base (s : State) : s.maintenanceUp.base = s.base := by
  unfold State.maintenanceUp; (try dsimp only); repeat' split
  all_goals first | (simp; done) | (simp; simp [State.base]; done) | (simp [State.base]; done) | rfl
@[simp] theorem State.startService_base (s : State) : s.startService.base = s.base := by
  unfold State.startService; dsimp only; repeat' split
  all_goals (simp; rw [foldl_base _ (fun s a => State.actOn_base s a)]; simp [State.base])
@[simp] theorem State.afterBlock_base (s : State) (k : Fin 49) : (s.afterBlock k).base = s.base := by
  unfold State.afterBlock; (try dsimp only); repeat' split
  all_goals first | (simp; done) | (simp; simp [State.base]; done) | (simp [State.base]; done) | rfl
@[simp] theorem State.tickSites_base (s : State) : s.tickSites.base = s.base := by
  unfold State.tickSites; (try dsimp only); repeat' split
  all_goals first | (simp; done) | (simp; simp [State.base]; done) | (simp [State.base]; done) | rfl
@[simp] theorem State.flusherQueue_base (s : State) : s.flusherQueue.base = s.base := by
  unfold State.flusherQueue; exact foldl_base _ (fun s a => by split <;> simp) _ _
@[simp] theorem State.beginFlush_base (s : State) : s.beginFlush.base = s.base := by
  unfold State.beginFlush; (try dsimp only); repeat' split
  all_goals first | (simp; done) | (simp; simp [State.base]; done) | (simp [State.base]; done) | rfl
@[simp] theorem State.clearFault_base (s : State) (x : Option FaultSource) : (s.clearFault x).base = s.base := by
  unfold State.clearFault; (try dsimp only); repeat' split
  all_goals first | (simp; done) | (simp; simp [State.base]; done) | (simp [State.base]; done) | rfl
@[simp] theorem State.resume_base (s : State) : s.resume.base = s.base := by
  unfold State.resume; (try dsimp only); repeat' split
  all_goals first | (simp; done) | (simp; simp [State.base]; done) | (simp [State.base]; done) | rfl
@[simp] theorem State.readerGet_base (s : State) (x : GetForm) : (s.readerGet x).base = s.base := by
  unfold State.readerGet; (try dsimp only); repeat' split
  all_goals first | (simp; done) | (simp; simp [State.base]; done) | (simp [State.base]; done) | rfl
@[simp] theorem State.askEnumeration_base (s : State) (n : Fin 4) : (s.askEnumeration n).base = s.base := by
  unfold State.askEnumeration; (try dsimp only); repeat' split
  all_goals first | (simp; done) | (simp; simp [State.base]; done) | (simp [State.base]; done) | rfl
@[simp] theorem State.askCheck_base (s : State) (n : Fin 4) (c : CheckCause) : (s.askCheck n c).base = s.base := by
  unfold State.askCheck; (try dsimp only); repeat' split
  all_goals first | (simp; done) | (simp; simp [State.base]; done) | (simp [State.base]; done) | rfl
@[simp] theorem State.isolateLine_base (s : State) (n : Fin 4) : (s.isolateLine n).base = s.base := by
  unfold State.isolateLine; (try dsimp only); repeat' split
  all_goals first | (simp; done) | (simp; simp [State.base]; done) | (simp [State.base]; done) | rfl
@[simp] theorem State.askCensus_base (s : State) : s.askCensus.base = s.base := by
  unfold State.askCensus; (try dsimp only); repeat' split
  all_goals first | (simp; done) | (simp; simp [State.base]; done) | (simp [State.base]; done) | rfl
@[simp] theorem State.takeNews_base (s : State) : s.takeNews.base = s.base := by
  unfold State.takeNews; (try dsimp only); repeat' split
  all_goals first | (simp; done) | (simp; simp [State.base]; done) | (simp [State.base]; done) | rfl

end Sys2Proof.Machine
end

