-- ==== Sys2Proof/Laws/Requests.lean ====
section
/-! SUPPORT. How a request comes in hand and is answered, and how a job is handed to the port, each said once. -/
namespace Sys2Proof.Machine
set_option Elab.async false

/-- The arrival of a valid frame. -/
theorem State.frameArrived_eq_heard (s : State) : s.frameArrived = s.heard := rfl

@[simp] theorem State.heard_inReset (s : State) : s.heard.inReset = s.inReset := rfl
@[simp] theorem State.heard_inHand (s : State) : s.heard.link.inHand = s.link.inHand := rfl
@[simp] theorem State.heard_tx (s : State) : s.heard.link.tx = s.link.tx := rfl
@[simp] theorem State.heard_startUp (s : State) : s.heard.startUp = s.startUp := rfl
@[simp] theorem State.heard_power (s : State) : s.heard.power = s.power := rfl
@[simp] theorem State.heard_straps (s : State) : s.heard.straps = s.straps := rfl
@[simp] theorem State.heard_service (s : State) : s.heard.service = s.service := rfl
@[simp] theorem State.holding_power (s : State) (t : Tag) (k : Byte) (w : Work) : (s.holding t k w).power = s.power := rfl
@[simp] theorem State.holding_service (s : State) (t : Tag) (k : Byte) (w : Work) : (s.holding t k w).service = s.service := rfl

/-- A frame that is taken in hand is judged. -/
theorem State.receive_taken {s : State} (h : s.takesRequest) (tag : Tag) (kind : Byte) (judge : State → State) :
    s.receive tag kind judge = judge (s.heard.holding tag kind .judging) := by
  obtain ⟨-, h2, h3, -⟩ := h
  have hn : ¬(s.frameArrived.link.inHand.isSome = true ∨ s.frameArrived.startUp.phase = StartPhase.readingConfig) := by
    simp [State.frameArrived_eq_heard, h2, h3]
  simp only [State.receive, if_neg hn]
  rfl

/-- A frame that is not taken in hand is answered BUSY. -/
theorem State.receive_busy {s : State} (h : s.link.inHand.isSome = true ∨ s.startUp.phase = .readingConfig) (tag : Tag)
    (kind : Byte) (judge : State → State) : s.receive tag kind judge = s.heard.replyBusy tag kind := by
  have hn : s.frameArrived.link.inHand.isSome = true ∨ s.frameArrived.startUp.phase = StartPhase.readingConfig := h
  simp only [State.receive, if_pos hn]
  rfl

/-- The reply to a request in hand, while the transmit list has a place. -/
theorem State.finish_holding (s : State) (tag : Tag) (kind : Byte) (w : Work) (r : Result) (b : ReplyBody)
    (h : s.link.tx.length < 8) : (s.holding tag kind w).finish r b = s.answered tag kind r b := by
  simp [State.finish, State.holding, State.answered, h]

/-- The stage of a request in hand. -/
theorem State.setWork_holding (s : State) (tag : Tag) (kind : Byte) (w w' : Work) :
    (s.holding tag kind w).setWork w' = s.holding tag kind w' := rfl

/-- A command is carried out while RESET is not held low. -/
theorem State.awake_of_awake {s : State} (h : s.inReset = false) (f : State → State) : s.awake f = .next (f s) := by
  simp [State.awake, h]

/-- A job handed to a settled port, other than a write-back or a census read. -/
theorem State.enqueue_withJob {s : State} (h : s.port.job = none → s.port.queue = []) (hp : s.power.state = .normal) (j : Job)
    (hj : j.isWriteBack = false) (hc : j.isCensus = false) : s.enqueue j = s.withJob j := by
  cases hjob : s.port.job with
  | some k => simp [State.enqueue, State.pump, State.setQueue, hjob, State.withJob]
  | none =>
    have hq := h hjob
    have hn : (s.setQueue (s.port.queue ++ [j])).nextJob = some j := by
      cases j <;>
        simp_all [State.nextJob, State.bestJob, State.isInstant, State.setQueue, Job.isCommit, Job.isRead, Job.isConf, Job.isWriteBack, Job.isCensus,
          firstLeast, List.find?]
    have hs : (s.setQueue (s.port.queue ++ [j])).port.job = none := hjob
    simp only [State.enqueue, State.pump, hn, hs]
    cases j <;>
      simp_all [State.startJob, State.takenSlot, State.withJob, State.setQueue, Job.isWriteBack, State.jobData,
        State.jobRecord, State.slot]
    all_goals rfl

/-- A requester that begins to wait for a queue place for the request in hand. -/
theorem State.awaitPlace_handConf (s : State) : s.awaitPlace .handConf = s.waitsForPlace := by
  unfold State.awaitPlace State.waitsForPlace State.setWaiting
  split <;> rfl

/-- The slot a change leaves, by the state it was in. -/
theorem State.change_slot (s : State) (i : Fin 128) (r : Rec) :
    (s.change i r).slot i =
      match (s.slot i).state with
      | .clean => { s.slot i with content := some r, state := .dirty, dirtySince := s.now, emergencyFailed := false }
      | .writing => { s.slot i with content := some r, dirtyAgain := some ((s.slot i).dirtyAgain.getD s.now) }
      | _ => { s.slot i with content := some r } :=
  Vector.getElem_set_self i.isLt

/-- What a change does to its slot, whatever the port holds. -/
theorem State.change_dirtied (s : State) (i : Fin 128) (r : Rec) (taken : Prop)
    (h : (s.slot i).state = .clean ∨ (s.slot i).state = .dirty ∨ (s.slot i).state = .writing) :
    (s.slot i).dirtied ((s.change i r).slot i) s.clock.seconds taken r := by
  rw [State.change_slot]
  rcases h with h | h | h <;> simp [Slot.dirtied, State.now, h]

/-- A change makes its slot most recent and touches no other. -/
theorem State.change_recency (s : State) (i : Fin 128) (r : Rec) :
    (s.change i r).cache.recency = i :: s.cache.recency.erase i := rfl
theorem State.change_other (s : State) (i j : Fin 128) (r : Rec) (h : j ≠ i) : (s.change i r).slot j = s.slot j := by
  have h' : i.val ≠ j.val := fun e => h (Fin.ext e.symm)
  simp [State.change, State.touch, State.setSlot, State.slot, Vector.getElem_set_ne, h']

/-- A condition judged on the router, outside the reading of the configuration area or in it. -/
theorem FaultEntry.judged_of_present {e : FaultEntry} (h : e.present = true) (b : Bool) :
    e.judged b = { e with present := b } := by
  simp [FaultEntry.judged, h]

/-- With no requester waiting for a place, none is served. -/
theorem State.servePlaces_nil {s : State} (h : s.port.waiting = []) (asks : Bool) : s.servePlaces asks = s := by
  simp [State.servePlaces, h]

/-- A host request that alone waits, its miss unable to start, does not ask again where no job has completed and no hold has
ended (R34). -/
theorem State.servePlaces_stuck {s : State} (h : s.port.waiting = [.handMiss]) : s.servePlaces false = s := by
  simp [State.servePlaces, State.awaitPlace, State.setWaiting, h]
  rw [← h]

/-- A configuration request that alone waits is left unjudged while no place is free, whatever has ended (R21). -/
theorem State.servePlaces_full {s : State} {req : ConfReq} (h : s.port.waiting = [.handConf])
    (hw : s.work = some (.confPlace req)) (hp : s.hasPlace = false) (asks : Bool) : s.servePlaces asks = s := by
  have hw' : (s.setWaiting []).work = some (.confPlace req) := hw
  have hp' : (s.setWaiting []).hasPlace = false := hp
  have back : (s.setWaiting []).awaitPlace .handConf = s := by
    simp [State.awaitPlace, State.setWaiting]
    rw [← h]
  simp [State.servePlaces, h, State.serve, hw', hp', back]

/-- An entry that has no hold has none that an answer could end (R34, R37). -/
theorem State.holdEnded_of_none {s : State} {line : Fin 4} {drop : Nat} (h : s.holdSlots line drop = []) (t : State) (b : Bool) :
    s.holdEnded t line drop b = false := by
  simp [State.holdEnded, h]

/-- A new offer of an entry that has a hold ends it (R37, R57). -/
theorem State.holdEnded_of_superseded {s : State} {line : Fin 4} {drop : Nat} (h : s.holdSlots line drop ≠ []) (t : State) :
    s.holdEnded t line drop true = true := by
  cases hl : s.holdSlots line drop with
  | nil => exact absurd hl h
  | cons i is => simp [State.holdEnded, hl]

/-- The CANCEL of a DECIDED offer is answered CANCELLED where that is remembered, and TOO_LATE else (R60). -/
theorem cancelAnswer_kind (v : Verdict) : (cancelAnswer v).kind = if v.kind = .cancelled then .cancelled else .tooLate := by
  unfold cancelAnswer; split <;> simp_all [mkVerdict]

/-- Where no record leaves or enters, the mustered counts stay. -/
theorem Muster.movedTo_self (m : Muster) : m.movedTo m none none := by simp [Muster.movedTo]

end Sys2Proof.Machine
end

