-- ==== Sys2Proof/Tests/Slice0.lean ====
section
/-! SUPPORT. Tests: what the spec's own figures say of the formats and the arithmetic, ill-formed commands that WellFormed
refuses, and for each statement a state and operands that meet its hypotheses together (`witness_…`). -/
namespace Sys2Proof.Tests
open Sys2Proof Sys2Proof.Machine
set_option Elab.async false

/-! ## A running part -/

/-- A guest aboard, with an active card, a cabin, a folio and package plan 1. -/
def holder : Guest :=
  { Guest.blank with
    status := .active, cabins := [1201], lastDay := 100, card0 := some { id := 0xC1, state := .active }, folio := some 3
    plan := 1, presence := .aboard, station := 2 }

def account : Folio := { Folio.blank with status := .open, limit := 100000, standing := .under }

/-- A CLEAN slot holding a record. -/
def cached (k : RecKey) (r : Rec) : Slot := { Slot.blank with state := .clean, key := some k, content := some r }

/-- A BOUND reader of line 0 in binding slot drop − 1. -/
def reader (drop : Nat) (kind : ReaderKind) (slot : Fin 192) : Entry :=
  { line := 0, drop := drop, kind := kind, serial := BitVec.ofNat 32 drop, binding := .bound slot, poll := .fast, quiet := 0
    silent := 0, lastSeq := none, disposition := .nothing, remembered := none, outgoing := none
    trail := if kind = .lock then some { entries := [], next := 0 } else none }

def binding (drop : Nat) (kind : ReaderKind) (locus : Nat) : Option Binding :=
  some { serial := BitVec.ofNat 32 drop, kind := kind, profile := 0, locus := locus }

/-- A SERVING line. -/
def serving : Line := { Line.blank with state := .serving, check := some .good, enumerated := true }

/-- The part in SERVICE after start-up, the clock set: guest 7 and folio 3 cached, line 0 SERVING with a reader of each kind,
lane 1 mapped to site 1, which is OPEN, and the port idle. -/
def up : State :=
  { State.reset with
    startUp := { phase := .running, defaulted := 0, censusEnded := true, bringUp := Vector.replicate 4 none }
    clock := { State.reset.clock with seconds := 1000, isSet := true }
    bindings := ((((State.reset.bindings.set 0 (binding 1 .lock 1201)).set 1 (binding 2 .bar 5)).set 2
      (binding 3 .laneOut 1)).set 3 (binding 4 .laneIn 1)).set 4 (binding 5 .muster 3)
    index := [{ card := 0xC1, record := 7, slot := 0 }]
    cache := { State.reset.cache with
      slots := (State.reset.cache.slots.set 0 (cached (.guest 7) (.guest holder))).set 1
        (cached (.folio 3) (.folio account))
      recency := [0, 1] }
    port := { State.reset.port with job := none }
    lines := State.reset.lines.set 0 serving
    entries := [reader 1 .lock 0, reader 2 .bar 1, reader 3 .laneOut 2, reader 4 .laneIn 3, reader 5 .muster 4]
    landing := { State.reset.landing with
      aboardGuest := 1, stations := State.reset.landing.stations.set 2 1
      aboard := [{ record := 7, category := .guest, station := 2, mustered := false }]
      sites := State.reset.landing.sites.set 0 { Site.blank with state := .open }
      lanes := State.reset.landing.lanes.set 0 (some 0) }
    router := { State.reset.router with
      entries := FaultPlan.defaults.map fun p => { present := false, raised := false, count := 0, plan := p }
      deferred := [] } }

/-- `up` with a turn of line 0 in progress. -/
def calling (drop : Nat) : State :=
  { up with lines := up.lines.set 0 { serving with turn := some (.call drop), sent := some (.call drop) } }

/-- `up` with a job in progress at the port, with its record and the block it writes. -/
def working (j : Job) (k : Option RecKey) (data : List Byte) : State :=
  { up with port := { up.port with job := some j, record := k, data := data } }

/-- `up` with a request in hand. -/
def inHand (s : State) (kind : Byte) (w : Work) : State :=
  { s with link := { s.link with inHand := some { tag := 9, kind := kind, work := w } } }

/-- A state with slot i replaced. -/
def withSlot (s : State) (i : Fin 128) (x : Slot) : State := s.setSlot i x

/-- The next state of a command; the state itself where it stops. -/
def run1 (s : State) (c : Instr) : State :=
  match exec c s with
  | .next t => t
  | _ => s

theorem up_takes : up.takesRequest := by unfold State.takesRequest; decide
theorem up_serves : up.servesRequest := ⟨up_takes, by decide⟩
theorem up_settled : up.portSettled := by unfold State.portSettled; decide
theorem up_free : up.placeFree := by unfold State.placeFree; decide

/-! ## Well-formed bodies to vary -/

def aGuestPut : GuestPut :=
  { record := 7, status := 1, category := 0, privileges := 0, cabins := [1201], firstDay := 0, lastDay := 100
    folio := some 3, plan := 1, station := 3, resetAllowance := 0 }
def aCardRef : CardRef := { record := 7, slot := 1, card := 0xC2 }
def aPlanPut : PlanPut := { plan := 1, classes := [3, 4], cap := 1500, allowance := 15 }
def aSettingsPut : SettingsPut :=
  { rollover := some 4, flushAge := none, roundLimit := none, linkSilence := none, escalation := none }
def aFolioPut : FolioPut :=
  { folio := 3, status := 0, limit := 50000, floorAllowance := 2500, balance := none, clear := none }
def aBindPut : BindPut := { serial := 1, kind := 1, profile := 2, locus := 1202 }
def aProfilePut : ProfilePut :=
  { profile := 4, openTime := 5, mask := 1, rate := 1800, priceCeiling := 0, qtyLimit := 99, offlineCeiling := 0
    maskPrice := 0, maskQty := 1 }

/-! ## Figures of the spec -/

/-- R201: over "123456789" the check word is 0x29B1. -/
theorem test_crc16_check_figure :
    crc16 [0x31, 0x32, 0x33, 0x34, 0x35, 0x36, 0x37, 0x38, 0x39] = 0x29B1 := by decide +kernel

/-- 12.2: 39 request kinds; RESUME, the third of its group, is 0x82. -/
theorem test_request_kinds : requestKinds.length = 39 ∧ (requestOf (.resume 5 true)).map (·.2) = some 0x82 := by decide

/-- 1.7: the computed days of the worked case. -/
theorem test_computed_day_figures :
    computedDay 1052000 60 5 = 12 ∧ computedDay 1053000 0 5 = 11 ∧ computedDay 1054800 0 5 = 12
    ∧ computedDay 1060200 0 5 = 12 ∧ computedDay 1141199 0 5 = 12 ∧ computedDay 1141200 0 5 = 13 := by decide

/-- Plan 2 of the worked case 6.10. -/
def plan2 : Plan := { covered := classSet [3, 4], cap := 1500, allowance := 15 }

/-- 6.10: offer 60's figures: total 4,797, covered 2, remaining 0, COVER_PARTIAL and ROUNDED. -/
theorem test_sale_figures :
    (let v := priceSale (some plan2) 13 1800
       [{ cls := 3, price := 1400, qty := 2 }, { cls := 3, price := 1800, qty := 1 }, { cls := 12, price := 2265, qty := 1 }]
     (v.subtotal, v.service, v.total, v.covered, v.remaining, v.flags) = (4065, 732, 4797, 2, some 0, 0b001100)) := by
  decide

/-- 6.10: offer 62 on the next day: nothing charged, one unit covered, 14 remaining, no flag. -/
theorem test_sale_figures_next_day :
    (let v := priceSale (some plan2) 0 1800 [{ cls := 4, price := 1200, qty := 1 }]
     (v.total, v.covered, v.remaining, v.flags) = (0, 1, some 14, 0)) := by decide

/-- 6.11: the largest sale. -/
theorem test_sale_limit_figures :
    (let v := priceSale none 0 3000 (List.replicate 12 { cls := 20, price := 99999, qty := 99 })
     (v.subtotal, v.service, v.total) = (118798812, 35639644, 154438456)) := by decide

/-! ## Ill-formed commands -/

theorem test_wf_guestPut_record : (Instr.guestPut 1 (some { aGuestPut with record := 65536 })).wf = false := by decide
theorem test_wf_guestPut_cabin : (Instr.guestPut 1 (some { aGuestPut with cabins := [70000] })).wf = false := by decide
theorem test_wf_guestGet : (Instr.guestGet 1 (some 65536)).wf = false := by decide
theorem test_wf_cardAdd : (Instr.cardAdd 1 (some { aCardRef with slot := 256 })).wf = false := by decide
theorem test_wf_planPut : (Instr.planPut 1 (some { aPlanPut with classes := [256] })).wf = false := by decide
theorem test_wf_setClock : (Instr.setClock 1 (some { seconds := some 4294967296, offset := none })).wf = false := by decide
theorem test_wf_setClock_offset : (Instr.setClock 1 (some { seconds := none, offset := some 32768 })).wf = false := by decide
theorem test_wf_settingsPut : (Instr.settingsPut 1 (some { aSettingsPut with rollover := some 256 })).wf = false := by decide
theorem test_wf_folioPut : (Instr.folioPut 1 (some { aFolioPut with limit := 4294967296 })).wf = false := by decide
theorem test_wf_folioPut_balance : (Instr.folioPut 1 (some { aFolioPut with balance := some 2147483648 })).wf = false := by
  decide
theorem test_wf_folioSettle : (Instr.folioSettle 1 (some { folio := 1, amount := -2147483649 })).wf = false := by decide
theorem test_wf_bindPut : (Instr.bindPut 1 (some { aBindPut with kind := 256 })).wf = false := by decide
theorem test_wf_profilePut : (Instr.profilePut 1 (some { aProfilePut with openTime := 256 })).wf = false := by decide
theorem test_wf_readerList : (Instr.readerList 1 (some (.other 2))).wf = false := by decide
theorem test_wf_readerGet : (Instr.readerGet 1 (some (.place 0 256))).wf = false := by decide
theorem test_wf_lineCheck : (Instr.lineCheck 1 (some 256)).wf = false := by decide
theorem test_wf_presenceSet : (Instr.presenceSet 1 (some { record := 1, presence := 256, site := none })).wf = false := by
  decide
theorem test_wf_siteOpen : (Instr.siteOpen 1 (some { site := 1, lanes := [256] })).wf = false := by decide
theorem test_wf_siteLastCall : (Instr.siteLastCall 1 (some { site := 256, deadline := 0 })).wf = false := by decide
theorem test_wf_faultPlanPut : (Instr.faultPlanPut 1 (some [(1, 256)])).wf = false := by decide
theorem test_wf_discard : (Instr.hostFrameDiscard (.oversize 1024)).wf = false := by decide
theorem test_wf_drop : (Instr.quietCount 0 49).wf = false := by decide
theorem test_wf_offer : (Instr.offer 0 0 1 1 (some [{ cls := 0, price := 16777216, qty := 1 }])).wf = false := by decide
theorem test_wf_well_formed :
    (Instr.offer 0 0 1 1 (some [{ cls := 31, price := 99999, qty := 99 }])).wf = true ∧ (Instr.quietCount 0 48).wf = true
    ∧ (Instr.guestPut 1 (some aGuestPut)).wf = true ∧ (Instr.profilePut 1 (some aProfilePut)).wf = true := by decide

/-! ## Witnesses: the machine as a whole, formats, host link -/

/-- `up` with a command waiting. -/
def waiting (c : Instr) : State := { up with pending := [c] }

/-- `up` after a start byte. -/
def started : State := { up with link := { up.link with receiver := .assembling } }

theorem witness_StepTakesTheFrontCommand : State.reset.pending = [] := rfl

theorem witness_EveryStepKeepsMemorySafe :
    (waiting .startByte).memorySafe ∧ step (waiting .startByte) = .next (started) :=
  ⟨by unfold State.memorySafe Port.fits; decide +kernel, rfl⟩

theorem witness_EveryStepKeepsOutputsSafe :
    (waiting .startByte).outputsSafe ∧ step (waiting .startByte) = .next (started) :=
  ⟨by unfold State.outputsSafe; decide +kernel, rfl⟩

theorem witness_EveryStepKeepsIndexSafe :
    (waiting .startByte).indexSafe ∧ step (waiting .startByte) = .next (started) :=
  ⟨by unfold State.indexSafe; decide +kernel, rfl⟩

theorem witness_StateChangesAtItsOwnCommands :
    exec .startByte up = .next started
    ∧ PlaceWaiter.handConf ∉ up.port.waiting := ⟨rfl, by decide⟩

/-- What the slots of `up` name. -/
theorem up_slots : ∀ i : Fin 128,
    (up.slot i).key = (if i = 0 then some (.guest 7) else if i = 1 then some (.folio 3) else none)
    ∧ (up.slot i).incoming = none ∧ ((up.slot i).state = .empty ↔ i ≠ 0 ∧ i ≠ 1) := by decide +kernel

theorem up_cacheSafe : (waiting .startByte).cacheSafe := by
  show (∀ i : Fin 128, (up.slot i).state = .empty → ∀ k : RecKey, ¬(up.slot i).names k)
    ∧ (∀ i : Fin 128, (up.slot i).state ≠ .empty → (up.slot i).key ≠ none ∧ i ∈ up.cache.recency)
    ∧ (∀ (i j : Fin 128) (k : RecKey), (up.slot i).names k → (up.slot j).names k → i = j)
    ∧ (∀ (i : Fin 128) (k : RecKey), (up.slot i).key = some k → (up.slot i).incoming ≠ some k)
    ∧ up.cache.recency.Nodup
  refine ⟨?_, by decide +kernel, ?_, ?_, by decide⟩
  · intro i h k n
    have a := (up_slots i).2.2.1 h
    rcases n with n | n
    · rw [(up_slots i).1, if_neg a.1, if_neg a.2] at n; cases n
    · rw [(up_slots i).2.1] at n; cases n
  · intro i j k n m
    have key : ∀ i : Fin 128, (up.slot i).names k → (k = .guest 7 → i = 0) ∧ (k = .folio 3 → i = 1) ∧ (k = .guest 7 ∨ k = .folio 3) := by
      intro i n
      rcases n with n | n
      · rw [(up_slots i).1] at n
        by_cases a : i = 0
        · rw [if_pos a] at n; cases n; simp [a]
        · rw [if_neg a] at n
          by_cases b : i = 1
          · rw [if_pos b] at n; cases n; simp [b]
          · rw [if_neg b] at n; cases n
      · rw [(up_slots i).2.1] at n; cases n
    rcases (key i n).2.2 with h | h
    · rw [(key i n).1 h, (key j m).1 h]
    · rw [(key i n).2.1 h, (key j m).2.1 h]
  · intro i k _ e; rw [(up_slots i).2.1] at e; cases e

theorem up_quiet : (waiting .startByte).quiet := by unfold State.quiet State.countsNothing; decide +kernel

theorem witness_EveryStepKeepsQuiet :
    (waiting .startByte).quiet ∧ step (waiting .startByte) = .next started := ⟨up_quiet, rfl⟩

theorem witness_EveryStepKeepsCacheSafe :
    (waiting .startByte).cacheSafe ∧ step (waiting .startByte) = .next started := ⟨up_cacheSafe, rfl⟩

theorem witness_EveryStepKeepsTableSafe :
    (waiting .startByte).tableSafe ∧ step (waiting .startByte) = .next started :=
  ⟨⟨by decide +kernel, by decide +kernel, by
      intro n run h
      have all : ∀ n : Fin 4, (waiting .startByte).lines[n].enumerating = none := by decide +kernel
      rw [all n] at h
      cases h⟩, rfl⟩

theorem witness_EveryStepKeepsJournalSafe :
    (waiting .startByte).quiet ∧ (waiting .startByte).journalSafe ∧ step (waiting .startByte) = .next started :=
  ⟨up_quiet, ⟨by decide, by decide, by decide, by intro run h; cases h⟩, rfl⟩

theorem up_countsSafe : up.countsSafe := by
  unfold State.countsSafe State.rosterSafe State.aboardSafe State.rosterWith State.aboardWith; decide +kernel

theorem witness_EveryStepKeepsCountsSafe :
    (waiting .startByte).quiet ∧ (waiting .startByte).countsSafe ∧ step (waiting .startByte) = .next started :=
  ⟨up_quiet, up_countsSafe, rfl⟩

theorem witness_RecordBlocksRoundTrip :
    ([0, 0] : List Byte).length = 2 ∧ ([0, 0] : List Byte) ≠ be 2 (crc16 [1]).toNat
    ∧ holder.inRange = true ∧ account.inRange = true
    ∧ ({ serial := 5138, time := 1, outlet := 6, line := 1, drop := 3, seq := 70, flags := 0, guest := 522, folio := 140
         subtotal := 3000, service := 0, total := 3000, covered := 1 } : Posting).inRange = true := by decide +kernel

theorem witness_ConfigurationBlocksRoundTrip :
    (Settings.blank.inRange = true ∧ Profile.blank.inRange = true ∧ plan2.inRange = true
      ∧ ((5139 : PostSerial) - 5101).toNat ≤ 2048 ∧ offsetInRange (-720) = true
      ∧ (∀ (n t : Fin 4), up.landing.lanes[n] = some t → up.landing.sites[t].state ≠ .closed))
    ∧ (∀ src : FaultSource, src.isLine = false → FaultPlan.defaults[src.index].isolate = false)
    ∧ (∀ b : Binding, some b ∈ binding 1 .lock 1201 :: List.replicate 15 none →
        b.serial ≠ 0 ∧ locusInRange b.kind b.locus = true)
    ∧ (∀ (n : Fin 4) (d : Nat), up.landing.sites[n].deadline = some d → d ≤ voyageMax) := by
  refine ⟨by decide +kernel, ?_, ?_, ?_⟩
  · intro src h; cases src <;> first | rfl | cases h
  · intro b h; simp [binding] at h; subst h; decide +kernel
  · intro n d h
    have all : ∀ m : Fin 4, up.landing.sites[m].deadline = none := by decide +kernel
    rw [all n] at h; cases h

/-- `up` in a muster. -/
def mustering : State := { up with muster := { up.muster with active := true, beginStamp := 900 } }
/-- `up` in MAINTENANCE. -/
def maintained : State := { up with straps := { up.straps with maintenance := true } }
/-- `up` in the emergency flush. -/
def flushing : State := { up with power := { up.power with state := .emergencyFlush } }

theorem witness_RequestsAreTestedInOrder :
    up.takesRequest ∧ maintained.takesRequest ∧ flushing.takesRequest ∧ flushing.power.state ≠ .normal
    ∧ requestOf (.resume 1 true) = some (1, 0x82) ∧ maintained.service = false ∧ (0x66 : Byte) ∈ serviceKinds
    ∧ requestOf (.census 1 true) = some (1, 0x66) ∧ up.service = true ∧ requestOf (.format 1 true) = some (1, 0x04)
    ∧ malformed (.guestGet 1 none) = true ∧ requestOf (.guestGet 1 none) = some (1, 0x20) ∧ malformed (.status 1 false) = true
    ∧ (0x99 : Byte) ∉ requestKinds := by
  unfold State.takesRequest; decide +kernel

def aReply : Reply := { tag := 1, kind := 0x01, result := .done, body := .empty }

theorem witness_FramesComeAndGo :
    ((inHand up 0x20 .judging).inReset = false ∧ (inHand up 0x20 .judging).link.inHand.isSome = true
      ∧ requestOf (.status 1 true) = some (1, 0x01) ∧ (0x99 : Byte) ∉ requestKinds ∧ (0x11 : Byte) ∈ requestKinds
      ∧ State.reset.inReset = false ∧ State.reset.startUp.phase = .readingConfig
      ∧ (Instr.settingsPut 1 (some aSettingsPut)).wf = true ∧ (frameOf (.settingsPut 1 (some aSettingsPut))).isSome = true
      ∧ ([0, 0] : List Byte) ≠ be 2 (crc16 [0, 0, 0, 1, 0x01]).toNat)
    ∧ (∀ n, DiscardReason.oversize 2000 = .oversize n → 1024 < n)
    ∧ (let s : State := { up with link := { up.link with tx := [aReply] } }
       s.inReset = false ∧ s.link.tx = aReply :: [] ∧ aReply.body = .empty
       ∧ s.link.inHand = none
       ∧ (inHand s 0x20 (.formed aReply)).link.inHand = some { tag := 9, kind := 0x20, work := .formed aReply }
       ∧ (inHand s 0x20 (.formed aReply)).link.tx = aReply :: []) := by
  refine ⟨by decide +kernel, ?_, by decide +kernel⟩
  rintro n ⟨⟩; decide

theorem witness_ReportsReplyAtOnce :
    up.takesRequest ∧ up.power.state = .normal ∧ up.service = true ∧ up.muster.active = false
    ∧ ({ up with muster := { up.muster with active := true } } : State).takesRequest
    ∧ up.entryAt 0 1 = some (reader 1 .lock 0) ∧ up.entryAt 1 48 = none
    ∧ up.find (.guest 7) = .hit 0 ∧ (up.slot 0).content = some (.guest holder)
    ∧ up.find (.folio 3) = .hit 1 ∧ (up.slot 1).content = some (.folio account) := by
  unfold State.takesRequest; decide +kernel

theorem witness_NewsTakesTheOldestEight : up.takesRequest := up_takes

theorem witness_FormatSetsEveryDurableValue :
    maintained.servesRequest ∧ maintained.service = false ∧ maintained.cache.flush = none := by
  unfold State.servesRequest State.takesRequest; decide +kernel

/-! ## Witnesses: clock, settings, records -/

/-- `up` with a LAST_CALL site 1 whose deadline stands. -/
def lastCalling (deadline : Nat) (maintenance : Bool) (power : PowerState) : State :=
  { up with
    straps := { up.straps with maintenance := maintenance }, power := { up.power with state := power }
    landing := { up.landing with
      sites := up.landing.sites.set 0 { state := .lastCall, deadline := some deadline, count := 0, due := false } } }

/-- R41, R45, R146, R156: a tick makes the flusher due in NORMAL alone, and a deadline it finds reached in SERVICE alone. -/
theorem test_tick_makes_due :
    let due (d : Nat) (m : Bool) (p : PowerState) :=
      let t := run1 (lastCalling d m p) .clockTick
      (t.clock.flusherDue, t.landing.sites.toList.map (·.due))
    due 1001 false .normal = (true, [true, false, false, false]) ∧ due 1002 false .normal = (true, [false, false, false, false])
    ∧ due 1001 true .normal = (true, [false, false, false, false])
    ∧ due 1001 false .haltedSafe = (false, [true, false, false, false]) := by decide +kernel

theorem witness_TickAdvancesSecondsAndDay :
    (∀ m : Bool, (lastCalling 1001 m .normal).inReset = false ∧ (lastCalling 1001 m .normal).service = !m
      ∧ (lastCalling 1001 m .emergencyFlush).power.state ≠ .normal ∧ (lastCalling 1001 m .emergencyFlush).inReset = false
      ∧ (lastCalling 1001 m .normal).clock.seconds = 1000 ∧ (lastCalling 1002 m .normal).inReset = false) ∧

    up.inReset = false ∧ ((0 : Int) + 60 * 0 - 3600 * 5 < 0) ∧ ((86400 : Int) + 60 * 0 - 3600 * 5) / 86400 ≤ 65535
    ∧ 65535 < ((5662310400 : Int) + 60 * 0 - 3600 * 0) / 86400
    ∧ computedDay 1001 0 5 ≤ up.clock.day
    ∧ ({ up with clock := { up.clock with seconds := 104399 } } : State).clock.day < computedDay 104400 0 5 := by
  decide +kernel

/-- `up` with the job queue full. -/
def crammed : State := { up with port := { up.port with job := some .commit, queue := List.replicate 16 .commit } }

theorem crammed_full : crammed.servesRequest ∧ 16 ≤ crammed.port.queue.length := by
  unfold State.servesRequest State.takesRequest; decide +kernel

/-- A SET_CLOCK in hand for a queue place, the job that will free one in progress, and a turn of line 0. -/
def awaitingPlace (f : SetClock) : State :=
  let s := inHand (working (.confWrite (.conf .sites) .unit) none []) 0x10 (.confPlace (.setClock f.seconds f.offset))
  { s with
    port := { s.port with queue := List.replicate 16 .commit, waiting := [.handConf] }
    lines := up.lines.set 0 { serving with turn := some (.call 1), sent := some (.call 1) } }

theorem witness_SetClockGoesInForce :
    (up.servesRequest ∧ up.placeFree ∧ up.portSettled
    ∧ (up.clock.seconds ≤ 2000 ∧ 999 < up.clock.seconds ∧ ((840 : Int) ≤ 840 ∧ (840 : Int) % 15 = 0) ∧ (7 : Int) % 15 ≠ 0))
    ∧ (crammed.servesRequest ∧ 16 ≤ crammed.port.queue.length)
    -- one in hand for a place, its seconds below the count by now and not
    ∧ (∀ f : SetClock, f = { seconds := some 900, offset := none } ∨ f = { seconds := some 2000, offset := some 60 } →
      (awaitingPlace f).inReset = false ∧ (awaitingPlace f).power.state = .normal ∧ (awaitingPlace f).cache.flush = none
      ∧ (awaitingPlace f).journal.commits.all (·.queued) = true ∧ (awaitingPlace f).link.tx.length < 8
      ∧ (awaitingPlace f).link.inHand
          = some { tag := 9, kind := 0x10, work := .confPlace (.setClock f.seconds f.offset) }
      ∧ (awaitingPlace f).port.job = some (.confWrite (.conf .sites) .unit)
      ∧ (awaitingPlace f).port.waiting = [.handConf] ∧ (awaitingPlace f).port.queue.length ≤ 16
      ∧ (∀ j ∈ (awaitingPlace f).port.queue, j = .commit)
      ∧ 16 ≤ (awaitingPlace f).port.queue.length ∧ (awaitingPlace f).port.job.isSome = true
      -- the answer of a turn, or a hold's expiry, while it waits
      ∧ (awaitingPlace f).calledEntry 0 = some (reader 1 .lock 0)
      ∧ (awaitingPlace f).work = some (.confPlace (.setClock f.seconds f.offset))) := by
  refine ⟨⟨up_serves, up_free, up_settled, by decide +kernel⟩, crammed_full, ?_⟩
  rintro f (rfl | rfl) <;> decide +kernel

theorem witness_SettingsPlansAndProfilesGoInForce :
    up.servesRequest ∧ up.placeFree ∧ up.portSettled
    ∧ (crammed.servesRequest ∧ 16 ≤ crammed.port.queue.length)
    -- a rollover hour that lets the day rise, and one that does not
    ∧ (let s : State := { up with clock := { up.clock with seconds := 86400 + 3600 * 4 } }
       aSettingsPut.rollover = some 4 ∧ s.settings.rollover ≠ 4 ∧ s.clock.day < computedDay s.clock.seconds s.clock.offset 4
       ∧ ¬s.clock.day < computedDay s.clock.seconds s.clock.offset 5)
    ∧ 15 < ({ aPlanPut with plan := 16 } : PlanPut).plan ∧ (∃ c ∈ ({ aPlanPut with classes := [32] } : PlanPut).classes, 31 < c)
    ∧ ({ aProfilePut with openTime := 0 } : ProfilePut).openTime = 0
    ∧ aSettingsPut ≠ { rollover := none, flushAge := none, roundLimit := none, linkSilence := none, escalation := none }
    ∧ (∀ v, aSettingsPut.rollover = some v → v ≤ 23) ∧ ¬(∀ v, some 24 = some v → v ≤ 23)
    ∧ aPlanPut.plan = (0 : Fin 15).val + 1 ∧ (∀ c ∈ aPlanPut.classes, c ≤ 31) ∧ aPlanPut.cap ≤ 99999
    ∧ aPlanPut.allowance ≤ 250 ∧ aProfilePut.profile = (4 : Fin 16).val ∧ 1 ≤ aProfilePut.openTime
    ∧ aProfilePut.openTime ≤ 15 ∧ aProfilePut.rate ≤ 3000 ∧ aProfilePut.priceCeiling ≤ 99999 ∧ 1 ≤ aProfilePut.qtyLimit
    ∧ aProfilePut.qtyLimit ≤ 99 ∧ aProfilePut.offlineCeiling ≤ 9999999 ∧ aProfilePut.maskPrice = false.toNat
    ∧ aProfilePut.maskQty = true.toNat :=
  ⟨up_serves, up_free, up_settled, crammed_full, by decide +kernel, by decide, ⟨32, by decide, by decide⟩, rfl, by decide,
    by intro v h; cases h; decide, by intro h; exact absurd (h 24 rfl) (by decide),
    by decide⟩


/-- A state whose job in progress found the memory silent, or not. -/
def atSilence (silent : Bool) (s : State) : State := { s with port := { s.port with silent := silent } }

/-- A settings write in progress for its owner. -/
def settingsWrite (owner : WriteOwner) : State :=
  inHand (working (.confWrite (.conf .settings) owner) none (up.targetBlock (.conf .settings))) 0x11 .confWrite

theorem witness_ConfigurationWritesEnd :
    ∀ owner : WriteOwner, (settingsWrite owner).inReset = false ∧ (settingsWrite owner).mem.wf = true
    ∧ (settingsWrite owner).port.job = some (.confWrite (.conf .settings) owner) ∧ (settingsWrite owner).port.waiting = []
    ∧ (settingsWrite owner).port.silent = false ∧ (settingsWrite owner).link.tx.length < 8
    ∧ (settingsWrite owner).link.inHand = some { tag := 9, kind := 0x11, work := .confWrite } := by
  intro owner; cases owner <;> decide +kernel

/-- A FORMAT at work, a record's write in progress. -/
def formatting (queue : List Job) (waiting : List PlaceWaiter) (run : FormatRun) : State :=
  let s := inHand (working (.confWrite (.record (.guest 3)) .format) none []) 0x04 (.format run)
  { s with port := { s.port with queue := queue, waiting := waiting } }

def aRun : FormatRun := { next := 100, outstanding := 17, written := 83, failed := 0, first := none, stopped := false }

theorem witness_FormatWritesItsBlocks :
    maintained.servesRequest ∧ maintained.service = false ∧ maintained.cache.flush = none ∧ maintained.port.job = none
    ∧ maintained.port.queue = []
    ∧ (∀ silent : Bool,
       let s := atSilence silent (formatting (List.replicate 16 (.confWrite (.record (.guest 4)) .format)) [.format] aRun)
       s.inReset = false ∧ s.power.state = .normal ∧ s.journal.commits = [] ∧ s.cache.flush = none ∧ s.port.silent = silent
       ∧ s.link.inHand = some { tag := 9, kind := 0x04, work := .format aRun } ∧ s.link.tx.length < 8
       ∧ s.port.job = some (.confWrite (.record (.guest 3)) .format) ∧ 1 ≤ aRun.outstanding
       ∧ s.landing.census.running = false ∧ formatTarget aRun.next = some (.record (.guest 51))
       ∧ s.port.waiting = [.format] ∧ s.port.queue.length = 16)
    ∧ (∀ silent : Bool, let s := atSilence silent (formatting [] [] { aRun with next := 3121, outstanding := 1 })
       s.port.silent = silent ∧ s.inReset = false ∧ s.port.waiting = [] ∧ s.journal.commits = [] ∧ s.landing.census.running = false)
    ∧ (∀ (left : Fin 2) (silent : Bool),
       (let s : State :=
          { atSilence silent (formatting [] [] { aRun with outstanding := left.val + 1, stopped := true }) with
            power := { state := .emergencyFlush, marks := none, restart := false } }
        s.inReset = false ∧ s.power.state = .emergencyFlush ∧ s.port.waiting = [] ∧ s.journal.commits = []
        ∧ s.landing.census.running = false)) := by
  unfold State.servesRequest State.takesRequest; decide +kernel

theorem up_finds_guest : up.find (.guest 7) = .hit 0 ∧ (up.slot 0).content = some (.guest holder) := by decide +kernel
theorem up_finds_folio : up.find (.folio 3) = .hit 1 ∧ (up.slot 1).content = some (.folio account) := by decide +kernel

/-- The fields of `aGuestPut`. -/
def aFields : GuestFields :=
  { status := .active, category := .guest, privileges := 0, cabins := [1201], firstDay := 0, lastDay := 100
    folio := some 3, plan := 1, station := 2, resetAllowance := false }

theorem witness_GuestPutReplacesTheCarriedFields :
    up.servesRequest ∧ up.portSettled
    ∧ 2047 < ({ aGuestPut with record := 2048 } : GuestPut).record ∧ 8 < ({ aGuestPut with station := 9 } : GuestPut).station
    -- a put that keeps the record in use, and one that vacates it
    ∧ (∀ v : GuestFields, v = aFields ∨ v = { aFields with status := .vacant } →
        (let f : GuestPut := { aGuestPut with status := v.status.code }
         f.record = (7 : Fin 2048).val ∧ f.status = v.status.code ∧ f.category = v.category.code
         ∧ f.privileges = v.privileges ∧ f.cabins = v.cabins ∧ f.firstDay = v.firstDay ∧ f.lastDay = v.lastDay
         ∧ f.folio = v.folio.map (·.val) ∧ f.plan = v.plan.val ∧ f.station = v.station.val + 1
         ∧ f.resetAllowance = v.resetAllowance.toNat ∧ v.cabins.length ≤ 3 ∧ v.cabins.Nodup
         ∧ (∀ c ∈ v.cabins, 1 ≤ c ∧ c ≤ 9999) ∧ v.firstDay ≤ v.lastDay ∧ v.lastDay ≤ 65535))
    ∧ holder.presence = .aboard
    ∧ up.find (.guest 7) = .hit 0 ∧ (up.slot 0).content = some (.guest holder)
    ∧ ((withSlot up 0 (cached (.guest 7) (.guest { holder with presence := .landed }))).slot 0).content
        = some (.guest { holder with presence := .landed }) := by
  refine ⟨up_serves, up_settled, by decide, by decide, ?_, by decide +kernel⟩
  rintro v (rfl | rfl) <;> decide

theorem witness_CardRequestsChangeOneSlot :
    up.servesRequest ∧ up.portSettled
    ∧ (up.service = true ∧ up.landing.census.running = false ∧ (7 : Fin 2048) ∉ up.landing.census.skipped
      ∧ up.find (.guest 7) = .hit 0 ∧ (up.slot 0).content = some (.guest holder) ∧ holder.status ≠ .vacant
      -- an empty slot, and an identity held here, elsewhere and nowhere
      ∧ holder.card 1 = none ∧ up.index.find? (fun y => decide (y.card = 0xC2)) = none
      ∧ holder.card 0 = some { id := 0xC1, state := .active }
      ∧ up.index.find? (fun y => decide (y.card = 0xC1)) = some { card := 0xC1, record := 7, slot := 0 }
      ∧ ¬((7 : Fin 2048) = 7 ∧ (0 : Fin 2) = 1))
    -- a LOST card and another identity in the slot, of a record in use and of a VACANT one
    ∧ ∀ vacant : Bool,
      (let g : Guest :=
         { holder with
           status := if vacant then .vacant else .active
           card0 := some { id := 0xC1, state := .lost }, card1 := some { id := 0xC3, state := .active } }
       let s := withSlot up 0 (cached (.guest 7) (.guest g))
       s.servesRequest ∧ s.find (.guest 7) = .hit 0 ∧ (s.slot 0).content = some (.guest g)
       ∧ g.card 0 = some { id := 0xC1, state := .lost } ∧ g.card 1 = some { id := 0xC3, state := .active }) := by
  refine ⟨up_serves, up_settled, by decide +kernel, ?_⟩
  unfold State.servesRequest State.takesRequest; decide +kernel

/-- `up` with every slot taken: all but slot 5 CLEAN with a commit pending, slot 5 as given. -/
def crowded (x : Slot) : State :=
  { up with cache := { up.cache with
      slots := Vector.ofFn fun (i : Fin 128) =>
        if i = 5 then x else
          { cached (.guest ⟨i.val + 100, by omega⟩) (.guest holder) with commitPending := 1 }
      recency := List.finRange 128 } }

/-- A request in hand whose miss no slot lets start, a turn of line 0 in progress; slot 5 is held to second 990. -/
def stuck : State :=
  let x : Slot := { cached (.guest 7) (.guest holder) with holds := [{ line := 0, drop := 1, key := .guest 7, expiry := 990 }] }
  inHand
    { crowded x with
      lines := up.lines.set 0 { serving with turn := some (.call 1), sent := some (.call 1) }
      cache := { (crowded x).cache with stalling := true }, port := { up.port with waiting := [.handMiss] } }
    0x20 (.record (.guestGet 9))

theorem stuck_waits :
    stuck.inReset = false ∧ stuck.power.state = .normal ∧ stuck.portSettled ∧ stuck.port.waiting = [.handMiss]
    ∧ stuck.journal.commits.all (·.queued) = true ∧ stuck.cache.flush = none ∧ stuck.refusedEarly (.guestGet 9) = false
    ∧ stuck.find (.guest 9) = .miss ∧ stuck.calledEntry 0 = some (reader 1 .lock 0) ∧ stuck.placeFree
    ∧ (∀ j : Fin 128, (stuck.slot j).state ≠ .empty ∧ (j ≠ 5 → (stuck.slot j).commitPending ≠ 0))
    ∧ (stuck.slot 5).holds = [{ line := 0, drop := 1, key := .guest 7, expiry := 990 }] ∧ (stuck.slot 5).state = .clean
    ∧ (stuck.slot 5).commitPending = 0
    ∧ stuck.cache.recency = (List.finRange 128).take 5 ++ 5 :: (List.finRange 128).drop 6
    ∧ (∀ j ∈ (List.finRange 128).drop 6, j ≠ 5) := by
  unfold State.portSettled State.placeFree; decide +kernel

theorem witness_MissesClaimASlot :
    -- a miss that waits to ask again, and a hold that has ended: `stuck_waits`
    stuck.link.inHand = some { tag := 9, kind := 0x20, work := .record (.guestGet 9) }
    ∧ ((let c : Instr := .guestGet 4 (some 9)
      requestOf c = some (4, 0x20) ∧ recordRequestOf c = some (.guestGet 9))
      ∧ recordRequestOf (.folioSettle 4 (some { folio := 9, amount := 1 })) = some (.folioSettle 9 1)
      ∧ up.refusedEarly (.guestGet 9) = false ∧ up.servesRequest ∧ up.portSettled ∧ up.placeFree
      -- a slot brings it in
      ∧ (withSlot up 5 { Slot.blank with state := .filling, key := some (.guest 9) }).find (.guest 9) = .join 5
      -- an EMPTY slot
      ∧ up.find (.guest 9) = .miss ∧ (up.slot 2).state = .empty ∧ (∀ j : Fin 128, j < 2 → (up.slot j).state ≠ .empty)
      -- no queue place
      ∧ 16 ≤ ({ up with port := { up.port with queue := List.replicate 16 (.fill 0) } } : State).port.queue.length)
    -- a CLEAN and a DIRTY victim, and none
    ∧ ∀ st : SlotState, st = .clean ∨ st = .dirty ∨ st = .writing →
      (crowded { cached (.guest 7) (.guest holder) with state := st }).find (.guest 9) = .miss
      ∧ (∀ j : Fin 128, ((crowded { cached (.guest 7) (.guest holder) with state := st }).slot j).state ≠ .empty
          ∧ (j ≠ 5 → ((crowded { cached (.guest 7) (.guest holder) with state := st }).slot j).commitPending ≠ 0)
          ∧ (j = 5 → ((crowded { cached (.guest 7) (.guest holder) with state := st }).slot j).state = st))
      ∧ (crowded { cached (.guest 7) (.guest holder) with state := st }).cache.recency
          = (List.finRange 128).take 5 ++ 5 :: (List.finRange 128).drop 6 := by
  unfold State.servesRequest State.takesRequest State.portSettled State.placeFree
  refine ⟨rfl, by decide +kernel, ?_⟩
  rintro st (rfl | rfl | rfl) <;> decide +kernel

theorem witness_CountsMoveWithTheHolder :
    up.countsSafe ∧ mustering.countsSafe ∧ mustering.counted 7 = true
    -- a holder mustered by a stamp of an earlier muster, whom no count has
    ∧ (mustering.muster.has { holder with musterStamp := some 950, station := 3 } = true
      ∧ mustering.landing.aboardOf 7 = some { record := 7, category := .guest, station := 2, mustered := false })
    ∧ (up.counted 7 = true ∧ up.landing.sites[(0 : Fin 4)].state ≠ .closed ∧ maintained.counted 7 = false
      ∧ up.landing.aboardOf 7 = some { record := 7, category := .guest, station := 2, mustered := false }) := by
  refine ⟨up_countsSafe, ?_, by decide +kernel, by decide +kernel, by decide +kernel⟩
  unfold State.countsSafe State.rosterSafe State.aboardSafe State.rosterWith State.aboardWith; decide +kernel

theorem witness_FolioRequestsRecompareTheStanding :
    up.servesRequest ∧ up.portSettled ∧ up.find (.folio 3) = .hit 1 ∧ (up.slot 1).content = some (.folio account)
    ∧ (∀ b, aFolioPut.balance = some b → -99999999 ≤ b ∧ b ≤ 99999999) ∧ (∀ b, aFolioPut.clear = some b → b < 64)
    ∧ (FolioStatus.ofCode aFolioPut.status = some .open ∧ aFolioPut.limit ≤ 98999999 ∧ aFolioPut.floorAllowance ≤ 999999
      ∧ (up.slot 1).commitPending = 0 ∧ account.balance + -500 ≤ 99999999 ∧ -99999999 ≤ account.balance + -500
      -- fields off their ranges, a balance over a pending commit, and amounts that carry the balance off its range
      ∧ 98999999 < ({ aFolioPut with limit := 99000000 } : FolioPut).limit
      ∧ ({ aFolioPut with balance := some 5 } : FolioPut).balance.isSome = true
      ∧ 0 < ((withSlot up 1 { cached (.folio 3) (.folio account) with commitPending := 1 }).slot 1).commitPending
      ∧ 99999999 < account.balance + 100000000 ∧ account.balance + -100000000 < -99999999) := by
  refine ⟨up_serves, up_settled, up_finds_folio.1, up_finds_folio.2, ?_, ?_, by decide +kernel⟩ <;> rintro b ⟨⟩

/-! ## Witnesses: bindings and deck lines -/

/-- `up` with every binding slot taken. -/
def boundFull : State := { up with bindings := Vector.replicate 192 (binding 1 .lock 1201) }

theorem witness_BindingChangesReachTheTable :
    up.servesRequest ∧ up.placeFree ∧ up.portSettled
    ∧ (readerKindOfCode aBindPut.kind = some .lock ∧ locusInRange .lock aBindPut.locus = true ∧ up.bindingSlot 1 = some 0
      ∧ up.bindingSlot 0x99 = none ∧ up.bindings[(5 : Fin 192)] = none ∧ (∀ j : Fin 192, j < 5 → up.bindings[j] ≠ none))
    ∧ (crammed.servesRequest ∧ 16 ≤ crammed.port.queue.length ∧ crammed.bindingSlot 1 = some 0)
    -- fields off their ranges, a serial that no slot holds, a full store
    ∧ (readerKindOfCode 6 = none ∧ readerKindOfCode 2 = some .bar ∧ 63 < ({ aBindPut with kind := 2, locus := 64 } : BindPut).locus
      ∧ (∀ j : Fin 192, up.bindings[j].map (·.serial) ≠ some 0x99) ∧ boundFull.servesRequest
      ∧ (∀ j : Fin 192, boundFull.bindings[j] ≠ none ∧ boundFull.bindings[j].map (·.serial) ≠ some 0x99))
    ∧ ∀ (j : Fin 192) (b : Binding), up.bindings[j] = some b → b.serial = 1 → j = 0 := by
  refine ⟨up_serves, up_free, up_settled, by decide +kernel, ⟨crammed_full.1, crammed_full.2, by decide +kernel⟩, ?_, ?_⟩
  · unfold State.servesRequest State.takesRequest; decide +kernel
  intro j b h e
  have all : ∀ i : Fin 192, up.bindings[i].map (·.serial) = some 1 → i = 0 := by decide +kernel
  exact all j (by rw [h]; simp [e])

/-- `up` with line 0's controller replaced. -/
def withLine (l : Line) : State := { up with lines := up.lines.set 0 l }

/-- A verdict on its way to the lock. -/
def denied : Outgoing := { seq := 4, verdict := mkVerdict .deny .noAccess, deliveries := 0, expiry := 1003 }
/-- `up` with the lock's entry changed. -/
def withLock (e : Entry) (l : Line) : State :=
  { withLine l with entries := e :: up.entries.drop 1 }

theorem witness_TurnsGoDownTheLine :
    up.inReset = false ∧ up.mayCall 0 = true ∧ up.livePriority 0 = []
    ∧ (up.entries.Pairwise fun a b => a.line = b.line → a.drop < b.drop)
    ∧ reader 1 .lock 0 ∈ up.entries ∧ up.lines[(0 : Fin 4)].lastDrop < 1 ∧ (reader 1 .lock 0).poll = .fast
    ∧ (reader 1 .lock 0).outgoing = none
    ∧ (∀ x ∈ up.entries, x.line = 0 → up.lines[(0 : Fin 4)].lastDrop < x.drop → ¬x.drop < 1)
    ∧ (let s := withLine { serving with lastDrop := 5, roundBegun := true }
       s.mayCall 0 = true ∧ s.livePriority 0 = [] ∧ ∀ x ∈ s.entries, ¬s.lines[(0 : Fin 4)].lastDrop < x.drop)
    ∧ (let e : Entry := { reader 1 .lock 0 with outgoing := some denied }
       let s := withLock e { serving with priority := [1] }
       let r := withLock e serving
       s.inReset = false ∧ s.mayCall 0 = true ∧ s.entryAt 0 1 = some e ∧ e.line = 0 ∧ s.livePriority 0 = [1]
       ∧ r.inReset = false ∧ r.mayCall 0 = true ∧ r.entryAt 0 1 = some e ∧ r.livePriority 0 = [] ∧ r.nextRound 0 = some e) := by
  decide +kernel

theorem witness_TurnsEndAsTheyAreAnswered :
    (let e : Entry := { reader 1 .lock 0 with outgoing := some denied }
     let s := withLock e { serving with turn := some (.verdict 1 4 denied.verdict) }
     (calling 1).calledEntry 0 = some (reader 1 .lock 0) ∧ (calling 1).inReset = false ∧ s.calledEntry 0 = some e
     ∧ s.lines[(0 : Fin 4)].turn = some (.verdict 1 4 denied.verdict)
     ∧ s.port.waiting = [] ∧ s.journal.commits = [] ∧ s.power.state = .normal ∧ s.portSettled ∧ s.cache.flush = none)
    -- an answer from an entry that is LOST
    ∧ (let e : Entry := { reader 1 .lock 0 with poll := .lost, silent := 3 }
       let s := withLock e { serving with turn := some (.call 1) }
       s.awaitsAnswer 0 e ∧ e.poll = .lost ∧ s.notices.items.length < 64
       ∧ ((none : Option (List SaleLine)).isSome = true ↔ e.kind = .bar)) := by
  unfold State.portSettled State.awaitsAnswer; decide +kernel

theorem witness_CountsReachedChangeTheState :
    (let q : Entry := { reader 1 .lock 0 with quiet := 64 }
     let r : Entry := { reader 1 .lock 0 with silent := 3 }
     let s := withLock q { serving with garbleRun := 8 }
     s.inReset = false ∧ s.entryAt 0 1 = some q ∧ (∀ x ∈ s.entries, x.line = 0 → x.drop = 1 → x = q) ∧ q.poll = .fast
     ∧ 64 ≤ q.quiet ∧ s.lines[(0 : Fin 4)].state = .serving ∧ 8 ≤ s.lines[(0 : Fin 4)].garbleRun
     ∧ s.lines[(0 : Fin 4)].ops = [] ∧ s.lines[(0 : Fin 4)].isolating = none
     ∧ (withLock r serving).entryAt 0 1 = some r ∧ (∀ x ∈ (withLock r serving).entries, x.line = 0 → x.drop = 1 → x = r)
     ∧ r.poll ≠ .lost ∧ 3 ≤ r.silent) := by decide +kernel

theorem witness_RepeatsAndCancelsFollowTheOfferMemory :
    (let e : Entry :=
       { reader 1 .lock 0 with lastSeq := some 4, disposition := .decided, remembered := some denied.verdict }
     (withLock e serving).entryAt e.line e.drop = some e ∧ e.lastSeq = some 4 ∧ e.disposition = .decided
     ∧ e.remembered = some denied.verdict)
    ∧ (let l : Line := { serving with turn := some (.call 2) }
       let at' (x : Entry) : State := { withLine l with entries := [x] }
       let e (d : Disposition) (v : Verdict) : Entry :=
         { reader 2 .bar 1 with lastSeq := some 4, disposition := d, remembered := some v }
       let sold : Verdict := { kind := .accept, reason := .none, result := .accept 500 1 (some 3) 0 7 }
       let refused := mkVerdict .refuse .recordFault (.lineIndex 0)
       (∀ (d : Disposition) (v : Verdict), v = mkVerdict .cancelled ∨ v = sold ∨ v = refused →
          (at' (e d v)).inReset = false ∧ (at' (e d v)).calledEntry 0 = some (e d v)
          ∧ (at' (e d v)).port.waiting = []
          ∧ (at' (e d v)).journal.commits.all (·.queued) = true)
       ∧ sold.kind ≠ .cancelled ∧ refused.kind ≠ .cancelled ∧ refused.kind ≠ .accept
       ∧ (e .decided refused).lastSeq ≠ some 5) := by
  refine ⟨by decide +kernel, ?_, by decide⟩
  intro d v h; cases d <;> rcases h with rfl | rfl | rfl <;> decide +kernel

/-- `up` in start-up, its census and the bring-ups of the lines but line 0 ended. -/
def bringingUp (l : Line) : State :=
  { withLine l with
    startUp :=
      { phase := .bringingUp, defaulted := 1, censusEnded := true
        bringUp := #v[none, some (.enumerated 26 .complete), some (.isolated (some .shorted)), some (.enumerated 40 .complete)] } }

theorem witness_AssignAndJoinMakeAnEntry :
    (let s := withLine { serving with state := .enumerating, enumerating := some { drop := 6, tries := 0, silences := 0 } }
     s.inReset = false ∧ s.lines[(0 : Fin 4)].state = .enumerating ∧ s.lines[(0 : Fin 4)].turn = none
     ∧ s.lines[(0 : Fin 4)].isolating = none)
    -- a try for a drop and the ASSIGN 0 probe, the first and the fourth, with no silence before and with one
    ∧ ∀ drop ∈ [0, 6, 48], ∀ tries ∈ [1, 4], ∀ silences ∈ [0, 1],
      (let run : EnumRun := { drop := drop, tries := tries, silences := silences }
       let s := withLine { serving with state := .enumerating, turn := some (.assign drop), enumerating := some run }
       s.inReset = false ∧ s.lines[(0 : Fin 4)].enumerating = some run ∧ s.lines[(0 : Fin 4)].turn = some (.assign run.drop)
       ∧ s.lines[(0 : Fin 4)].isolating = none ∧ s.notices.items.length < 63)
    -- the last bring-up of start-up, and one before the last
    ∧ (let s := bringingUp { serving with
         state := .enumerating, turn := some (.assign 6), enumerating := some { drop := 6, tries := 4, silences := 1 } }
       s.inReset = false ∧ s.startUp.phase = .bringingUp ∧ s.startUp.bringUp[(0 : Fin 4)] = none
       ∧ s.startUp.censusEnded = true ∧ (∀ m : Fin 4, m ≠ 0 → s.startUp.bringUp[m] ≠ none) ∧ s.notices.items.length < 56)
    ∧ (let s : State := { bringingUp serving with startUp := { (bringingUp serving).startUp with censusEnded := false } }
       s.startUp.phase = .bringingUp ∧ s.startUp.bringUp[(0 : Fin 4)] = none ∧ ¬s.startUp.censusEnded = true) := by
  decide +kernel

theorem witness_LineRequestsWaitForTheTurn :
    up.servesRequest ∧ up.service = true
    ∧ (∀ st : LineState, (withLine { serving with state := st }).servesRequest
        ∧ (withLine { serving with state := st }).service = true
        ∧ (withLine { serving with state := st }).lines[(0 : Fin 4)].state = st) := by
  unfold State.servesRequest State.takesRequest
  refine ⟨by decide +kernel, by decide, ?_⟩
  intro st; cases st <;> decide +kernel

theorem witness_LineWorkBeginsBetweenTurns :
    (∀ st : LineState, st = .serving ∨ st = .isolated →
      (let s := withLine { serving with state := st, ops := [.check .request, .enumerate] }
       s.inReset = false ∧ s.lines[(0 : Fin 4)].ops = .check .request :: [.enumerate] ∧ s.lines[(0 : Fin 4)].turn = none
       ∧ s.lines[(0 : Fin 4)].isolating = none ∧ s.lines[(0 : Fin 4)].state = st))
    ∧ (∀ st : LineState, st = .serving ∨ st = .checking →
      (let s := withLine { serving with state := st, ops := [.enumerate] }
       s.inReset = false ∧ s.lines[(0 : Fin 4)].ops = .enumerate :: [] ∧ s.lines[(0 : Fin 4)].turn = none
       ∧ s.lines[(0 : Fin 4)].isolating = none ∧ s.lines[(0 : Fin 4)].checking = none ∧ s.port.waiting = []
       ∧ s.lines[(0 : Fin 4)].state = st))
    ∧ ∀ st : LineState,
      (let r := withLine { serving with state := st, isolating := some .request }
       r.inReset = false ∧ r.lines[(0 : Fin 4)].isolating = some .request ∧ r.lines[(0 : Fin 4)].turn = none
       ∧ r.startUp.phase ≠ .bringingUp)
      ∧ (let r := bringingUp { serving with state := st, ops := [.enumerate], isolating := some .request }
         r.lines[(0 : Fin 4)].isolating = some .request ∧ r.startUp.bringUp[(0 : Fin 4)] = none
         ∧ .enumerate ∈ r.lines[(0 : Fin 4)].ops) := by
  refine ⟨?_, ?_, ?_⟩ <;> intro st <;> cases st <;> decide +kernel

theorem witness_ChecksEndAsTheirResultSays :
    (∀ (cause : CheckCause) (low : Bool),
      (withLine { serving with
        state := .checking, checking := some { cause := cause, fromServing := true, lowFollowed := low, highFollowed := true }
        }).lines[(0 : Fin 4)].checking
        = some { cause := cause, fromServing := true, lowFollowed := low, highFollowed := true })
    -- the start-up check of the last line to be brought up
    ∧ (∀ low : Bool,
       (let s := bringingUp { Line.blank with
          state := .checking
          checking := some { cause := .startUp, fromServing := false, lowFollowed := low, highFollowed := true } }
        s.startUp.phase = .bringingUp ∧ s.startUp.bringUp[(0 : Fin 4)] = none
        ∧ s.lines[(0 : Fin 4)].checking
          = some { cause := .startUp, fromServing := false, lowFollowed := low, highFollowed := true }))
    ∧ up.inReset = false ∧ up.notices.items.length < 64 ∧ (inHand up 0x51 (.check 0)).link.tx.length < 8
    ∧ (inHand up 0x51 (.check 0)).link.inHand = some { tag := 9, kind := 0x51, work := .check 0 } := by
  refine ⟨?_, by decide +kernel, by decide⟩
  intro cause low; cases cause <;> cases low <;> decide +kernel

/-! ## Witnesses: offers and the journal -/

theorem witness_OffersAnsweredBeforeAnyRecord :
    (∀ st : PowerState, (let s : State := { calling 1 with power := { up.power with state := st } }
      s.awaitsAnswer 0 (reader 1 .lock 0) ∧ s.power.state = st))
    ∧ (calling 2).awaitsAnswer 0 (reader 2 .bar 1)
    ∧ ((none : Option (List SaleLine)).isSome = true ↔ (reader 1 .lock 0).kind = .bar)
    ∧ ((some [SaleLine.mk 20 1250 0]).isSome = true ↔ (reader 2 .bar 1).kind = .bar)
    ∧ (reader 1 .lock 0).lastSeq ≠ some 4 ∧ saleOk [SaleLine.mk 20 1250 0] = false
    ∧ (calling 1).bindings[(0 : Fin 192)] = binding 1 .lock 1201
    ∧ (∀ x ∈ (calling 1).index, x.card ≠ 0xC9)
    ∧ (let e : Entry := { reader 1 .lock 0 with binding := .noBinding }
       let s := withLock e { serving with turn := some (.call 1) }
       s.awaitsAnswer 0 e)
    ∧ (let s : State := { calling 1 with landing := { up.landing with census := { Census.blank with running := true } } }
       s.awaitsAnswer 0 (reader 1 .lock 0) ∧ s.landing.census.running = true) := by
  unfold State.awaitsAnswer
  refine ⟨?_, by decide +kernel⟩
  intro st; cases st <;> decide +kernel

/-- `calling` with guest 7's slot replaced. -/
def callingWith (drop : Nat) (x : Slot) : State := withSlot (calling drop) 0 x

theorem witness_OffersWaitForTheirRecords :
    (let x : IndexEntry := { card := 0xC1, record := 7, slot := 0 }
     (∀ i : Slot, i = Slot.blank ∨ i = { Slot.blank with state := .filling, key := some (.guest 7) } →
        (callingWith 1 i).awaitsAnswer 0 (reader 1 .lock 0) ∧ (callingWith 1 i).power.state = .normal
        ∧ (callingWith 1 i).placeFree ∧ (callingWith 1 i).portSettled
        ∧ (callingWith 1 i).index.find? (fun y => decide (y.card = 0xC1)) = some x
        ∧ ((callingWith 1 i).find (.guest 7) = .miss ∨ (callingWith 1 i).find (.guest 7) = .join 0))
     ∧ (callingWith 1 Slot.blank).find (.guest 7) = .miss ∧ ((callingWith 1 Slot.blank).slot 0).state = .empty
     ∧ (callingWith 1 { Slot.blank with state := .filling, key := some (.guest 7) }).find (.guest 7) = .join 0
     ∧ (withSlot (calling 1) 1 Slot.blank).find (.guest 7) = .hit 0
     ∧ (withSlot (calling 1) 1 Slot.blank).find (.folio 3) = .miss
     ∧ (withSlot (calling 1) 1 { Slot.blank with state := .filling, key := some (.folio 3) }).find (.folio 3) = .join 1
     ∧ (∀ j : Fin 128, ((crowded { Slot.blank with state := .filling }).slot j).state = .filling
          ∨ 0 < ((crowded { Slot.blank with state := .filling }).slot j).commitPending)
     ∧ 16 ≤ (List.replicate 16 (Job.fill 5)).length ∧ ∀ j : Fin 128, (up.slot j).wbQueued = false)
    ∧ (∀ silent : Bool, let e : Entry := { reader 1 .lock 0 with lastSeq := some 4, disposition := .deferred }
       let s := withSlot (withLock e serving) 5
         { Slot.blank with state := .filling, key := some (.guest 9), waiters := [.reader 0 1 4 0xC1 9] }
       let s := atSilence silent { s with port := { s.port with job := some (.fill 5), record := some (.guest 9) } }
       s.inReset = false ∧ s.port.waiting = [] ∧ s.port.silent = silent ∧ (s.slot 5).state = .filling
       ∧ Rec.ofBlock (.guest 9) (s.mem.readBlock (recordAddress (.guest 9)) (recordSize (.guest 9))) = none
       ∧ (s.slot 5).key = some (.guest 9) ∧ (s.slot 5).waiters = [.reader 0 1 4 0xC1 9] ∧ .writeBack 5 ∉ s.port.queue
       ∧ s.entryAt 0 1 = some e ∧ e.disposition = .deferred ∧ e.lastSeq = some 4) := by
  unfold State.awaitsAnswer State.placeFree State.portSettled
  refine ⟨⟨?_, by decide +kernel⟩, by decide +kernel⟩
  rintro i (rfl | rfl) <;> decide +kernel

theorem witness_LockOffersAreDecidedInOrder :
    ((calling 1).inReset = false ∧ (calling 1).power.state = .normal ∧ (calling 1).port.waiting = []
      ∧ (calling 1).journal.commits.all (·.queued) = true ∧ (calling 1).calledEntry 0 = some (reader 1 .lock 0)
      ∧ (calling 1).bindings[(0 : Fin 192)] = binding 1 .lock 1201 ∧ (reader 1 .lock 0).lastSeq ≠ some 4
      ∧ (calling 1).index.find? (fun y => decide (y.card = 0xC1)) = some { card := 0xC1, record := 7, slot := 0 }
      ∧ (calling 1).find (.guest 7) = .hit 0 ∧ ((calling 1).slot 0).content = some (.guest holder))
    ∧ (∀ f, holder.folio = some f →
        ∃ j y, (calling 1).find (.folio f) = .hit j ∧ ((calling 1).slot j).content = some (.folio y)) := by
  refine ⟨by decide +kernel, ?_⟩
  rintro f ⟨⟩
  exact ⟨1, account, up_finds_folio⟩

def aSale : List SaleLine := [{ cls := 20, price := 1250, qty := 2 }]

theorem witness_SaleFiguresFollowTheLines :
    saleOk aSale = true ∧ plan2.allowance ≠ 0 ∧ Plan.blank.allowance = 0
    ∧ plan2.covered.getLsbD 3 = true ∧ plan2.covered.getLsbD 20 = false := by decide

theorem witness_SaleOffersAreRefusedInOrder :
    ((let s := calling 2
     s.awaitsAnswer 0 (reader 2 .bar 1) ∧ s.power.state = .normal ∧ s.bindings[(1 : Fin 192)] = binding 2 .bar 5
     ∧ (reader 2 .bar 1).lastSeq ≠ some 4 ∧ saleOk aSale = true
     ∧ s.index.find? (fun y => decide (y.card = 0xC1)) = some { card := 0xC1, record := 7, slot := 0 }
     ∧ s.find (.guest 7) = .hit 0 ∧ (s.slot 0).content = some (.guest holder) ∧ s.find (.folio 3) = .hit 1
     ∧ (s.slot 1).content = some (.folio account) ∧ s.notices.items.length < 56)
    -- a first check, the folio, a line and the total that do not pass
    ∧ (let g : Guest := { holder with presence := .ashore }
       let s := callingWith 2 (cached (.guest 7) (.guest g))
       s.awaitsAnswer 0 (reader 2 .bar 1) ∧ s.find (.guest 7) = .hit 0 ∧ (s.slot 0).content = some (.guest g))
    ∧ (let y : Folio := { account with status := .hold }
       let s := withSlot (calling 2) 1 (cached (.folio 3) (.folio y))
       s.awaitsAnswer 0 (reader 2 .bar 1) ∧ s.find (.folio 3) = .hit 1 ∧ (s.slot 1).content = some (.folio y))
    ∧ (let s : State := { calling 2 with profiles := up.profiles.set 0 { Profile.blank with priceCeiling := 1000 } }
       s.awaitsAnswer 0 (reader 2 .bar 1) ∧ s.profiles[(0 : Fin 16)].priceCeiling < 1250)
    ∧ (let y : Folio := { account with standing := .over }
       let s := withSlot (calling 2) 1 (cached (.folio 3) (.folio y))
       s.awaitsAnswer 0 (reader 2 .bar 1) ∧ s.find (.folio 3) = .hit 1 ∧ (s.slot 1).content = some (.folio y)))
    ∧ ∀ f, holder.folio = some f →
        ∃ j y, (calling 2).find (.folio f) = .hit j ∧ ((calling 2).slot j).content = some (.folio y) := by
  unfold State.awaitsAnswer
  refine ⟨by decide +kernel, ?_⟩
  rintro f ⟨⟩
  exact ⟨1, account, up_finds_folio⟩

theorem witness_AcceptedSalesCommit :
    (let s := calling 2
     let v := priceSale (s.planOf holder.plan) (holder.effectiveUsed s.clock.day) Profile.blank.rate aSale
     s.inReset = false ∧ s.power.state = .normal ∧ s.port.waiting = [] ∧ s.portSettled
     ∧ s.calledEntry 0 = some (reader 2 .bar 1) ∧ s.bindings[(1 : Fin 192)] = binding 2 .bar 5
     ∧ (reader 2 .bar 1).lastSeq ≠ some 4 ∧ saleOk aSale = true
     ∧ s.index.find? (fun y => decide (y.card = 0xC1)) = some { card := 0xC1, record := 7, slot := 0 }
     ∧ s.find (.guest 7) = .hit 0 ∧ (s.slot 0).content = some (.guest holder) ∧ holder.folio = some 3
     ∧ s.find (.folio 3) = .hit 1 ∧ (s.slot 1).content = some (.folio account)
     ∧ (holder.card 0).map (·.state) ≠ some .lost ∧ holder.status = .active ∧ holder.presence = .aboard
     ∧ s.muster.active = false ∧ holder.firstDay ≤ s.clock.day ∧ s.clock.day ≤ holder.lastDay ∧ account.status = .open
     ∧ s.profiles[(0 : Fin 16)] = Profile.blank
     ∧ (∀ l ∈ aSale, ¬(Profile.blank.priceCeiling ≠ 0 ∧ Profile.blank.priceCeiling < l.price)
         ∧ ¬Profile.blank.qtyLimit < l.qty)
     ∧ s.router.standalone = false ∧ 0 < v.total ∧ account.standing ≠ .over
     ∧ account.balance + v.total ≤ account.limit + account.floorAllowance
     ∧ (s.journal.next - s.journal.head).toNat < 2048)
    -- a line over a masked ceiling and a masked limit, in standalone service
    ∧ (let p : Profile :=
         { Profile.blank with priceCeiling := 1249, qtyLimit := 1, maskPrice := true, maskQty := true, offlineCeiling := 2500 }
       let s : State :=
         { calling 2 with profiles := up.profiles.set 0 p, router := { up.router with standalone := true } }
       s.calledEntry 0 = some (reader 2 .bar 1) ∧ s.profiles[(0 : Fin 16)] = p ∧ p.offlineCeiling ≠ 0
       ∧ (priceSale (s.planOf holder.plan) (holder.effectiveUsed s.clock.day) p.rate aSale).total ≤ p.offlineCeiling
       ∧ ∃ l ∈ aSale, p.priceCeiling < l.price ∧ p.qtyLimit < l.qty) := by
  unfold State.portSettled; decide +kernel

/-- `calling` with the holder ASHORE at site 1 and counted there. -/
def ashore (drop : Nat) : State :=
  { withSlot (calling drop) 0 (cached (.guest 7) (.guest { holder with presence := .ashore, site := some 0 })) with
    landing := { up.landing with
      aboardGuest := 0, aboard := [], ashoreGuest := 1, stations := Vector.replicate 8 0
      sites := up.landing.sites.set 0 { Site.blank with state := .open, count := 1 }
      roster := [{ record := 7, category := .guest, site := 0, stamp := 0 }] } }

/-- `ashore`, its site closing. -/
def closing (drop : Nat) (st : SiteState) : State :=
  let s := ashore drop
  { s with landing := { s.landing with sites := s.landing.sites.set 0 { s.landing.sites[(0 : Fin 4)] with state := st } } }

theorem witness_LanesMoveTheHolder :
    (let s := calling 3
     let r := ashore 4
     s.inReset = false ∧ s.power.state = .normal ∧ s.port.waiting = [] ∧ s.journal.commits.all (·.queued) = true
     ∧ s.calledEntry 0 = some (reader 3 .laneOut 2) ∧ s.bindings[(2 : Fin 192)] = binding 3 .laneOut 1
     ∧ s.index.find? (fun y => decide (y.card = 0xC1)) = some { card := 0xC1, record := 7, slot := 0 }
     ∧ s.find (.guest 7) = .hit 0 ∧ (s.slot 0).content = some (.guest holder)
     ∧ (holder.card 0).map (·.state) ≠ some .lost ∧ holder.status = .active ∧ s.counted 7 = true
     ∧ s.muster.active = false
     ∧ (s.laneSite { serial := 3, kind := .laneOut, profile := 0, locus := 1 }) = some 0
     ∧ s.landing.sites[(0 : Fin 4)].state = .open
     ∧ r.inReset = false ∧ r.power.state = .normal ∧ r.port.waiting = [] ∧ r.journal.commits.all (·.queued) = true
     ∧ r.calledEntry 0 = some (reader 4 .laneIn 3) ∧ r.bindings[(3 : Fin 192)] = binding 4 .laneIn 1
     ∧ r.index.find? (fun y => decide (y.card = 0xC1)) = some { card := 0xC1, record := 7, slot := 0 }
     ∧ r.find (.guest 7) = .hit 0 ∧ r.counted 7 = true
     ∧ (r.slot 0).content = some (.guest { holder with presence := .ashore, site := some 0 }))
    -- the last holder back at a site that is closing
    ∧ (∀ st : SiteState, st = .lastCall ∨ st = .overdue →
       (let r := closing 4 st
        r.calledEntry 0 = some (reader 4 .laneIn 3) ∧ r.find (.guest 7) = .hit 0 ∧ r.counted 7 = true
        ∧ r.landing.census.running = false ∧ r.landing.sites[(0 : Fin 4)].state = st ∧ r.landing.sites[(0 : Fin 4)].count = 1
        ∧ ((r.countOut 7 false).countIn 7 { holder with stamp := 1000 } false).landing.sites[(0 : Fin 4)].count = 0
        ∧ r.notices.items.length < 56)) := by
  refine ⟨by decide +kernel, ?_⟩
  rintro st (rfl | rfl) <;> decide +kernel

theorem witness_PresenceSetMovesTheHolder :
    up.servesRequest ∧ up.portSettled
    ∧ (∃ v, ({ record := 7, presence := 2, site := some 5 } : PresenceSet).site = some v ∧ (v = 0 ∨ 4 < v))
    ∧ (let s := withSlot up 0 (cached (.guest 7) (.guest { holder with status := .vacant }))
       s.servesRequest ∧ s.portSettled ∧ s.find (.guest 7) = .hit 0
       ∧ (s.slot 0).content = some (.guest { holder with status := .vacant }))
    ∧ (up.find (.guest 7) = .hit 0 ∧ (up.slot 0).content = some (.guest holder) ∧ holder.status ≠ .vacant
      ∧ up.landing.sites[(1 : Fin 4)].state = .closed ∧ holder.presence = .aboard ∧ holder.site = none
      ∧ up.landing.sites[(0 : Fin 4)].state ≠ .closed ∧ ((some (0 : Fin 4)).isSome = true ↔ Presence.ashore = .ashore)
      ∧ ((none : Option (Fin 4)).isSome = true ↔ Presence.aboard = .ashore))
    -- an ASHORE holder of a site that is closing, the last one there
    ∧ (let s := closing 1 .lastCall
       let g : Guest := { holder with presence := .ashore, site := some 0 }
       s.servesRequest ∧ s.portSettled ∧ s.find (.guest 7) = .hit 0 ∧ (s.slot 0).content = some (.guest g)
       ∧ s.counted 7 = true ∧ s.landing.census.running = false ∧ s.landing.sites[(0 : Fin 4)].state = .lastCall
       ∧ ((s.countOut 7 false).countIn 7 { holder with stamp := 1000 } false).landing.sites[(0 : Fin 4)].count = 0) := by
  refine ⟨up_serves, up_settled, ⟨5, rfl, .inr (by decide)⟩, ?_, by decide +kernel, ?_⟩ <;>
    (unfold State.servesRequest State.takesRequest State.portSettled; decide +kernel)

theorem witness_MusterOffersCountTheHolder :
    (let s : State := { calling 5 with muster := { up.muster with active := true, beginStamp := 900 } }
     s.inReset = false ∧ s.power.state = .normal ∧ s.port.waiting = [] ∧ s.journal.commits.all (·.queued) = true
     ∧ s.calledEntry 0 = some (reader 5 .muster 4) ∧ s.bindings[(4 : Fin 192)] = binding 5 .muster 3
     ∧ s.index.find? (fun y => decide (y.card = 0xC1)) = some { card := 0xC1, record := 7, slot := 0 }
     ∧ s.find (.guest 7) = .hit 0 ∧ (s.slot 0).content = some (.guest holder) ∧ holder.status = .active
     ∧ s.muster.active = true ∧ holder.presence = .aboard ∧ holder.musterStamp = none ∧ s.counted 7 = true)
    -- an ASHORE holder, not mustered and mustered
    ∧ (∀ m : Option Nat, m = none ∨ m = some 950 →
       (let g : Guest := { holder with presence := .ashore, site := some 0, musterStamp := m }
        let s : State := { withSlot (ashore 5) 0 (cached (.guest 7) (.guest g)) with
          muster := { up.muster with active := true, beginStamp := 900 } }
        s.awaitsAnswer 0 (reader 5 .muster 4) ∧ s.power.state = .normal ∧ s.muster.active = true ∧ s.counted 7 = true
        ∧ s.find (.guest 7) = .hit 0 ∧ (s.slot 0).content = some (.guest g))) := by
  refine ⟨by decide +kernel, ?_⟩
  unfold State.awaitsAnswer
  rintro m (rfl | rfl) <;> decide +kernel

/-- The sale that `committing` commits. -/
def aCommit : CommitEntry :=
  { line := 0, drop := 2, reader := .current, readerSerial := 2, seq := 4, serial := 1, queued := true, time := 1000
    outlet := 5, guest := 7, folio := 3, subtotal := 2500, service := 0, total := 2500, covered := 0, flags := 0, day := 0
    remaining := none }

/-- A commit in progress for the till's offer. -/
def committing : State :=
  { withSlot (withSlot
      (working .commit none (sealBlock (postingBytes aCommit.posting))) 0
        { cached (.guest 7) (.guest holder) with state := .dirty, commitPending := 1 }) 1
        { cached (.folio 3) (.folio { account with balance := 2500 }) with state := .dirty, commitPending := 1 } with
    entries := [{ reader 2 .bar 1 with lastSeq := some 4, disposition := .committing }]
    journal := { head := 1, tail := 1, next := 2, commits := [aCommit] } }

theorem witness_CommitsEndAsTheirWritesDo :
    (∀ silent : Bool, let s := atSilence silent committing
     s.inReset = false ∧ s.mem.wf = true ∧ s.power.state = .normal
    ∧ s.port.waiting = [] ∧ s.port.job = some .commit ∧ s.port.silent = silent
    ∧ s.port.queue = [] ∧ s.journal.commits = aCommit :: []
    ∧ s.port.data = sealBlock (postingBytes aCommit.posting) ∧ aCommit.reader = .current
    ∧ (s.entryAt aCommit.line aCommit.drop).map (·.disposition) = some .committing
    ∧ s.find (.guest 7) = .hit 0 ∧ (s.slot 0).content = some (.guest holder)
    ∧ s.find (.folio 3) = .hit 1
    ∧ (s.slot 1).content = some (.folio { account with balance := 2500 }))
    ∧ (∀ d : Disposition, d = .committing ∨ d = .cancelAsked →
        (let s : State := { committing with entries := [{ reader 2 .bar 1 with lastSeq := some 4, disposition := d }] }
         (s.entryAt aCommit.line aCommit.drop).map (·.disposition) = some d))
    ∧ (∀ r : CommitReader, r = .superseded ∨ r = .gone →
        (let c : CommitEntry := { aCommit with reader := r }
         let s : State := { committing with journal := { committing.journal with commits := [c] } }
         s.journal.commits = c :: [] ∧ s.port.data = sealBlock (postingBytes c.posting) ∧ c.reader ≠ .current
         ∧ s.notices.items.length < 56)) := by
  refine ⟨by decide +kernel, ?_, ?_⟩ <;> rintro _ (rfl | rfl) <;> decide +kernel

def aTake : TakeRun := { first := 1, count := 1, queued := 1, read := [], silent := false, withdrawn := false }

/-- The last read of a TAKE_POSTINGS in progress, the posting in memory. -/
def taking : State :=
  inHand
    { working (.journalRead 1) none [] with
      mem := up.mem.writeBlock (journalAddress 1) (sealBlock (postingBytes aCommit.posting))
      journal := { head := 1, tail := 2, next := 2, commits := [] } }
    0x33 (.postings aTake)

/-- A posting of serial 1 in another serial's slot, a block that does not open, and one with no posting in it. -/
def misplaced (content : Option (List Byte)) : State :=
  { taking with
    port := { taking.port with job := some (.journalRead 2) }
    mem := match content with
      | some bs => up.mem.writeBlock (journalAddress 2) (sealBlock bs)
      | none => up.mem }

theorem witness_TakePostingsMovesTheHead :
    up.servesRequest ∧ up.journal.tail = up.journal.head
    ∧ ({ up with journal := { up.journal with tail := 3, next := 3 } } : State).servesRequest ∧ up.port.queue = []
    ∧ taking.inReset = false ∧ taking.power.state = .normal ∧ taking.port.waiting = [] ∧ taking.journal.commits = []
    ∧ taking.link.tx.length < 8 ∧ taking.port.job = some (.journalRead 1) ∧ taking.port.silent = false
    ∧ taking.link.inHand = some { tag := 9, kind := 0x33, work := .postings aTake } ∧ aTake.withdrawn = false
    ∧ aTake.silent = false ∧ aTake.read.length + 1 = aTake.count
    ∧ aCommit.posting.serial = 1 ∧ aCommit.posting.inRange = true
    ∧ openBlock (taking.mem.readBlock (journalAddress 1) 32) = some (postingBytes aCommit.posting)
    ∧ openBlock ((misplaced (some (postingBytes aCommit.posting))).mem.readBlock (journalAddress 2) 32)
        = some (postingBytes aCommit.posting)
    ∧ openBlock ((misplaced (some (List.replicate 30 0xFF))).mem.readBlock (journalAddress 2) 32)
        = some (List.replicate 30 0xFF)
    ∧ postingOfBytes (List.replicate 30 0xFF) = none
    ∧ openBlock ((misplaced none).mem.readBlock (journalAddress 2) 32) = none
    ∧ ({ taking with port := { taking.port with silent := true } } : State).port.job = some (.journalRead 1) := by
  refine ⟨up_serves, rfl, ?_, by decide +kernel⟩
  unfold State.servesRequest State.takesRequest; decide +kernel
/-! ## Witnesses: sites, census, muster -/

/-- `up` with site 1 replaced. -/
def withSite (x : Site) : State := { up with landing := { up.landing with sites := up.landing.sites.set 0 x } }

def siteIn (st : SiteState) (count : Nat) : Site := { Site.blank with state := st, count := count }

theorem witness_SiteRequestsMoveTheSite :
    (∀ st : SiteState, st = .closed ∨ st = .open ∨ st = .lastCall ∨ st = .overdue →
      (withSite (siteIn st 0)).servesRequest ∧ (withSite (siteIn st 0)).service = true ∧ (withSite (siteIn st 0)).placeFree
      ∧ (withSite (siteIn st 0)).portSettled ∧ (withSite (siteIn st 0)).landing.sites[(0 : Fin 4)].state = st
      ∧ (withSite (siteIn st 0)).clock.isSet = true ∧ (withSite (siteIn st 0)).landing.census.running = false
      ∧ (withSite (siteIn st 0)).landing.lanes[(1 : Fin 4)] = none)
    ∧ 999 ≤ up.clock.seconds ∧ ¬(1001 ≤ up.clock.seconds) ∧ 0 < (siteIn .open 1).count
    ∧ ([1] : List (Fin 4)) ≠ [] ∧ ([1] : List (Fin 4)).Nodup := by
  refine ⟨?_, by decide⟩
  intro st _
  unfold State.servesRequest State.takesRequest State.placeFree State.portSettled
  cases st <;> decide +kernel

/-- `up` with a census at record n. -/
def counting (n : Fin 2048) : State :=
  { working (.censusRead n) none [] with
    landing := { up.landing with census := { Census.blank with running := true, cursor := n.val, next := n.val + 1 } } }

/-- `up` with nothing cached but, when given, guest 0. -/
def uncached (x : Slot) : State :=
  { up with cache := { up.cache with slots := State.reset.cache.slots.set 0 x } }

theorem witness_CensusesCountTheRecords :
    (up.servesRequest ∧ up.service = true ∧ up.muster.active = false ∧ up.landing.census.running = false
      ∧ up.port.queue.length ≤ 12
      ∧ ({ up with muster := { up.muster with active := true } } : State).servesRequest
      -- an empty site that is closing, and one that is not
      ∧ (counting 2047).landing.sites[(0 : Fin 4)].count = 0
      ∧ (let s : State := { counting 2047 with landing := { (counting 2047).landing with
           sites := up.landing.sites.set 1 { Site.blank with state := .lastCall, deadline := some 2000 } } }
         s.landing.sites[(1 : Fin 4)].state = .lastCall ∧ s.landing.sites[(1 : Fin 4)].count = 0))
    ∧ (∀ n : Fin 2048, n = 7 ∨ n = 8 ∨ n = 2047 →
        (let s : State := { counting n with cache := State.reset.cache }
         s.inReset = false ∧ s.port.job = some (.censusRead n) ∧ s.landing.census.running = true ∧ s.port.waiting = []
         ∧ s.port.silent = false ∧ s.notices.items.length < 56
         ∧ ∀ i : Fin 128, (s.slot i).state = .empty))
    ∧ (∀ g : Guest, g = holder ∨ g = Guest.blank →
        (let s : State :=
           { counting 8 with
             cache := State.reset.cache, mem := up.mem.writeBlock (recordAddress (.guest 8)) (Rec.guest g).block }
         s.readRecord (.guest 8) .good = some (.guest g)))
    -- a block that does not open, a card indexed already, and the last record of start-up
    ∧ (let s : State := { counting 8 with cache := State.reset.cache }
       s.readFails (.guest 8) .good ∧ s.index.any (fun x => decide (x.card = 0xC1)) = true
       ∧ holder.card0.map (·.id) = some 0xC1)
    ∧ (let s : State :=
         { counting 2047 with
           cache := State.reset.cache
           startUp :=
             { phase := .bringingUp, defaulted := 0, censusEnded := false
               bringUp := Vector.replicate 4 (some (.isolated (some .shorted))) } }
       s.inReset = false ∧ s.port.job = some (.censusRead 2047) ∧ s.landing.census.running = true ∧ s.port.waiting = []
       ∧ s.startUp.phase = .bringingUp ∧ s.landing.census.cause = .startUp ∧ s.notices.items.length < 56
       ∧ ∀ m : Fin 4, s.startUp.bringUp[m] ≠ none)
    ∧ holder.status ≠ .vacant ∧ Guest.blank.status = .vacant
    ∧ (let s := uncached (cached (.guest 0) (.guest holder))
       s.servesRequest ∧ s.service = true ∧ s.muster.active = false ∧ s.landing.census.running = false
       ∧ s.port.job = none ∧ s.port.queue = [] ∧ s.port.waiting = [] ∧ s.journal.commits = [] ∧ s.cache.flush = none
       ∧ s.find (.guest 0) = .hit 0 ∧ (s.slot 0).content = some (.guest holder) ∧ holder.status = .active
       ∧ holder.presence = .aboard ∧ ∀ i : Fin 128, i ≠ 0 → (s.slot i).state = .empty) := by
  unfold State.servesRequest State.takesRequest
  refine ⟨by decide +kernel, ?_, ?_, ⟨.inr ?_, by decide +kernel⟩, by decide +kernel⟩
  · rintro n (rfl | rfl | rfl) <;> decide +kernel
  · rintro g (rfl | rfl) <;> decide +kernel
  · decide +kernel

theorem witness_no_slot_holds (m : Fin 2048) (i : Fin 128) : (State.reset.slot i).has (.guest m) = false := by
  have h : State.reset.slot i = Slot.blank := by simp [State.slot, State.reset, Cache.blank]
  rw [h]; rfl

theorem witness_MusterBeginsAndEnds :
    up.servesRequest ∧ up.placeFree ∧ up.portSettled ∧ up.service = true ∧ up.clock.isSet = true
    ∧ up.landing.census.running = false ∧ up.muster.active = false ∧ up.muster.beginStamp ≤ up.clock.seconds
    ∧ up.clock.seconds ≠ 4294967295 ∧ mustering.servesRequest ∧ mustering.placeFree ∧ mustering.portSettled
    ∧ mustering.service = true ∧ mustering.muster.active = true := by
  unfold State.servesRequest State.takesRequest State.placeFree State.portSettled; decide +kernel

/-! ## Witnesses: fault router and timers -/

/-- `up` with one source present and raised. -/
def troubled (src : FaultSource) (standalone : Bool) : State :=
  { up with router :=
      { up.router.setEntry src { up.router.entry src with present := true, raised := true, count := 1 } with
        standalone := standalone } }

theorem witness_ConditionsActAsPlanned :
    (let s : State := { up with cache := { up.cache with stalling := true } }
     s.inReset = false ∧ s.startUp.phase ≠ .readingConfig ∧ s.cache.stalling = true
     ∧ (s.router.entry .cacheStall).present = false
     ∧ ({ troubled .cacheStall false with cache := s.cache } : State).router.entry .cacheStall
        = { present := true, raised := true, count := 1, plan := { note := true, delay := true } })
    ∧ (let s : State := { up with link := { up.link with silence := 10 } }
       s.inReset = false ∧ s.startUp.phase ≠ .readingConfig ∧ s.settings.linkSilence ≤ s.link.silence
       ∧ (s.router.entry .linkSilent).present = false)
    ∧ ∀ standalone : Bool,
      (let s : State := { up with router := { up.router with timer := .running, run := 120, standalone := standalone } }
       s.inReset = false ∧ s.startUp.phase ≠ .readingConfig ∧ s.router.timer = .running
       ∧ s.settings.escalation ≤ s.router.run ∧ s.router.standalone = standalone) := by decide +kernel

theorem witness_FaultRequestsFollowTheConditions :
    flushing.takesRequest ∧ flushing.power.state ≠ .normal ∧ up.servesRequest ∧ up.placeFree ∧ up.portSettled
    ∧ (let plans : List (FaultSource × FaultPlan) :=
         [(.lineFault 0, { isolate := true }), (.linkSilent, { note := true, standalone := true })]
       1 ≤ plans.length ∧ plans.length ≤ 16 ∧ (plans.map (·.1)).Nodup ∧ ∀ x ∈ plans, x.2.isolate = true → x.1.isLine = true)
    ∧ (∃ x ∈ [((14 : Nat), (4 : Nat))], x.2 / 4 % 2 = 1 ∧ (x.1 < 3 ∨ 10 < x.1))
    ∧ (∀ b : Bool, (troubled .linkSilent b).servesRequest ∧ ((troubled .linkSilent b).heard.router.entry .clockUnset).present
        = false ∧ (troubled .linkSilent b).router.standalone = b)
    ∧ ((troubled .clockUnset true).heard.router.entry .clockUnset).present = true
    ∧ (let r := (troubled .clockUnset true).heard.router
       FaultSource.all.filter (fun src => (r.entry src).present && (r.entry src).plan.standalone) = [])
    ∧ (let s : State :=
         { up with router := (up.router.setEntry .clockUnset
             { present := true, raised := true, count := 1, plan := { standalone := true } }) }
       FaultSource.all.filter (fun src => (s.heard.router.entry src).present && (s.heard.router.entry src).plan.standalone)
         = [.clockUnset]) := by
  unfold State.servesRequest State.takesRequest State.placeFree State.portSettled; decide +kernel

theorem witness_TimersActWhenTheirTimeHasCome :
    (let s := withSite { state := .lastCall, deadline := some 1000, count := 2, due := true }
     s.inReset = false ∧ s.landing.sites[(0 : Fin 4)].state = .lastCall
     ∧ s.landing.sites[(0 : Fin 4)].deadline = some 1000 ∧ s.landing.sites[(0 : Fin 4)].due = true)
    ∧ (let e : Entry := { reader 1 .lock 0 with outgoing := some denied }
       let late : State := { withLock e serving with clock := { up.clock with seconds := 1003 } }
       (withLock e serving).inReset = false ∧ (withLock e serving).entryAt 0 1 = some e
       ∧ (withLock e serving).clock.seconds < denied.expiry ∧ late.entryAt 0 1 = some e
       ∧ denied.expiry ≤ late.clock.seconds)
    -- of every kind of verdict at a till
    ∧ (∀ k ∈ [VerdictKind.wait, .cancelled, .notPending, .accept, .refuse, .deny, .pass, .passLate, .passEmbark, .repeated,
         .mustered, .musteredElsewhere, .tooLate],
       (let o : Outgoing := { denied with verdict := mkVerdict k, expiry := 990 }
        let e : Entry := { reader 2 .bar 1 with outgoing := some o }
        let s : State := { up with entries := [e] }
        s.inReset = false ∧ s.entryAt 0 2 = some e ∧ e.kind ≠ .lock ∧ o.verdict.kind = k ∧ o.expiry ≤ s.clock.seconds))
    ∧ up.port.waiting = []
    ∧ (let s : State :=
         { withSlot up 0 { cached (.guest 7) (.guest holder) with state := .dirty, dirtySince := 900 } with
           clock := { up.clock with flusherDue := true } }
       s.inReset = false ∧ s.clock.flusherDue = true ∧ s.power.state = .normal ∧ s.portSettled
       ∧ (s.slot 0).state = .dirty ∧ s.settings.flushAge ≤ s.clock.seconds - (s.slot 0).dirtySince)
    ∧ up.clock.sinceMark < 3600
    ∧ 3600 ≤ ({ up with clock := { up.clock with sinceMark := 3600 } } : State).clock.sinceMark := by
  unfold State.portSettled; decide +kernel

/-! ## Witnesses: port jobs, start-up, power, reset -/

/-- Slot 5 FILLING with guest 9 for the waiters given, the record in memory. -/
def filling (waiters : List Waiter) : State :=
  let s := withSlot (working (.fill 5) (some (.guest 9)) []) 5
    { Slot.blank with state := .filling, key := some (.guest 9), waiters := waiters }
  inHand { s with mem := s.mem.writeBlock (recordAddress (.guest 9)) (Rec.guest holder).block } 0x20 (.record (.guestGet 9))

theorem witness_FillsEndAsTheirReadDoes :
    (∀ w : List Waiter, w = [] ∨ w = [.host] →
      (∀ silent : Bool, let s := atSilence silent (filling w)
        s.port.silent = silent ∧ s.inReset = false ∧ s.port.waiting = [] ∧ s.port.job = some (.fill 5)
        ∧ s.port.record = some (.guest 9) ∧ (s.slot 5).state = .filling ∧ s.link.tx.length < 8)
      ∧ (filling w).inReset = false ∧ (filling w).port.waiting = [] ∧ (filling w).port.job = some (.fill 5)
      ∧ (filling w).port.record = some (.guest 9) ∧ (filling w).port.silent = false
      ∧ ((filling w).slot 5).state = .filling ∧ ((filling w).slot 5).key = some (.guest 9)
      ∧ .writeBack 5 ∉ (filling w).port.queue ∧ ((filling w).slot 5).waiters = w
      ∧ Rec.ofBlock (.guest 9) ((filling w).mem.readBlock (recordAddress (.guest 9)) (recordSize (.guest 9)))
          = some (.guest holder)
      ∧ Rec.ofBlock (.guest 9) (up.mem.readBlock (recordAddress (.guest 9)) (recordSize (.guest 9))) = none
      ∧ (filling w).link.tx.length < 8
      ∧ (filling w).link.inHand = some { tag := 9, kind := 0x20, work := .record (.guestGet 9) }
      ∧ (filling w).port.job = some (.fill 5))
    ∧ committing.inReset = false ∧ committing.port.job = some .commit ∧ committing.port.silent = false
    ∧ committing.mem.wf = true ∧ (committing.jobAddress).isSome = true := by
  refine ⟨?_, by decide +kernel⟩
  rintro w (rfl | rfl) <;> decide +kernel

/-- Slot 0 WRITING with guest 7, or a pair in its slot. -/
def writing (j : Job) (again : Option Nat) (incoming : Option RecKey) : State :=
  inHand
    (withSlot (working j (some (.guest 7)) (Rec.guest holder).block) 0
      { cached (.guest 7) (.guest holder) with
        state := .writing, dirtyAgain := again, incoming := incoming
        waiters := if incoming = none then [] else [.host] })
    0x20 (.record (.guestGet 9))

theorem witness_WriteBacksEndAsTheirWriteDoes :
    (∀ again : Option Nat, again = none ∨ again = some 990 →
      (writing (.writeBack 0) again none).inReset = false ∧ (writing (.writeBack 0) again none).mem.wf = true
      ∧ (writing (.writeBack 0) again none).power.state = .normal ∧ (writing (.writeBack 0) again none).port.waiting = []
      ∧ (writing (.writeBack 0) again none).cache.flush = none
      ∧ (writing (.writeBack 0) again none).port.job = some (.writeBack 0)
      ∧ (writing (.writeBack 0) again none).port.silent = false
      ∧ (writing (.writeBack 0) again none).port.record = some (.guest 7)
      ∧ ((writing (.writeBack 0) again none).slot 0).state = .writing
      ∧ ((writing (.writeBack 0) again none).slot 0).dirtyAgain = again
      ∧ .writeBack 0 ∉ (writing (.writeBack 0) again none).port.queue)
    ∧ (∀ b : Bool, (let run : FlushRun := { members := [(0, b), (3, false)], ok := 0, failed := 0 }
        let s : State :=
          { writing (.writeBack 0) none none with cache := { (writing (.writeBack 0) none none).cache with flush := some run } }
        s.cache.flush = some run ∧ (run.members.map (·.1)).Nodup ∧ (0, b) ∈ run.members ∧ s.port.waiting = []))
    ∧ (let run : FlushRun := { members := [(0, false)], ok := 0, failed := 0 }
       (run.members.map (·.1)).Nodup ∧ (0, false) ∈ run.members ∧ run.members.filter (fun m => decide (m.1 ≠ 0)) = [])
    ∧ (∀ i : Fin 128, (up.slot i).state ≠ .dirty ∧ (up.slot i).state ≠ .writing)
    ∧ (let s := withSlot up 0 { cached (.guest 7) (.guest holder) with state := .dirty }
       s.servesRequest ∧ s.cache.flush = none ∧ (s.slot 0).state = .dirty)
    ∧ ({ up with cache := { up.cache with flush := some { members := [], ok := 0, failed := 0 } } } : State).servesRequest := by
  unfold State.servesRequest State.takesRequest
  refine ⟨?_, by decide +kernel⟩
  rintro w (rfl | rfl) <;> decide +kernel

/-- A pair in slot 0, with the victim and the holds changed. -/
def pairing (f : Slot → Slot) : State :=
  let s := writing (.pair 0) none (some (.guest 9))
  withSlot s 0 (f (s.slot 0))

theorem witness_PairsGiveTheSlotOver :
    (∀ (k : Fin 4) (silent : Bool),
      (let f : Slot → Slot := fun x =>
         if k = 0 then x else if k = 1 then { x with dirtyAgain := some 990 } else if k = 2 then { x with commitPending := 1 }
         else { x with waiters := [], holds := [{ line := 0, drop := 1, key := .guest 7, expiry := 1001 }] }
       let s := atSilence silent (pairing f)
       s.inReset = false ∧ s.mem.wf = true ∧ s.power.state = .normal ∧ s.port.waiting = [] ∧ s.cache.flush = none
       ∧ s.port.job = some (.pair 0) ∧ s.port.silent = silent ∧ s.port.record = some (.guest 7)
       ∧ (s.slot 0).state = .writing ∧ (s.slot 0).key = some (.guest 7) ∧ (s.slot 0).incoming = some (.guest 9)
       ∧ .writeBack 0 ∉ s.port.queue ∧ s.port.queue.length < 16
       ∧ (s.slot 2).state = .empty ∧ (∀ l : Fin 128, l < 2 → (s.slot l).state ≠ .empty)
       ∧ ((s.slot 0).waiters = [.host] ∨ k = 3) ∧ s.link.tx.length < 8
       ∧ s.link.inHand = some { tag := 9, kind := 0x20, work := .record (.guestGet 9) }))
    -- no slot for the miss to start again
    ∧ (let x : Slot :=
         { cached (.guest 7) (.guest holder) with
           state := .writing, incoming := some (.guest 9), waiters := [.host], commitPending := 1 }
       let s := crowded x
       (∀ j : Fin 128, j ≠ 5 → (s.slot j).state ≠ .empty ∧ 0 < (s.slot j).commitPending
          ∧ (s.slot j).key ≠ some (.guest 9) ∧ (s.slot j).incoming ≠ some (.guest 9))
       ∧ 0 < (s.slot 5).commitPending ∧ s.refusedEarly (.guestGet 9) = false ∧ (RecordReq.guestGet 9).key = .guest 9) := by
  decide +kernel

/-- Start-up at configuration block k, in SERVICE or MAINTENANCE, the block's content in memory. -/
def startingUp (k : Fin 49) (maintenance : Bool) (content : List Byte) : State :=
  { State.reset with
    port := { State.reset.port with job := some (.confRead k) }
    straps := { State.reset.straps with maintenance := maintenance }
    mem := State.reset.mem.writeBlock (ConfBlock.ofNumber k).address (sealBlock content) }

theorem witness_ConfigurationReadsLeadToService :
    (∀ (k : Fin 49) (m : Bool) (content : List Byte),
      (let s := startingUp k m content
       s.inReset = false ∧ s.startUp.phase = .readingConfig ∧ s.port.job = some (.confRead k) ∧ s.port.silent = false
       ∧ s.port.queue = [] ∧ s.port.waiting = [] ∧ s.power.state = .normal ∧ s.journal.commits = []
       ∧ s.cache.flush = none ∧ s.service = !m ∧ s.notices.items.length + 2 * s.router.deferred.length < 60
       ∧ s.mem.readBlock (ConfBlock.ofNumber k).address (content.length + 2) = sealBlock content))
    ∧ (∀ i : Fin 128, (State.reset.slot i).state = .empty)
    -- a block that does not open, a content fault, and PWRWARN at the last block
    ∧ openBlock (State.reset.mem.readBlock ConfBlock.settings.address (ConfBlock.settings.size + 2)) = none
    ∧ settingsOfBytes (List.replicate ConfBlock.settings.size 0xFF) = none
    ∧ (∀ warn : Bool,
       ({ startingUp 48 false [] with pins := { State.reset.pins with pwrwarn := warn } } : State).pins.pwrwarn = warn)
    ∧ [0, 1, 2, 14, 30, 45, 46, 47, 48].map ConfBlock.ofNumber
        = [.settings, .faultPlan, .bindings 0, .profile 0, .plan 0, .sites, .muster, .journalMarks, .clockMark]
    ∧ Settings.blank.inRange = true ∧ Profile.blank.inRange = true ∧ plan2.inRange = true
    ∧ ((2049 : PostSerial) - 1).toNat ≤ 2048 ∧ offsetInRange (-720) = true ∧ locusInRange .lock 1201 = true := by
  refine ⟨?_, by decide +kernel⟩
  intro k m content
  refine ⟨rfl, rfl, rfl, rfl, rfl, rfl, rfl, rfl, rfl, rfl,
    (by decide : State.reset.notices.items.length + 2 * State.reset.router.deferred.length < 60), ?_⟩
  have h := Memory.readBlock_writeBlock (sealBlock content) [] (ConfBlock.ofNumber k).address rfl
  have l : (sealBlock content).length = content.length + 2 := by simp [sealBlock, be]
  rw [l] at h
  exact h

/-- `up` in a power state with the mark writes as given. -/
def powered (p : PowerState) (marks : Option Nat) (warn : Bool) : State :=
  { up with power := { state := p, marks := marks, restart := false }, pins := { up.pins with pwrwarn := warn } }

theorem witness_PowerWarningsAndRestartRunTheFlush :
    up.servesRequest ∧ (inHand up 0x20 (.record (.guestGet 9))).inReset = false
    ∧ (inHand up 0x20 (.record (.guestGet 9))).power.state = .normal
    ∧ (inHand up 0x20 (.record (.guestGet 9))).startUp.phase ≠ .readingConfig
    ∧ (inHand up 0x20 (.record (.guestGet 9))).link.tx.length < 8
    ∧ (inHand up 0x20 (.record (.guestGet 9))).link.inHand = some { tag := 9, kind := 0x20, work := .record (.guestGet 9) }
    -- a queued fill, a queued pair and a DIRTY slot at the entry
    ∧ (let s : State := { withSlot (withSlot (withSlot up 2 { Slot.blank with state := .filling, key := some (.guest 9) }) 0
          { cached (.guest 7) (.guest holder) with state := .writing, incoming := some (.guest 8), waiters := [.host] }) 1
          { cached (.folio 3) (.folio account) with state := .dirty } with
          port := { up.port with job := some (.journalRead 1), queue := [.fill 2, .pair 0, .confWrite (.conf .sites) .unit] } }
       s.inReset = false ∧ s.power.state = .normal ∧ s.startUp.phase ≠ .readingConfig ∧ .fill 2 ∈ s.port.queue
       ∧ .pair 0 ∈ s.port.queue ∧ (s.slot 0).incoming ≠ none ∧ (s.slot 1).state = .dirty ∧ s.port.job ≠ none
       ∧ s.servesRequest)
    ∧ (powered .haltedSafe none true).inReset = false ∧ (powered .haltedSafe none true).power.state ≠ .normal
    ∧ (powered .emergencyFlush none true).inReset = false ∧ (powered .emergencyFlush none true).power.marks = none
    ∧ (powered .emergencyFlush none true).journal.commits = [] ∧ (powered .emergencyFlush none true).port.job = none
    ∧ (powered .emergencyFlush none true).port.queue = []
    ∧ (∀ i : Fin 128, ((powered .emergencyFlush none true).slot i).state ≠ .dirty)
    -- PWRWARN while the configuration is read
    ∧ State.reset.inReset = false ∧ State.reset.startUp.phase = .readingConfig ∧ State.reset.power.state = .normal
    ∧ (State.reset.router.entry .powerWarn).present = false
    ∧ ∀ warn : Bool, (powered .emergencyFlush (some 0) warn).power.marks = some 0
        ∧ (powered .emergencyFlush (some 0) warn).power.restart = false
        ∧ (powered .emergencyFlush (some 0) warn).pins.pwrwarn = warn := by
  unfold State.servesRequest State.takesRequest; decide +kernel

theorem witness_ResetsStartAfresh :
    up.inReset = false ∧ up.port.job = none ∧ (committing.cutMemory .before = committing.mem)
    ∧ (∀ warn : Bool, let s : State := { up with inReset := true, pins := { up.pins with pwrwarn := warn } }
       s.inReset = true ∧ s.pins.pwrwarn = warn)
    ∧ (∀ warn : Bool, let s : State :=
         { powered .emergencyFlush (some 0) warn with
           power := { state := .emergencyFlush, marks := some 0, restart := true } }
       s.inReset = false ∧ s.power.restart = true ∧ s.power.marks = some 0 ∧ s.pins.pwrwarn = warn
       ∧ s.link.tx = [] ∧ s.link.inHand = none) := by decide +kernel


/-! ## One step each, from the rules -/

/-- R60's last row: a CANCEL of an offer refused RECORD_FAULT is told TOO_LATE with no serial. -/
theorem test_cancel_after_record_fault :
    let e : Entry :=
      { reader 2 .bar 1 with
        lastSeq := some 5, disposition := .decided, remembered := some (mkVerdict .refuse .recordFault (.lineIndex 0)) }
    (((run1 { calling 2 with entries := [e] } (.cancel 0 900 5)).entries.head?.bind (·.outgoing)).map (·.verdict))
      = some (mkVerdict .tooLate .none (.late none)) := by decide +kernel

/-- R21: while the queue stays full, an answer does not have a waiting SET_CLOCK checked again; the end of a job does. -/
theorem test_waiting_request_checked_at_a_place :
    let s := awaitingPlace { seconds := some 900, offset := none }
    (run1 s (.idle 0 900)).link = s.link ∧ (run1 s (.idle 0 900)).port = s.port
    ∧ (run1 s (.configurationWrite .good)).link.tx.map (·.result) = [.badField] := by decide +kernel

/-- R65: a SERVING line takes LINE_ENUMERATE, though an isolation waits for the turn in progress. -/
theorem test_enumerate_while_isolation_waits :
    let s : State := { up with lines := up.lines.set 0 { serving with turn := some (.call 1), isolating := some .request } }
    (run1 s (.lineEnumerate 1 (some 0))).link.tx.map (·.result) = [.started] := by decide +kernel

/-- R55: the time of a JOIN, a garble in a round turn, is part of the round. -/
theorem test_join_counts_in_the_round :
    let l : Line := { serving with turn := some (.call 1), roundBegun := true, lastDrop := 1, roundTime := 100 }
    let s : State := { up with lines := up.lines.set 0 l }
    (run1 s (.join 0 900 ⟨.lock, 1⟩)).lines[(0 : Fin 4)].roundTime = 1000 := by decide +kernel

/-- R34: an IDLE, which ends no hold and completes no job, does not make a stuck miss ask again; the end of a hold does. -/
theorem test_stuck_miss_asks_again :
    (run1 stuck (.idle 0 900)).port.waiting = [.handMiss]
    ∧ ((run1 stuck (.holdExpiry 0 1 (.guest 7))).slot 5).key = some (.guest 9) := by decide +kernel

/-- R164, R165, R167: a guest with a stamp at or after the begin stamp, though no count has it, is moved by GUEST_PUT to its new
station's mustered count. -/
theorem test_stale_stamp_moves :
    let s := withSlot mustering 0 (cached (.guest 7) (.guest { holder with musterStamp := some 950 }))
    let t := run1 s (.guestPut 1 (some { aGuestPut with station := 4 }))
    (t.muster.mustered[(2 : Fin 8)], t.muster.mustered[(3 : Fin 8)]) = (0, 1) := by decide +kernel

/-- R85, R203: READER_GET's line, drop and serial have a presence byte each; one that carries both forms, or neither, has no form. -/
theorem test_reader_get_presence_bytes :
    let read (body : List Byte) := requestRead 1 0x44 body
    read [1, 2, 1, 5, 0, 0, 0, 0, 0] = some (.readerGet 1 (some (.place 2 5)))
    ∧ read [0, 0, 0, 0, 1, 0, 0, 0, 9] = some (.readerGet 1 (some (.serial 9)))
    ∧ read [1, 2, 1, 5, 1, 0, 0, 0, 9] = some (.readerGet 1 none) ∧ read [2, 5] = some (.readerGet 1 none)
    ∧ read [0, 0, 0, 0, 0, 0, 0, 0, 0] = some (.readerGet 1 none) := by decide +kernel

/-- R201, R203: FLUSH's STARTED goes out as 0xA5, length 1, its tag, 0x78, code 1 and the check word. -/
theorem test_started_bytes :
    (Reply.bytes { tag := 0x0102, kind := 0x78, result := .started, body := .empty }).take 7
      = [0xA5, 0x00, 0x01, 0x01, 0x02, 0x78, 0x01] := by decide +kernel

/-- R21: a clock mark that reads back otherwise leaves its block as it was. -/
theorem test_failed_write_keeps_the_block :
    (run1 (settingsWrite .hand) (.configurationWrite .differs)).mem = (settingsWrite .hand).mem := by decide +kernel

/-- R203: SETTINGS_PUT's optional fields stand behind presence bytes, and one that is neither 0 nor 1 is no body. -/
theorem test_presence_bytes :
    (let body : List Byte := [1, 4, 0, 0, 0, 0, 0, 0, 0, 0, 0, 0]
     bodyOf (.settingsPut 1 (some aSettingsPut)) = some body
     ∧ requestRead 1 0x11 body = some (.settingsPut 1 (some aSettingsPut))
     ∧ requestRead 1 0x11 (2 :: body.drop 1) = some (.settingsPut 1 none)
     ∧ requestRead 1 0x11 (body.drop 2) = some (.settingsPut 1 none)) := by decide +kernel

/-- R188, R189: a frame with its check word right is its request, with another a discard. -/
theorem test_frame_read :
    (let covered : List Byte := [0x00, 0x01, 0x12, 0x34, 0x50, 0x02]
     hostCommand (0xA5 :: sealBlock covered) = some (.lineEnumerate 0x1234 (some 2))
     ∧ hostCommand (0xA5 :: (covered ++ [0, 0])) = some (.hostFrameDiscard .checkWord)
     ∧ hostCommand (0xA5 :: sealBlock [0x00, 0x00, 0x12, 0x34, 0x50]) = some (.lineEnumerate 0x1234 none)) := by decide +kernel

/-- R48, R202: an answer at the address called is read; one at another address is a garble. -/
theorem test_answer_read :
    answerCommand 0 900 5 (sealBlock [5, 0x11, 0]) = .idle 0 900
    ∧ answerCommand 0 900 6 (sealBlock [5, 0x11, 0]) = .garble 0 900
    ∧ answerCommand 0 900 5 (sealBlock [5, 0x12, 15, 9, 0, 0, 0, 0, 0, 0, 0, 0xC1, 1, 20, 0, 4, 226, 2])
        = .offer 0 900 9 0xC1 (some [{ cls := 20, price := 1250, qty := 2 }]) := by decide +kernel

/-- R28: a block with a write pending takes no second write, though a place is free. -/
theorem test_pending_block_takes_no_second :
    let x : Site := { state := .lastCall, deadline := some 1000, count := 2, due := true }
    let s : State := { withSite x with port := { up.port with job := some .commit, waiting := [.block .sites] } }
    (run1 s (.siteDeadline 0)).port.queue = [] := by decide +kernel

/-- R36, R89: a repeat that finds another record waits with that record alone. -/
theorem test_repeat_replaces_its_waiter :
    ((Slot.blank.addWaiter (.reader 0 1 4 0xC1 7)).addWaiter (.reader 0 1 4 0xC1 9)).waiters = [.reader 0 1 4 0xC1 9] := by
  decide

/-- R147: the last holder back at an OVERDUE site leaves SITE_CLEAR behind LATE_RETURN. -/
theorem test_site_clear :
    (run1 (closing 4 .overdue) (.offer 0 0 4 0xC1 none)).notices.items.map (·.body)
      = [.lateReturn 7 .guest 0 1 1000 none 0, .siteClear 0 .overdue 1000] := by decide +kernel

end Sys2Proof.Tests
end

section
/-! PROOF. What every step keeps: the record memory's form and bounds, the outputs, the cache's records. The relation of a
state to one that has kept all three is closed under every operation of the model, one lemma each. -/
namespace Sys2Proof.Machine
set_option Elab.async false

/-! ## The relation -/

/-- The bounds and outputs of the host side but for FAULT, which stands between a change of marks or plans and the refresh that
follows it (R177). -/
def State.hostSafe (s : State) : Prop :=
  s.link.tx.length ≤ 8
  ∧ s.notices.items.length ≤ 64
  ∧ (s.pins.attn = true ↔ s.notices.items ≠ [])
  ∧ (s.pins.safe = true ↔ s.power.state = .haltedSafe)
  ∧ (s.startUp.phase = .readingConfig → s.power.state = .normal)

/-- FAULT is as the marks and plans have it once the configuration is read (R174, R177). -/
def State.faultSafe (s : State) : Prop := s.startUp.phase ≠ .readingConfig → s.pins.fault = s.router.drivesFault

theorem State.outputsSafe_iff (s : State) : s.outputsSafe ↔ s.hostSafe ∧ s.faultSafe := by
  unfold State.outputsSafe State.hostSafe State.faultSafe; tauto

/-- From s to t all is kept but, maybe, FAULT, which is still to be refreshed. -/
structure State.KeepsButFault (s t : State) : Prop where
  memory : s.memorySafe → t.memorySafe ∧ ∀ a, 245760 ≤ a → t.mem.read a = s.mem.read a
  host : s.hostSafe → t.hostSafe
  cache : s.cacheSafe → t.cacheSafe

/-- From s to t all is kept. -/
structure State.Keeps (s t : State) : Prop extends s.KeepsButFault t where
  fault : s.outputsSafe → t.faultSafe

/-- What the three invariants look at, but for FAULT and the router. -/
def State.watchedButFault (s : State) :=
  (s.mem, (s.port.job, s.port.data), (s.link.tx, s.notices.items, s.pins.attn, s.pins.safe, s.startUp.phase, s.power.state),
    (s.cache.slots, s.cache.recency))

/-- What they look at of FAULT and the router. -/
def State.watchedFault (s : State) := (s.startUp.phase, s.pins.fault, s.router.drivesFault)

variable {s t u : State}

theorem State.Keeps.refl (s : State) : s.Keeps s :=
  { memory := fun h => ⟨h, fun _ _ => rfl⟩, host := id, cache := id
    fault := fun h => ((State.outputsSafe_iff s).mp h).2 }

theorem State.Keeps.outputs (h : s.Keeps t) (hs : s.outputsSafe) : t.outputsSafe :=
  (State.outputsSafe_iff t).mpr ⟨h.host ((State.outputsSafe_iff s).mp hs).1, h.fault hs⟩

theorem State.KeepsButFault.trans (h : s.KeepsButFault t) (h' : t.KeepsButFault u) : s.KeepsButFault u :=
  { memory := fun hs =>
      have ⟨ht, hr⟩ := h.memory hs
      have ⟨hu, hr'⟩ := h'.memory ht
      ⟨hu, fun a ha => (hr' a ha).trans (hr a ha)⟩
    host := fun hs => h'.host (h.host hs)
    cache := fun hs => h'.cache (h.cache hs) }

theorem State.Keeps.trans (h : s.Keeps t) (h' : t.Keeps u) : s.Keeps u :=
  { h.toKeepsButFault.trans h'.toKeepsButFault with fault := fun hs => h'.fault (h.outputs hs) }

/-- An update of what the invariants do not look at. -/
theorem State.KeepsButFault.other (h : s.KeepsButFault t) (e : u.watchedButFault = t.watchedButFault) : s.KeepsButFault u := by
  simp only [State.watchedButFault, Prod.mk.injEq] at e
  obtain ⟨hmem, ⟨hjob, hdata⟩, ⟨htx, hitems, hattn, hsafe, hphase, hpower⟩, hslots, hrecency⟩ := e
  refine { memory := fun hs => ?_, host := fun hs => ?_, cache := fun hs => ?_ }
  · simpa only [State.memorySafe, Port.fits, hmem, hjob, hdata] using h.memory hs
  · simpa only [State.hostSafe, htx, hitems, hattn, hsafe, hphase, hpower] using h.host hs
  · simpa only [State.cacheSafe, State.slot, hslots, hrecency] using h.cache hs

theorem State.Keeps.other (h : s.Keeps t) (e : u.watchedButFault = t.watchedButFault) (f : u.watchedFault = t.watchedFault) :
    s.Keeps u := by
  simp only [State.watchedFault, Prod.mk.injEq] at f
  obtain ⟨hphase, hfault, hdrives⟩ := f
  exact { h.toKeepsButFault.other e with
    fault := fun hs => by simpa only [State.faultSafe, hphase, hfault, hdrives] using h.fault hs }

/-- The refresh of FAULT ends what was still to be done. -/
theorem State.KeepsButFault.refreshFault (h : s.KeepsButFault t) : s.Keeps t.refreshFault :=
  { h.other rfl with fault := fun _ hp => if_neg hp }

/-- A fold keeps what each of its steps keeps. -/
theorem State.Keeps.foldl {α : Type} {f : State → α → State} {l : List α} (h : s.Keeps t)
    (hf : ∀ u a, s.Keeps u → s.Keeps (f u a)) : s.Keeps (l.foldl f t) := by
  induction l generalizing t with
  | nil => exact h
  | cons a l ih => exact ih (hf t a h)

theorem State.Keeps.ite {p : Prop} [Decidable p] (ht : p → s.Keeps t) (hu : ¬p → s.Keeps u) : s.Keeps (if p then t else u) := by
  split
  · exact ht ‹_›
  · exact hu ‹_›

/-! ## Notices and the router -/

/-- A notice queued keeps the queue in bounds and ATTN high (R191). -/
theorem State.hostSafe_notify (h : t.hostSafe) (b : NoticeBody) : (t.notify b).hostSafe := by
  obtain ⟨htx, hitems, -, hsafe, hphase⟩ := h
  refine ⟨htx, ?_, ?_, hsafe, hphase⟩
  · by_cases hl : t.notices.items.length < 64 <;> simp [NoticeQueue.push, hl]; omega
  · by_cases hl : t.notices.items.length < 64
    · simp [NoticeQueue.push, hl]
    · have : t.notices.items ≠ [] := by rintro e; simp [e] at hl
      simp [NoticeQueue.push, hl, this]

theorem State.KeepsButFault.notify {b : NoticeBody} (h : s.KeepsButFault t) : s.KeepsButFault (t.notify b) :=
  { memory := h.memory, host := fun hs => State.hostSafe_notify (h.host hs) b, cache := h.cache }

theorem State.Keeps.notify {b : NoticeBody} (h : s.Keeps t) : s.Keeps (t.notify b) :=
  { h.toKeepsButFault.notify with fault := h.fault }

theorem State.KeepsButFault.enterStandalone {c : StandaloneCause} (h : s.KeepsButFault t) :
    s.KeepsButFault (t.enterStandalone c) := by
  unfold State.enterStandalone; split
  · exact h
  · exact .notify (.other h rfl)

theorem State.Keeps.enterStandalone {c : StandaloneCause} (h : s.Keeps t) : s.Keeps (t.enterStandalone c) := by
  unfold State.enterStandalone; split
  · exact h
  · exact .notify (.other h rfl rfl)

theorem State.Keeps.escalate (h : s.Keeps t) : s.Keeps t.escalate :=
  .enterStandalone (.notify (.other h rfl rfl))

theorem State.KeepsButFault.actOn {b : Begun} (h : s.KeepsButFault t) : s.KeepsButFault (t.actOn b) := by
  unfold State.actOn
  extract_lets plan s1 s2 s3
  have h1 : s.KeepsButFault s1 := by unfold s1; split; exacts [h.notify, h]
  have h2 : s.KeepsButFault s2 := by
    unfold s2; split
    · split; exacts [h1.other rfl, h1]
    · exact h1
  have h3 : s.KeepsButFault s3 := by unfold s3; split; exacts [h2.enterStandalone, h2]
  split; exacts [h3.other rfl, h3]

/-- A condition that begins while the configuration is read moves no pin; the router acts later (R174). -/
theorem State.Keeps.beginCondition {x : FaultSource} (h : s.Keeps t) : s.Keeps (t.beginCondition x) := by
  unfold State.beginCondition
  extract_lets e b u
  split
  · exact h
  · split
    · rename_i hp
      exact { h.toKeepsButFault.other rfl with fault := fun _ hn => absurd hp hn }
    · exact (h.toKeepsButFault.other rfl : s.KeepsButFault u).actOn.refreshFault

/-- A new entry of the same mark and plan drives FAULT as the old one did. -/
theorem Router.drivesFault_setEntry (r : Router) (x : FaultSource) (e : FaultEntry)
    (hr : e.raised = (r.entry x).raised) (hp : e.plan = (r.entry x).plan) : (r.setEntry x e).drivesFault = r.drivesFault := by
  have hmap : (r.setEntry x e).entries.map (fun y => y.raised && y.plan.pin) = r.entries.map fun y => y.raised && y.plan.pin := by
    ext i hi
    by_cases hx : x.index.val = i
    · subst hx; simp [Router.setEntry, hr, hp, Router.entry]
    · simp [Router.setEntry, hx]
  have := congrArg (fun v => v.toList.any id) hmap
  simpa [Router.drivesFault, List.any_map, Function.comp_def] using this

theorem State.Keeps.endCondition {x : FaultSource} (h : s.Keeps t) : s.Keeps (t.endCondition x) := by
  refine .other h rfl ?_
  simp only [State.watchedFault, State.endCondition]
  rw [Router.drivesFault_setEntry] <;> rfl

theorem State.Keeps.setCondition {x : FaultSource} {p : Bool} (h : s.Keeps t) : s.Keeps (t.setCondition x p) := by
  unfold State.setCondition; split; exacts [h.beginCondition, h.endCondition]

theorem State.Keeps.journalReview (h : s.Keeps t) : s.Keeps t.journalReview := h.setCondition.setCondition

theorem State.KeepsButFault.reviewRouter {m : Bool} (h : s.KeepsButFault t) : s.Keeps (t.reviewRouter m) := by
  have hr := h.refreshFault
  unfold State.reviewRouter
  extract_lets u
  split
  · exact .other hr rfl rfl
  · split; exacts [.other hr rfl rfl, hr]

end Sys2Proof.Machine
end

section
/-! PROOF. What every step keeps: the cache and the port. -/
namespace Sys2Proof.Machine
set_option Elab.async false
variable {s t u : State}

/-! ## Slots -/

/-- Two slots name the same records, and both are EMPTY or neither. -/
def Slot.alike (x y : Slot) : Prop := x.key = y.key ∧ x.incoming = y.incoming ∧ (x.state = .empty ↔ y.state = .empty)

/-- Two states whose slots are alike, in the same recency order, are both safe or neither. -/
theorem State.cacheSafe_of_alike (h : t.cacheSafe) (hx : ∀ i, (u.slot i).alike (t.slot i))
    (hr : u.cache.recency = t.cache.recency) : u.cacheSafe := by
  simp only [Slot.alike] at hx
  simpa only [State.cacheSafe, Slot.names, ne_eq, (hx _).1, (hx _).2.1, (hx _).2.2, hr] using h

/-- What the invariants look at besides the cache. -/
def State.watchedOutside (s : State) :=
  (s.mem, (s.port.job, s.port.data), (s.link.tx, s.notices.items, s.pins.attn, s.pins.safe, s.startUp.phase, s.power.state),
    s.watchedFault)

/-- An update of the cache alone that leaves it safe. -/
theorem State.Keeps.ofCache (h : s.Keeps t) (e : u.watchedOutside = t.watchedOutside) (hc : s.cacheSafe → t.cacheSafe → u.cacheSafe) :
    s.Keeps u := by
  simp only [State.watchedOutside, State.watchedFault, Prod.mk.injEq] at e
  obtain ⟨hmem, ⟨hjob, hdata⟩, ⟨htx, hitems, hattn, hsafe, hphase, hpower⟩, -, hfault, hdrives⟩ := e
  refine { memory := fun hs => ?_, host := fun hs => ?_, cache := fun hs => hc hs (h.cache hs), fault := fun hs => ?_ }
  · simpa only [State.memorySafe, Port.fits, hmem, hjob, hdata] using h.memory hs
  · simpa only [State.hostSafe, htx, hitems, hattn, hsafe, hphase, hpower] using h.host hs
  · simpa only [State.faultSafe, hphase, hfault, hdrives] using h.fault hs

theorem State.Keeps.ofAlike (h : s.Keeps t) (e : u.watchedOutside = t.watchedOutside) (hx : ∀ i, (u.slot i).alike (t.slot i))
    (hr : u.cache.recency = t.cache.recency) : s.Keeps u :=
  h.ofCache e fun _ ht => State.cacheSafe_of_alike ht hx hr

theorem State.slot_setSlot (s : State) (i j : Fin 128) (x : Slot) : (s.setSlot i x).slot j = if j = i then x else s.slot j := by
  by_cases h : j = i
  · simp [h]
  · simp [h, Ne.symm h]

theorem State.Keeps.setSlot {i : Fin 128} {x : Slot} (h : s.Keeps t) (hx : x.alike (t.slot i)) : s.Keeps (t.setSlot i x) := by
  refine h.ofAlike rfl (fun j => ?_) rfl
  rw [State.slot_setSlot]
  split
  · next e => rw [e]; exact hx
  · exact ⟨rfl, rfl, Iff.rfl⟩

theorem Slot.alike_refl (x : Slot) : x.alike x := ⟨rfl, rfl, Iff.rfl⟩

/-- An update of every slot by one function. -/
theorem State.Keeps.mapSlots {f : Slot → Slot} (h : s.Keeps t) (hf : ∀ x : Slot, (f x).alike x) :
    s.Keeps { t with cache := { t.cache with slots := t.cache.slots.map f } } :=
  h.ofAlike rfl (fun i => by simpa [State.slot] using hf (t.slot i)) rfl

/-- The touched slot stands once in the recency order, first (R32). -/
theorem State.Keeps.touch {i : Fin 128} (h : s.Keeps t) : s.Keeps (t.touch i) := by
  refine h.ofCache rfl fun _ ⟨hempty, hfull, honce, hself, hnodup⟩ => ⟨hempty, fun j hj => ⟨(hfull j hj).1, ?_⟩, honce, hself, ?_⟩
  · by_cases e : j = i
    · simp [State.touch, e]
    · simpa [State.touch, e, List.mem_erase_of_ne] using (hfull j hj).2
  · simpa [State.touch] using ⟨hnodup.not_mem_erase, hnodup.erase i⟩

theorem State.Keeps.placeHold {l : Fin 4} {d : Nat} {k : RecKey} {i : Fin 128} (h : s.Keeps t) :
    s.Keeps (t.placeHold l d k i) := h.setSlot ⟨rfl, rfl, Iff.rfl⟩

theorem State.Keeps.prune {l : Fin 4} {d : Nat} {keep : List RecKey} (h : s.Keeps t) : s.Keeps (t.prune l d keep) :=
  h.mapSlots fun _ => ⟨rfl, rfl, Iff.rfl⟩

theorem State.Keeps.change {i : Fin 128} {r : Rec} (h : s.Keeps t) : s.Keeps (t.change i r) := by
  refine (h.setSlot ?_).touch
  cases hs : (t.slot i).state <;> simp [Slot.alike, hs]

theorem State.flushCompleted_slot (t : State) (i j : Fin 128) (ok : Bool) : (t.flushCompleted i ok).slot j = t.slot j := by
  unfold State.flushCompleted State.flushReview
  split
  · split <;> rfl
  · rfl

theorem State.Keeps.flushReview (h : s.Keeps t) : s.Keeps t.flushReview := by
  unfold State.flushReview; split
  · split
    · exact .notify (.other h rfl rfl)
    · exact h
  · exact h

theorem State.Keeps.flushCompleted {i : Fin 128} {ok : Bool} (h : s.Keeps t) : s.Keeps (t.flushCompleted i ok) :=
  .flushReview (.other h rfl rfl)

/-! ## The port -/

theorem sealBlock_length (bs : List Byte) : (sealBlock bs).length = bs.length + 2 := by simp [sealBlock, be_length]

theorem guestBytes_length (g : Guest) : (guestBytes g).length = 62 := by
  unfold guestBytes cardIdBytes
  repeat rw [List.length_append]
  repeat rw [be_length]
  rw [List.length_replicate]

theorem folioBytes_length (f : Folio) : (folioBytes f).length = 30 := by
  simp only [folioBytes, List.length_append, be_length, List.length_replicate]

theorem Rec.block_length (r : Rec) : r.block.length ≤ 64 := by
  cases r with
  | guest g => rw [Rec.block, sealBlock_length, guestBytes_length]
  | folio f => rw [Rec.block, sealBlock_length, folioBytes_length]; decide

theorem postingBytes_length (p : Posting) : (postingBytes p).length = 30 := by simp [postingBytes, be_length]

theorem bindingBytes_length (b : Option Binding) : (bindingBytes b).length = 8 := by
  cases b <;> simp [bindingBytes, be_length]

theorem optBytes_length (n : Nat) (o : Option Nat) : (optBytes n o).length = n + 1 := by
  cases o <;> simp [optBytes, be_length]

/-- A configuration block's content has the size of its form (12.7). -/
theorem State.confContent_length (s : State) (b : ConfBlock) : (s.confContent b).length = b.size := by
  cases b <;>
    simp [State.confContent, ConfBlock.size, settingsBytes, faultPlanBytes, profileBytes, planBytes, sitesBytes, musterBytes,
      marksBytes, clockBytes, be_length, List.length_flatten, Function.comp_def, bindingBytes_length, optBytes_length]

theorem ConfBlock.size_le (b : ConfBlock) : b.size ≤ 128 := by cases b <;> simp [ConfBlock.size]

theorem State.targetBlock_length (s : State) (w : WriteTarget) : (s.targetBlock w).length ≤ 130 := by
  match w with
  | .conf b =>
    have := ConfBlock.size_le b
    simp only [State.targetBlock, sealBlock_length, State.confContent_length]; omega
  | .record (.guest _) => exact (Rec.block_length (.guest Guest.blank)).trans (by decide)
  | .record (.folio _) => exact (Rec.block_length (.folio Folio.blank)).trans (by decide)

/-- The block a job takes along fits the regions (R23). -/
theorem State.jobData_fits (s : State) (j : Job) : (s.jobData j).length ≤ match j with | .commit => 32 | _ => 130 := by
  have content (i : Fin 128) :
      (match (s.slot i).content with | some r => r.block | none => []).length ≤ 130 := by
    split
    · exact (Rec.block_length _).trans (by decide)
    · simp
  cases j with
  | writeBack i => exact content i
  | pair i => exact content i
  | commit =>
    simp only [State.jobData]; split
    · simp [sealBlock_length, postingBytes_length]
    · simp
  | confWrite w o => exact s.targetBlock_length w
  | _ => simp [State.jobData]

/-- An update of the job at work whose block fits. -/
theorem State.Keeps.ofPort (h : s.Keeps t) {p : Port} (hp : p.fits) : s.Keeps { t with port := p } :=
  { memory := fun hs =>
      have ⟨⟨hwf, _⟩, hr⟩ := h.memory hs
      ⟨⟨hwf, hp⟩, hr⟩
    host := h.host, cache := h.cache, fault := h.fault }

theorem State.Keeps.takenSlot {j : Job} (h : s.Keeps t) : s.Keeps (t.takenSlot j) := by
  unfold State.takenSlot; split
  · split
    · next hs => exact h.setSlot (by simp [Slot.alike, hs])
    · exact h
  · exact h

theorem State.Keeps.startJob {j : Job} (h : s.Keeps t) : s.Keeps (t.startJob j) := by
  refine State.Keeps.takenSlot (.ofPort h ?_)
  have := t.jobData_fits j
  unfold Port.fits
  cases j <;> exact this

theorem State.Keeps.pump (h : s.Keeps t) : s.Keeps t.pump := by
  unfold State.pump; split; exacts [h.startJob, h]

theorem State.Keeps.enqueue {j : Job} (h : s.Keeps t) : s.Keeps (t.enqueue j) := .pump (.other h rfl rfl)

theorem State.Keeps.queueWriteBack {i : Fin 128} (h : s.Keeps t) : s.Keeps (t.queueWriteBack i) :=
  .enqueue (.setSlot h ⟨rfl, rfl, Iff.rfl⟩)

theorem State.Keeps.awaitPlace {w : PlaceWaiter} (h : s.Keeps t) : s.Keeps (t.awaitPlace w) := by
  unfold State.awaitPlace; split; exacts [h, .other h rfl rfl]

theorem State.Keeps.unitWrite {b : ConfBlock} (h : s.Keeps t) : s.Keeps (t.unitWrite b) := by
  unfold State.unitWrite; split; exacts [h.enqueue, h.awaitPlace]

theorem State.Keeps.markClock (h : s.Keeps t) : s.Keeps t.markClock := .unitWrite (.other h rfl rfl)

theorem State.Keeps.evaluateDay (h : s.Keeps t) : s.Keeps t.evaluateDay := by
  unfold State.evaluateDay; split; exacts [.markClock (.other h rfl rfl), h]

theorem State.Keeps.urgentWrite {i : Fin 128} (h : s.Keeps t) : s.Keeps (t.urgentWrite i) := by
  unfold State.urgentWrite
  extract_lets x
  split
  · split
    · exact h
    · split; exacts [h.queueWriteBack, h.setSlot ⟨rfl, rfl, Iff.rfl⟩]
  · exact h.setSlot ⟨rfl, rfl, Iff.rfl⟩
  · exact h

theorem State.Keeps.sweepFrom {wants : State → Fin 128 → Bool} {w : PlaceWaiter} {is : List (Fin 128)} (h : s.Keeps t) :
    s.Keeps (State.sweepFrom wants w is t) := by
  induction is generalizing t with
  | nil => exact h
  | cons i is ih =>
    unfold State.sweepFrom
    split
    · split; exacts [ih h.queueWriteBack, h.awaitPlace]
    · exact ih h

theorem State.Keeps.sweepFlush (h : s.Keeps t) : s.Keeps t.sweepFlush := h.sweepFrom
theorem State.Keeps.sweepEmergency (h : s.Keeps t) : s.Keeps t.sweepEmergency := h.sweepFrom

/-! ## Lookups and misses -/

/-- A record that a lookup misses is named by no slot (R31, R32). -/
theorem State.cacheSafe.not_names {k : RecKey} (h : t.cacheSafe) (hk : t.find k = .miss) (i : Fin 128) : ¬(t.slot i).names k := by
  obtain ⟨hempty, -⟩ := h
  have hno : (t.slot i).has k = false ∧ (t.slot i).brings k = false := by
    unfold State.find State.holder at hk
    split at hk
    · contradiction
    · next hh =>
      split at hk
      · contradiction
      · next hb =>
        simp only [List.find?_eq_none, List.mem_finRange, forall_const] at hh hb
        exact ⟨by simpa using hh i, by simpa using hb i⟩
  intro hn
  cases hs : (t.slot i).state with
  | empty => exact hempty i hs k hn
  | _ => rcases hn with hn | hn <;> simp [Slot.has, Slot.brings, hs, hn] at hno

/-- A slot given over to one more record, which no slot named. -/
theorem State.cacheSafe_give {i : Fin 128} {x : Slot} {k : RecKey} (h : t.cacheSafe) (hk : ∀ j, ¬(t.slot j).names k)
    (hstate : x.state ≠ .empty) (hkey : x.key ≠ none) (hnames : ∀ l, x.names l → l = k ∨ (t.slot i).names l)
    (hself : ∀ l, x.key = some l → x.incoming ≠ some l) : ((t.setSlot i x).touch i).cacheSafe := by
  obtain ⟨hempty, hfull, honce, hself', hnodup⟩ := h
  have slot_eq (j : Fin 128) : ((t.setSlot i x).touch i).slot j = if j = i then x else t.slot j := t.slot_setSlot i j x
  refine ⟨fun j hj => ?_, fun j hj => ?_, fun j j' l hl hl' => ?_, fun j l hl => ?_, ?_⟩
  · rw [slot_eq] at hj ⊢
    split at hj
    · exact absurd hj hstate
    · next e => simpa [e] using hempty j hj
  · rw [slot_eq] at hj ⊢
    by_cases e : j = i
    · simp [e, hkey, State.touch]
    · simp only [e, if_false] at hj ⊢
      simpa [State.touch, e, List.mem_erase_of_ne, State.setSlot] using hfull j hj
  · rw [slot_eq] at hl hl'
    by_cases e : j = i <;> by_cases e' : j' = i <;> simp only [e, e', if_true, if_false] at hl hl' ⊢
    · rcases hnames l hl with rfl | hl
      · exact absurd hl' (hk j')
      · exact absurd (honce i j' l hl hl').symm e'
    · rcases hnames l hl' with rfl | hl'
      · exact absurd hl (hk j)
      · exact absurd (honce j i l hl hl') e
    · exact honce j j' l hl hl'
  · rw [slot_eq] at hl ⊢
    split at hl
    · next e => simpa [e] using hself l hl
    · next e => simpa [e] using hself' j l hl
  · simpa [State.touch, State.setSlot] using ⟨hnodup.not_mem_erase, hnodup.erase i⟩

theorem State.Keeps.missStarted (h : s.Keeps t) : s.Keeps t.missStarted := .endCondition (.other h rfl rfl)

theorem State.Keeps.missStuck (h : s.Keeps t) : s.Keeps t.missStuck := .other h rfl rfl

theorem State.Keeps.claimFill {i : Fin 128} {k : RecKey} {ws : List Waiter} (h : s.Keeps t)
    (hk : s.cacheSafe → ∀ j, ¬(t.slot j).names k) : s.Keeps (t.claimFill i k ws) := by
  refine .enqueue (.missStarted (.ofCache h rfl fun hs ht => State.cacheSafe_give (k := k) ht (hk hs) ?_ ?_ ?_ ?_))
  all_goals simp [Slot.names, Slot.blank, eq_comm]

theorem State.Keeps.claimPair {i : Fin 128} {k : RecKey} {ws : List Waiter} (h : s.Keeps t)
    (hk : s.cacheSafe → ∀ j, ¬(t.slot j).names k) (hs : (t.slot i).state ≠ .empty) : s.Keeps (t.claimPair i k ws) := by
  refine .enqueue (.missStarted (.ofCache h rfl fun hc ht =>
    State.cacheSafe_give (k := k) ht (hk hc) (by simp) (ht.2.1 i hs).1 ?_ ?_))
  · rintro l (hl | hl)
    · exact .inr (.inl hl)
    · exact .inl (Option.some.inj hl).symm
  · intro l hl he
    exact hk hc i (.inl (by rw [hl, ← he]))

theorem State.Keeps.claim {k : RecKey} {ws : List Waiter} (h : s.Keeps t) (hk : s.cacheSafe → ∀ j, ¬(t.slot j).names k)
    (e : t.claim k ws = some u) : s.Keeps u := by
  unfold State.claim at e
  split at e
  · contradiction
  · next i _ =>
    split at e
    · next hs =>
      split at e
      · cases e; exact h.claimPair hk (by simp [hs])
      · contradiction
    · split at e
      · cases e; exact h.claimFill hk
      · contradiction

theorem State.Keeps.ask {k : RecKey} {w : Waiter} {a : Access} (h : s.Keeps t) (e : t.ask k w = (u, a)) : s.Keeps u := by
  unfold State.ask at e
  split at e
  · cases e; exact h.touch
  · cases e; exact .touch (.setSlot h ⟨rfl, rfl, Iff.rfl⟩)
  · next hk =>
    split at e
    · next v hc =>
      have hv : s.Keeps v := h.claim (fun hs => (h.cache hs).not_names hk) hc
      split at e <;> (cases e; exact hv)
    · cases e; exact h.missStuck

end Sys2Proof.Machine
end

section
/-! PROOF. What every step keeps: readers, counts, the census, the commit list, the deciding blocks. -/
namespace Sys2Proof.Machine
set_option Elab.async false
variable {s t u : State}

/-! ## Replies -/

theorem State.Keeps.setWork {w : Work} (h : s.Keeps t) : s.Keeps (t.setWork w) := .other h rfl rfl

/-- A new transmit list within its eight places (R190). -/
theorem State.Keeps.ofLink (h : s.Keeps t) {l : HostLink} (hl : t.link.tx.length ≤ 8 → l.tx.length ≤ 8) :
    s.Keeps { t with link := l } :=
  { memory := h.memory
    host := fun hs =>
      have ⟨htx, hrest⟩ := h.host hs
      ⟨hl htx, hrest⟩
    cache := h.cache, fault := h.fault }

theorem State.Keeps.finish {r : Result} {b : ReplyBody} (h : s.Keeps t) : s.Keeps (t.finish r b) := by
  unfold State.finish
  split
  · exact h
  · refine .ofLink h fun ht => ?_
    split
    · next hl => rw [List.length_append]; exact hl
    · exact ht

theorem State.Keeps.replyBusy {tag : Tag} {k : Byte} (h : s.Keeps t) : s.Keeps (t.replyBusy tag k) := by
  refine .ofLink h fun ht => ?_
  dsimp only; split
  · next hl => rw [List.length_append]; exact hl
  · exact ht

theorem State.Keeps.frameArrived (h : s.Keeps t) : s.Keeps t.frameArrived := .endCondition (.other h rfl rfl)

/-! ## Reader entries and verdicts -/

theorem State.Keeps.modEntry {l : Fin 4} {d : Nat} {f : Entry → Entry} (h : s.Keeps t) : s.Keeps (t.modEntry l d f) :=
  .other h rfl rfl
theorem State.Keeps.modLine {n : Fin 4} {f : Line → Line} (h : s.Keeps t) : s.Keeps (t.modLine n f) := .other h rfl rfl
theorem State.Keeps.markCommits {n : Fin 4} {d : Nat} {r : CommitReader} (h : s.Keeps t) : s.Keeps (t.markCommits n d r) :=
  .other h rfl rfl

theorem State.Keeps.makeOutgoing {l : Fin 4} {d : Nat} {q : Byte} {v : Verdict} (h : s.Keeps t) :
    s.Keeps (t.makeOutgoing l d q v) := by
  unfold State.makeOutgoing; split; exacts [h, h.modEntry.modLine]

theorem State.Keeps.reportUndelivered {e : Entry} {o : Outgoing} {c : UndeliveredCause} (h : s.Keeps t) :
    s.Keeps (t.reportUndelivered e o c) := by
  unfold State.reportUndelivered; split; exacts [h.notify, h]

theorem State.Keeps.dropOutgoing {e : Entry} {c : UndeliveredCause} (h : s.Keeps t) : s.Keeps (t.dropOutgoing e c) := by
  unfold State.dropOutgoing; split; exacts [h, h.reportUndelivered.modEntry]

theorem State.Keeps.giveFinal {l : Fin 4} {d : Nat} {q : Byte} {v : Verdict} (h : s.Keeps t) : s.Keeps (t.giveFinal l d q v) :=
  h.modEntry.prune.makeOutgoing

theorem State.Keeps.defer {l : Fin 4} {d : Nat} {q : Byte} (h : s.Keeps t) : s.Keeps (t.defer l d q) := h.makeOutgoing

theorem State.Keeps.decideLock {l : Fin 4} {d : Nat} {q : Byte} {c : CardId} {r : Option (Fin 2048)} {v : Verdict}
    (h : s.Keeps t) : s.Keeps (t.decideLock l d q c r v) := h.modEntry.giveFinal

theorem State.Keeps.deny {e : Entry} {q : Byte} {c : CardId} {r : Option (Fin 2048)} {z : Reason} (h : s.Keeps t) :
    s.Keeps (t.deny e q c r z) := by
  unfold State.deny; split; exacts [h.decideLock, h.giveFinal]

theorem State.Keeps.failWaiter {w : Waiter} (h : s.Keeps t) : s.Keeps (t.failWaiter w) := by
  unfold State.failWaiter
  split
  · exact h.finish
  · split
    · exact h
    · split; exacts [h.deny, h]

/-! ## Counts and presence -/

theorem State.Keeps.countOut {n : Fin 2048} {m : Bool} (h : s.Keeps t) : s.Keeps (t.countOut n m) :=
  .other h (by simp [State.watchedButFault]) (by simp [State.watchedFault])
theorem State.Keeps.countIn {n : Fin 2048} {g : Guest} {m : Bool} (h : s.Keeps t) : s.Keeps (t.countIn n g m) :=
  .other h (by simp [State.watchedButFault]) (by simp [State.watchedFault])
theorem State.Keeps.recount {n : Fin 2048} {g : Guest} (h : s.Keeps t) : s.Keeps (t.recount n g) :=
  .other h (by simp [State.watchedButFault]) (by simp [State.watchedFault])
theorem State.Keeps.musterIn {n : Fin 2048} (h : s.Keeps t) : s.Keeps (t.musterIn n) :=
  .other h (by simp [State.watchedButFault]) (by simp [State.watchedFault])

theorem State.Keeps.presenceChange {i : Fin 128} {n : Fin 2048} {g : Guest} {p : Presence} {x : Option (Fin 4)} (h : s.Keeps t) :
    s.Keeps (t.presenceChange i n g p x) := by
  unfold State.presenceChange
  extract_lets g' u
  have hu : s.Keeps u := h.change
  exact .urgentWrite (.ite (fun _ => hu.countOut.countIn) fun _ => hu)

theorem State.Keeps.clearLeft {n : Fin 2048} {g : Guest} (h : s.Keeps t) : s.Keeps (t.clearLeft n g) := by
  unfold State.clearLeft
  split
  · split; exacts [h.notify, h]
  · exact h

theorem State.Keeps.overdue {x : Fin 4} {d : Nat} (h : s.Keeps t) : s.Keeps (t.overdue x d) :=
  .notify (.unitWrite (.other h rfl rfl))

/-! ## The census -/

theorem State.Keeps.censusReads {fuel : Nat} (h : s.Keeps t) : s.Keeps (State.censusReads fuel t) := by
  induction fuel generalizing t with
  | zero => exact h
  | succ fuel ih =>
    unfold State.censusReads
    extract_lets c
    split
    · split
      · exact ih (.enqueue (.other h rfl rfl))
      · exact h.awaitPlace
    · exact h

theorem State.Keeps.beginCensus {c : CensusCause} (h : s.Keeps t) : s.Keeps (t.beginCensus c) := .censusReads (.other h rfl rfl)

theorem State.Keeps.censusCard {n : Fin 2048} {k : Fin 2} {c : Option Card} (h : s.Keeps t) : s.Keeps (t.censusCard n k c) := by
  unfold State.censusCard
  split
  · exact h
  · split; exacts [.other h rfl rfl, .other h rfl rfl]

theorem State.Keeps.censusCount {n : Fin 2048} {g : Guest} (h : s.Keeps t) : s.Keeps (t.censusCount n g) := by
  unfold State.censusCount
  split
  · exact h
  · extract_lets u v
    have hu : s.Keeps u := h.censusCard.censusCard
    have hv : s.Keeps v := by
      unfold v; split
      · split; exacts [hu.overdue, hu]
      · exact hu
    exact hv.countOut.countIn

theorem State.Keeps.clearEmptySites (h : s.Keeps t) : s.Keeps t.clearEmptySites :=
  h.foldl fun _ _ hu => .ite (fun _ => hu.notify) fun _ => hu

/-- A later phase of start-up, the configuration read already (R197, R198). -/
theorem State.Keeps.laterPhase (h : s.Keeps t) {x : StartUp} (ht : t.startUp.phase ≠ .readingConfig)
    (hx : x.phase ≠ .readingConfig) : s.Keeps { t with startUp := x } :=
  { memory := h.memory
    host := fun hs =>
      have ⟨htx, hitems, hattn, hsafe, _⟩ := h.host hs
      ⟨htx, hitems, hattn, hsafe, fun e => absurd e hx⟩
    cache := h.cache
    fault := fun hs _ => h.fault hs ht }

theorem State.Keeps.startUpReview (h : s.Keeps t) : s.Keeps t.startUpReview := by
  unfold State.startUpReview
  split
  · next hp => exact .notify (h.laterPhase (by simp [hp.1]) (by simp))
  · exact h

theorem State.Keeps.censusReview (h : s.Keeps t) : s.Keeps t.censusReview := by
  unfold State.censusReview
  extract_lets c _ u v
  split
  · have hu : s.Keeps u := .clearEmptySites (.other h rfl rfl)
    have hv : s.Keeps v := hu.notify
    clear_value v
    split
    · exact .startUpReview (.other hv rfl rfl)
    · exact hv
  · exact h

theorem State.Keeps.censusTaken {n : Fin 2048} {g : Option Guest} (h : s.Keeps t) : s.Keeps (t.censusTaken n g) := by
  unfold State.censusTaken
  split
  · extract_lets u
    have hu : s.Keeps u := by unfold u; split; exacts [h.censusCount, .other h rfl rfl]
    exact .censusReview (.awaitPlace (.other hu rfl rfl))
  · exact h

theorem State.Keeps.censusInstant {n : Fin 2048} {i : Fin 128} (h : s.Keeps t) : s.Keeps (t.censusInstant n i) :=
  .censusTaken (.touch (.other h rfl rfl))

/-! ## The commit list -/

theorem State.Keeps.queueCommits {fuel : Nat} (h : s.Keeps t) : s.Keeps (State.queueCommits fuel t) := by
  induction fuel generalizing t with
  | zero => exact h
  | succ fuel ih =>
    unfold State.queueCommits
    split
    · exact ih (.enqueue (.other h rfl rfl))
    · exact h

theorem State.Keeps.modPending {k : RecKey} {f : Nat → Nat} (h : s.Keeps t) : s.Keeps (t.modPending k f) := by
  unfold State.modPending; split; exacts [h.setSlot ⟨rfl, rfl, Iff.rfl⟩, h]

/-! ## The deciding blocks -/

theorem State.Keeps.gatherFolio {e : Entry} {w : Waiter} {k : RecKey} {i : Fin 128} {g : Guest} {f : Fin 1024} {a : Gathered}
    (h : s.Keeps t) (he : t.gatherFolio e w k i g f = (u, a)) : s.Keeps u := by
  unfold State.gatherFolio at he
  split at he
  · split at he
    · cases he; exact h.touch
    · cases he; exact h
  · split at he
    · next ha => cases he; exact (h.placeHold.ask ha).placeHold.prune
    · next ha => cases he; exact (h.placeHold.ask ha).prune

theorem State.Keeps.gather {e : Entry} {q : Byte} {c : CardId} {x : IndexEntry} {b : Bool} {a : Gathered} (h : s.Keeps t)
    (he : t.gather e q c x b = (u, a)) : s.Keeps u := by
  unfold State.gather at he
  extract_lets k w at he
  split at he
  · next ha =>
    have hv := h.ask ha
    split at he
    · split at he
      · exact hv.gatherFolio he
      · cases he; exact hv
    · cases he; exact hv
  · next ha => cases he; exact (h.ask ha).placeHold.prune
  · next ha => cases he; exact (h.ask ha).prune

theorem State.Keeps.denyNoting {e : Entry} {q : Byte} {c : CardId} {n : Fin 2048} {g : Guest} {a : AnomalyCause} {r : Reason}
    (h : s.Keeps t) : s.Keeps (t.denyNoting e q c n g a r) := by
  unfold State.denyNoting
  split
  · exact .deny (.notify h)
  · exact .deny (.notify h)
  · exact h.deny

theorem State.Keeps.deferUnindexed {e : Entry} {q : Byte} (h : s.Keeps t) : s.Keeps (t.deferUnindexed e q) := h.prune.defer

theorem State.Keeps.lockDecide {e : Entry} {q : Byte} {c : CardId} (h : s.Keeps t) : s.Keeps (t.lockDecide e q c) := by
  unfold State.lockDecide
  split
  · exact h.deny
  · extract_lets p
    split
    · exact h.deny
    · exact h.deferUnindexed
    · split
      · next hg => exact (h.gather hg).defer
      · next hg =>
        have hu := h.gather hg
        split; exacts [hu.denyNoting, hu.decideLock]

theorem State.Keeps.acceptSale {e : Entry} {q : Byte} {b : Binding} {n : Fin 2048} {i : Fin 128} {g : Guest} {j : Fin 128}
    {f : Fin 1024} {x : Folio} {v : SaleFigures} (h : s.Keeps t) : s.Keeps (t.acceptSale e q b n i g j f x v) := by
  unfold State.acceptSale
  extract_lets c u1 _ u2 _ u3 _ u4 u5
  have h1 : s.Keeps u1 := h.change.change
  have h2 : s.Keeps u2 := h1.setSlot ⟨rfl, rfl, Iff.rfl⟩
  have h3 : s.Keeps u3 := h2.setSlot ⟨rfl, rfl, Iff.rfl⟩
  have h4 : s.Keeps u4 := .other h3 rfl rfl
  exact h4.modEntry.prune.defer.queueCommits.journalReview

theorem State.Keeps.evaluateSale {e : Entry} {q : Byte} {b : Binding} {p : Profile} {ls : List SaleLine} {n : Fin 2048}
    {i : Fin 128} {g : Guest} {j : Fin 128} {f : Fin 1024} {x : Folio} (h : s.Keeps t) :
    s.Keeps (t.evaluateSale e q b p ls n i g j f x) := by
  unfold State.evaluateSale
  split
  · exact h.giveFinal
  · extract_lets v
    split; exacts [h.giveFinal, h.acceptSale]

theorem State.Keeps.saleDecide {e : Entry} {q : Byte} {c : CardId} {ls : List SaleLine} (h : s.Keeps t) :
    s.Keeps (t.saleDecide e q c ls) := by
  unfold State.saleDecide
  split
  · exact h.deny
  · extract_lets p
    split
    · exact h.deny
    · split
      · exact h.deny
      · exact h.deferUnindexed
      · split
        · next hg => exact (h.gather hg).defer
        · next hg =>
          have hu := h.gather hg
          split
          · exact hu.denyNoting
          · split
            · exact hu.deny
            · split; exacts [hu.deny, hu.evaluateSale]

theorem State.Keeps.laneRepeat {e : Entry} {q : Byte} {g : Guest} (h : s.Keeps t) : s.Keeps (t.laneRepeat e q g) := h.giveFinal

theorem State.Keeps.laneOut {e : Entry} {q : Byte} {c : CardId} {b : Binding} {n : Fin 2048} {i : Fin 128} {g : Guest}
    (h : s.Keeps t) : s.Keeps (t.laneOut e q c b n i g) := by
  unfold State.laneOut
  split
  · exact h.laneRepeat
  · split
    · exact h.deny
    · split
      · exact h.deny
      · split; exacts [h.deny, h.deny, h.deny, h.presenceChange.giveFinal]
  · exact h.deny

theorem State.Keeps.laneReturn {e : Entry} {q : Byte} {b : Binding} {n : Fin 2048} {i : Fin 128} {g : Guest} {x : Fin 4}
    (h : s.Keeps t) : s.Keeps (t.laneReturn e q b n i g x) := by
  unfold State.laneReturn
  extract_lets late deadline u count v
  have hu : s.Keeps u := h.presenceChange
  have hv : s.Keeps v := .ite (fun _ => hu.notify) fun _ => hu
  exact hv.clearLeft.giveFinal

theorem State.Keeps.laneIn {e : Entry} {q : Byte} {c : CardId} {b : Binding} {n : Fin 2048} {i : Fin 128} {g : Guest}
    (h : s.Keeps t) : s.Keeps (t.laneIn e q c b n i g) := by
  unfold State.laneIn
  split
  · split; exacts [h.laneReturn, h.presenceChange.giveFinal]
  · exact h.laneRepeat
  · split; exacts [h.deny, h.presenceChange.giveFinal]
  · exact h.deny

theorem State.Keeps.laneDecide {e : Entry} {q : Byte} {c : CardId} (h : s.Keeps t) : s.Keeps (t.laneDecide e q c) := by
  unfold State.laneDecide
  split
  · exact h.deny
  · split
    · exact h.deny
    · exact h.deferUnindexed
    · split
      · next hg => exact (h.gather hg).defer
      · next hg =>
        have hu := h.gather hg
        split
        · exact hu.denyNoting
        · split; exacts [hu.laneOut, hu.laneIn]

theorem State.Keeps.musterHolder {e : Entry} {q : Byte} {b : Binding} {n : Fin 2048} {i : Fin 128} {g : Guest} (h : s.Keeps t) :
    s.Keeps (t.musterHolder e q b n i g) := by
  unfold State.musterHolder
  extract_lets stamp g' u
  have hu : s.Keeps u := h.change.musterIn.urgentWrite
  split; exacts [hu.giveFinal, hu.notify.giveFinal]

theorem State.Keeps.musterCount {e : Entry} {q : Byte} {c : CardId} {b : Binding} {n : Fin 2048} {i : Fin 128} {g : Guest}
    (h : s.Keeps t) : s.Keeps (t.musterCount e q c b n i g) := by
  unfold State.musterCount
  split
  · extract_lets g' u
    have hu : s.Keeps u := .clearLeft (.presenceChange (.notify h))
    split; exacts [hu.giveFinal, hu.musterHolder]
  · split; exacts [h.giveFinal, h.musterHolder]

theorem State.Keeps.musterDecide {e : Entry} {q : Byte} {c : CardId} (h : s.Keeps t) : s.Keeps (t.musterDecide e q c) := by
  unfold State.musterDecide
  split
  · exact h.deny
  · split
    · exact h.deny
    · exact h.deferUnindexed
    · split
      · next hg => exact (h.gather hg).defer
      · next hg =>
        have hu := h.gather hg
        split
        · exact hu.deny
        · exact .musterCount (.ite (fun _ => hu.notify) fun _ => hu)

theorem State.Keeps.ownerDecide {e : Entry} {q : Byte} {c : CardId} {ls : List SaleLine} (h : s.Keeps t) :
    s.Keeps (t.ownerDecide e q c ls) := by
  unfold State.ownerDecide; split; exacts [h.lockDecide, h.saleDecide, h.laneDecide, h.laneDecide, h.musterDecide]

end Sys2Proof.Machine
end

section
/-! PROOF. What every step keeps: requests, the requesters waiting for a place, the end of a job, power. -/
namespace Sys2Proof.Machine
set_option Elab.async false
variable {s t u : State}

/-! ## Record requests -/

theorem State.Keeps.putGuest {i : Fin 128} {n : Fin 2048} {g : Guest} (h : s.Keeps t) : s.Keeps (t.putGuest i n g) :=
  h.change.recount.urgentWrite.finish

theorem State.Keeps.putFolio {i : Fin 128} {f : Folio} (h : s.Keeps t) : s.Keeps (t.putFolio i f) := h.change.urgentWrite.finish

theorem State.Keeps.unindexCard {c : CardId} {n : Fin 2048} {k : Fin 2} (h : s.Keeps t) : s.Keeps (t.unindexCard c n k) :=
  .other h rfl rfl

theorem State.Keeps.unindexAll {n : Fin 2048} {g : Guest} (h : s.Keeps t) : s.Keeps (t.unindexAll n g) := by
  unfold State.unindexAll
  extract_lets drop
  have hd (u : State) (k : Fin 2) (hu : s.Keeps u) : s.Keeps (drop u k) := by
    unfold drop; split; exacts [hu.unindexCard, hu]
  exact hd _ _ (hd _ _ h)

theorem State.Keeps.guestPut {i : Fin 128} {n : Fin 2048} {g : Guest} {f : GuestFields} (h : s.Keeps t) :
    s.Keeps (t.guestPut i n g f) := by
  unfold State.guestPut
  split
  · exact h.finish
  · exact .putGuest (.ite (fun _ => h.unindexAll) fun _ => h)

theorem State.Keeps.indexIfService {c : CardId} {n : Fin 2048} {k : Fin 2} (h : s.Keeps t) : s.Keeps (t.indexIfService c n k) := by
  unfold State.indexIfService; split; exacts [.other h rfl rfl, h]

theorem State.Keeps.refuseCard {c : CardId} {n : Fin 2048} {k : Fin 2} (h : s.Keeps t) : s.Keeps (t.refuseCard c n k) := by
  unfold State.refuseCard
  split
  · split <;> exact h.finish
  · exact h.finish

theorem State.Keeps.cardAdd {i : Fin 128} {n : Fin 2048} {g : Guest} {k : Fin 2} {c : CardId} (h : s.Keeps t) :
    s.Keeps (t.cardAdd i n g k c) := by
  unfold State.cardAdd
  split
  · exact h.refuseCard
  · split
    · exact h.indexIfService.putGuest
    · exact h.refuseCard
    · split
      · exact h.refuseCard
      · split
        · split
          · split; exacts [h.finish, h.putGuest]
          · exact h.refuseCard
        · split; exacts [h.indexIfService.finish, h.indexIfService.putGuest]

theorem State.Keeps.cardMarkLost {i : Fin 128} {n : Fin 2048} {g : Guest} {k : Fin 2} {c : CardId} (h : s.Keeps t) :
    s.Keeps (t.cardMarkLost i n g k c) := by
  unfold State.cardMarkLost
  split
  · exact h.finish
  · split
    · exact h.finish
    · split; exacts [h.finish, h.putGuest]

theorem State.Keeps.cardRemove {i : Fin 128} {n : Fin 2048} {g : Guest} {k : Fin 2} {c : CardId} (h : s.Keeps t) :
    s.Keeps (t.cardRemove i n g k c) := by
  unfold State.cardRemove
  split
  · exact h.finish
  · split; exacts [h.finish, h.unindexCard.putGuest]

theorem State.Keeps.presenceSet {i : Fin 128} {n : Fin 2048} {g : Guest} {p : Presence} {x : Option (Fin 4)} (h : s.Keeps t) :
    s.Keeps (t.presenceSet i n g p x) := by
  unfold State.presenceSet
  exact .ite (fun _ => h.finish) fun _ => .ite (fun _ => h.finish) fun _ => .ite (fun _ => h.finish) fun _ =>
    h.presenceChange.clearLeft.finish

theorem State.Keeps.folioPut {i : Fin 128} {f : Folio} {x : FolioStatus} {l a : Nat} {b : Option Int} {c : SaleFlags}
    (h : s.Keeps t) : s.Keeps (t.folioPut i f x l a b c) := by
  unfold State.folioPut; split; exacts [h.finish, h.putFolio]

theorem State.Keeps.folioSettle {i : Fin 128} {n : Fin 1024} {f : Folio} {a : Int} (h : s.Keeps t) :
    s.Keeps (t.folioSettle i n f a) := by
  unfold State.folioSettle
  extract_lets b
  split; exacts [h.finish, h.putFolio]

theorem State.Keeps.applyRecord {req : RecordReq} {i : Fin 128} (h : s.Keeps t) : s.Keeps (t.applyRecord req i) := by
  unfold State.applyRecord
  split
  exacts [h.finish, h.guestPut, h.cardAdd, h.cardMarkLost, h.cardRemove, h.presenceSet, h.finish, h.folioPut, h.folioSettle, h]

theorem State.Keeps.startRecord {req : RecordReq} (h : s.Keeps t) : s.Keeps (t.startRecord req) := by
  unfold State.startRecord
  split
  · exact h.finish
  · split
    · next ha => exact (h.ask ha).applyRecord
    · next ha => exact (h.ask ha).setWork
    · next ha => exact (h.ask ha).setWork.awaitPlace

/-! ## Configuration requests -/

theorem State.Keeps.rebind {r : ReaderSerial} (h : s.Keeps t) : s.Keeps (t.rebind r) := .other h rfl rfl

/-- A request's values go in force; after new fault plans FAULT is still to be refreshed (R182). -/
theorem State.Keeps.putInForce {req : ConfReq} (h : s.Keeps t) (hreq : ∀ ps, req ≠ .faultPlanPut ps) :
    s.Keeps (t.putInForce req) := by
  unfold State.putInForce
  split
  · exact .other h rfl rfl
  · extract_lets _ u _ v
    have hv : s.Keeps v := .other h rfl rfl
    split; exacts [hv.endCondition, hv]
  · exact .other h rfl rfl
  · split; exacts [.rebind (.other h rfl rfl), h]
  · split; exacts [.rebind (.other h rfl rfl), h]
  · exact .other h rfl rfl
  · exact .other h rfl rfl
  · exact .other h rfl rfl
  · exact .other h rfl rfl
  · exact .other h rfl rfl
  · exact .other h rfl rfl
  · exact absurd rfl (hreq _)

theorem State.Keeps.afterForce {old : State} {req : ConfReq} (h : s.Keeps t) : s.Keeps (t.afterForce old req) := by
  unfold State.afterForce
  split
  · extract_lets u v
    have hu : s.Keeps u := .ite (fun _ => h.evaluateDay) fun _ => h
    have hv : s.Keeps v := .ite (fun _ => hu.beginCondition) fun _ => hu
    exact .ite (fun _ => hv.escalate) fun _ => hv
  · exact .ite (fun _ => h.notify) fun _ => h
  · exact h.markClock
  · exact h.markClock
  · exact h.toKeepsButFault.reviewRouter
  · exact h

/-- A job handed to the port, FAULT still to be refreshed. -/
theorem State.KeepsButFault.enqueue {j : Job} (h : s.KeepsButFault t) : s.KeepsButFault (t.enqueue j) :=
  h.trans (State.Keeps.refl t).enqueue.toKeepsButFault

theorem State.Keeps.startConf {req : ConfReq} (h : s.Keeps t) : s.Keeps (t.startConf req) := by
  unfold State.startConf
  split
  · exact h.finish
  · split
    · by_cases hp : ∃ ps, req = .faultPlanPut ps
      · obtain ⟨ps, rfl⟩ := hp
        exact State.KeepsButFault.reviewRouter (.enqueue (.other h.toKeepsButFault rfl))
      · exact (h.putInForce fun ps e => hp ⟨ps, e⟩).setWork.enqueue.afterForce
    · exact h.setWork.awaitPlace


/-! ## TAKE_POSTINGS and FORMAT -/

theorem State.Keeps.queueReads {fuel : Nat} (h : s.Keeps t) : s.Keeps (State.queueReads fuel t) := by
  induction fuel generalizing t with
  | zero => exact h
  | succ fuel ih =>
    unfold State.queueReads
    split
    · split
      · split; exacts [ih h.setWork.enqueue, h.awaitPlace]
      · exact h
    · exact h

theorem State.Keeps.startTake {most : Nat} (h : s.Keeps t) : s.Keeps (t.startTake most) := by
  unfold State.startTake
  extract_lets n
  split; exacts [h.finish, h.setWork.queueReads]

theorem State.Keeps.takeReview (h : s.Keeps t) : s.Keeps t.takeReview := by
  unfold State.takeReview
  split
  · split
    · exact h.finish
    · split
      · exact h
      · split
        · exact h.finish
        · exact .finish (.journalReview (.unitWrite (.other h rfl rfl)))
  · exact h

theorem State.Keeps.queueFormat {fuel : Nat} (h : s.Keeps t) : s.Keeps (State.queueFormat fuel t) := by
  induction fuel generalizing t with
  | zero => exact h
  | succ fuel ih =>
    unfold State.queueFormat
    split
    · split
      · exact h
      · split
        · exact h
        · split; exacts [ih h.setWork.enqueue, h.awaitPlace]
    · exact h

theorem State.Keeps.formatReview (h : s.Keeps t) : s.Keeps t.formatReview := by
  unfold State.formatReview
  split
  · split
    · split
      · exact h.finish
      · split
        · exact h
        · split <;> exact h.finish
    · exact h
  · exact h

theorem State.Keeps.formatWritten {w : WriteTarget} {ok : Bool} (h : s.Keeps t) : s.Keeps (t.formatWritten w ok) := by
  unfold State.formatWritten; split; exacts [h.setWork.formatReview, h]

/-- A cache of EMPTY slots names no record. -/
theorem State.cacheSafe_of_blank (hb : ∀ i, u.slot i = Slot.blank) (hn : u.cache.recency.Nodup) : u.cacheSafe := by
  simp [State.cacheSafe, hb, Slot.names, Slot.blank, hn]

theorem State.KeepsButFault.beginCondition {x : FaultSource} (h : s.KeepsButFault t) : s.KeepsButFault (t.beginCondition x) :=
  h.trans (State.Keeps.refl t).beginCondition.toKeepsButFault

theorem State.Keeps.startFormat (h : s.Keeps t) : s.Keeps t.startFormat := by
  refine .queueFormat (.setWork (.journalReview (State.KeepsButFault.reviewRouter (.beginCondition ?_))))
  exact
    { memory := h.memory, host := h.host
      cache := fun hs => State.cacheSafe_of_blank (by simp [State.slot]) (h.cache hs).2.2.2.2 }

/-! ## Requesters waiting for a place, and the end of a job -/

theorem State.Keeps.serve {w : PlaceWaiter} (h : s.Keeps t) : s.Keeps (t.serve w) := by
  unfold State.serve
  split
  · exact h.unitWrite
  · split
    · split; exacts [h.startConf, h.awaitPlace]
    · exact h
  · split; exacts [h.startRecord, h]
  · exact h.sweepFlush
  · exact h.sweepEmergency
  · exact h.queueReads
  · exact h.queueFormat
  · exact h.censusReads

theorem State.Keeps.servePlaces {asks : Bool} (h : s.Keeps t) : s.Keeps (t.servePlaces asks) :=
  h.foldl fun u w hu =>
    have hw : s.Keeps (u.setWaiting (u.port.waiting.erase w)) := .other hu rfl rfl
    .ite (fun _ => hw.awaitPlace) fun _ => hw.serve

theorem State.Keeps.settle {asks : Bool} (h : s.Keeps t) : s.Keeps (t.settle asks) :=
  h.queueCommits.servePlaces.sweepEmergency.sweepFlush.pump

theorem State.Keeps.censusRun {fuel : Nat} (h : s.Keeps t) : s.Keeps (State.censusRun fuel t) := by
  induction fuel generalizing t with
  | zero => exact h
  | succ fuel ih =>
    unfold State.censusRun
    split
    · split; exacts [ih h.censusInstant.settle, h]
    · exact h

theorem State.Keeps.jobOver (h : s.Keeps t) : s.Keeps t.jobOver :=
  .censusRun (.settle (.pump (.ofPort h (by simp [Port.fits]))))

/-! ## Power -/

theorem State.Keeps.interruptHand (h : s.Keeps t) : s.Keeps t.interruptHand := by
  unfold State.interruptHand
  split
  · exact h.finish
  · extract_lets u
    have hu : s.Keeps u := .other h rfl rfl
    split; exacts [hu.setWork, hu.finish]
  · exact h.setWork.formatReview
  · exact h

/-- What the entry into the emergency flush leaves of a slot names no record that it did not (R44). -/
theorem State.cacheSafe_atEmergency {f p : Fin 128 → Bool} (h : t.cacheSafe)
    (hu : ∀ i, u.slot i = (t.slot i).atEmergency (f i) (p i)) (hr : u.cache.recency = t.cache.recency) : u.cacheSafe := by
  obtain ⟨hempty, hfull, honce, hself, hnodup⟩ := h
  have shrinks (i : Fin 128) : (u.slot i = Slot.blank)
      ∨ (u.slot i).key = (t.slot i).key ∧ ((u.slot i).state = .empty ↔ (t.slot i).state = .empty)
        ∧ ((u.slot i).incoming = (t.slot i).incoming ∨ (u.slot i).incoming = none) := by
    rw [hu i]
    unfold Slot.atEmergency
    split
    · exact .inl rfl
    · split
      · next hp =>
        obtain ⟨k, hk⟩ := Option.isSome_iff_exists.mp hp.2
        have : (t.slot i).state ≠ .empty := fun e => hempty i e k (.inr hk)
        exact .inr (by simp [this])
      · exact .inr (by simp)
  have fewer (i : Fin 128) (k : RecKey) (hk : (u.slot i).names k) : (t.slot i).names k := by
    rcases shrinks i with e | ⟨hkey, -, hin | hin⟩
    · simp [e, Slot.names, Slot.blank] at hk
    · simpa [Slot.names, hkey, hin] using hk
    · exact .inl (by simpa [Slot.names, hkey, hin] using hk)
  refine ⟨fun i hi k hk => ?_, fun i hi => ?_, fun i j k hk hk' => honce i j k (fewer i k hk) (fewer j k hk'), fun i k hk hin => ?_,
    hr ▸ hnodup⟩
  · rcases shrinks i with e | ⟨-, hs, -⟩
    · simp [e, Slot.names, Slot.blank] at hk
    · exact hempty i (hs.mp hi) k (fewer i k hk)
  · rcases shrinks i with e | ⟨hkey, hs, -⟩
    · simp [e, Slot.blank] at hi
    · rw [hkey, hr]; exact hfull i fun e => hi (hs.mpr e)
  · rcases shrinks i with e | ⟨hkey, -, he | he⟩
    · simp [e, Slot.blank] at hk
    · exact hself i k (hkey ▸ hk) (he ▸ hin)
    · simp [he] at hin

/-- Another power state than HALTED_SAFE and NORMAL, once the configuration is read (R44, R46). -/
theorem State.Keeps.toFlush (h : s.Keeps t) (hn : s.hostSafe → t.power.state = .normal) (hp : t.startUp.phase ≠ .readingConfig) {x : Power}
    {c : Clock} (hx : x.state = .emergencyFlush) : s.Keeps { t with power := x, clock := c } :=
  { memory := h.memory
    host := fun hs =>
      have ⟨htx, hitems, hattn, hsafe, _⟩ := h.host hs
      ⟨htx, hitems, hattn, by simpa [hx, hn hs] using hsafe, fun e => absurd e hp⟩
    cache := h.cache, fault := h.fault }

/-- A new cache, with the job at work as it is. -/
theorem State.Keeps.withCache (h : s.Keeps t) {c : Cache} {p : Port} (hj : p.job = t.port.job) (hd : p.data = t.port.data)
    (hc : t.cacheSafe → State.cacheSafe { t with cache := c, port := p }) : s.Keeps { t with cache := c, port := p } :=
  .ofCache (.other h (by simp [State.watchedButFault, hj, hd]) rfl : s.Keeps { t with port := p }) rfl fun _ => hc

theorem State.Keeps.enterEmergency (h : s.Keeps t) (hn : s.hostSafe → t.power.state = .normal)
    (hp : t.startUp.phase ≠ .readingConfig) : s.Keeps t.enterEmergency := by
  unfold State.enterEmergency
  extract_lets _ _ u v q _ _ w
  have hu : s.Keeps u := h.toFlush hn hp rfl
  have hv : s.Keeps v := hu.interruptHand
  have hw : s.Keeps w := by
    clear_value v
    exact .withCache hv rfl rfl fun hs =>
      State.cacheSafe_atEmergency (f := fun i => decide (Job.fill i ∈ q)) (p := fun i => decide (Job.pair i ∈ q)) hs
        (fun i => by simp [State.slot]) rfl
  exact hw.sweepEmergency.pump

/-- NORMAL again, with SAFE low (R46). -/
theorem State.Keeps.toNormal (h : s.Keeps t) {x : Power} {p : Pins} (hx : x.state = .normal) (hp : s.hostSafe → p.safe = false)
    (ha : p.attn = t.pins.attn) (hf : p.fault = t.pins.fault) : s.Keeps { t with power := x, pins := p } :=
  { memory := h.memory
    host := fun hs =>
      have ⟨htx, hitems, hattn, _, _⟩ := h.host hs
      ⟨htx, hitems, ha ▸ hattn, by simp [hp hs, hx], fun _ => hx⟩
    cache := h.cache
    fault := fun hs hne => hf.trans (h.fault hs hne) }

end Sys2Proof.Machine
end

section
/-! PROOF. What every step keeps: the ends of the jobs, the deck lines, the timers, and every command. -/
namespace Sys2Proof.Machine
set_option Elab.async false
variable {s t u : State}

/-! ## Blocks written (R23, R24) -/

theorem recordAddress_le (k : RecKey) : recordAddress k + 130 ≤ 245760 := by
  cases k <;> simp only [recordAddress] <;> omega

theorem WriteTarget.address_le (w : WriteTarget) : w.address + 130 ≤ 245760 := by
  cases w with
  | conf b => simp only [WriteTarget.address, ConfBlock.address]; omega
  | record k => exact recordAddress_le k

theorem journalAddress_le (p : PostSerial) : journalAddress p + 32 ≤ 245760 := by
  have : p.toNat % 2048 < 2048 := Nat.mod_lt _ (by decide)
  simp only [journalAddress]; omega

/-- The block the job in progress writes lies in the regions (R23). -/
theorem State.jobAddress_le {a : Nat} (h : t.port.fits) (ha : t.jobAddress = some a) : a + t.port.data.length ≤ 245760 := by
  unfold Port.fits at h
  unfold State.jobAddress at ha
  split at ha
  · next hj =>
    obtain ⟨k, -, rfl⟩ := Option.map_eq_some_iff.mp ha
    have := recordAddress_le k
    simp only [hj] at h; omega
  · next hj =>
    obtain ⟨k, -, rfl⟩ := Option.map_eq_some_iff.mp ha
    have := recordAddress_le k
    simp only [hj] at h; omega
  · next hj =>
    obtain ⟨c, -, rfl⟩ := Option.map_eq_some_iff.mp ha
    have := journalAddress_le c.serial
    simp only [hj] at h; omega
  · next w _ hj =>
    cases ha
    have := WriteTarget.address_le w
    simp only [hj] at h; omega
  · contradiction

/-- A memory that is canonical again and holds what it held beyond the regions. -/
def Memory.keeps (m m' : Memory) : Prop := m.wf = true → m'.wf = true ∧ ∀ a, 245760 ≤ a → m'.read a = m.read a

theorem Memory.keeps_refl (m : Memory) : m.keeps m := fun h => ⟨h, fun _ _ => rfl⟩

theorem Memory.keeps_trans {m m' m'' : Memory} (h : m.keeps m') (h' : m'.keeps m'') : m.keeps m'' := fun hm =>
  have ⟨hm', hr⟩ := h hm
  have ⟨hm'', hr'⟩ := h' hm'
  ⟨hm'', fun a ha => (hr' a ha).trans (hr a ha)⟩

theorem Memory.keeps_writeBlock (m : Memory) {a : Nat} {bs : List Byte} (h : a + bs.length ≤ 245760) :
    m.keeps (m.writeBlock a bs) := fun hm =>
  ⟨Memory.wf_writeBlock bs m a hm, fun b hb => Memory.read_writeBlock_of_outside bs m a b hm (.inr (by omega))⟩

theorem Memory.keeps_writeChecked (m : Memory) {a : Nat} {bs : List Byte} (r : WriteResult) (h : a + bs.length ≤ 245760) :
    m.keeps (m.writeChecked a bs r).1 := by
  cases r with
  | good => exact m.keeps_writeBlock h
  | differs => exact m.keeps_refl

theorem State.Keeps.ofMem (h : s.Keeps t) {m : Memory} (hm : t.port.fits → t.mem.keeps m) : s.Keeps { t with mem := m } :=
  { memory := fun hs =>
      have ⟨⟨hwf, hfits⟩, hr⟩ := h.memory hs
      have ⟨hwf', hr'⟩ := hm hfits hwf
      ⟨⟨hwf', hfits⟩, fun a ha => (hr' a ha).trans (hr a ha)⟩
    host := h.host, cache := h.cache, fault := h.fault }

theorem State.writeBlocked_keeps (h : t.port.fits) (r : WriteResult) : t.mem.keeps (t.writeBlocked r).1 := by
  unfold State.writeBlocked
  split
  · next ha => exact Memory.keeps_writeChecked _ r (State.jobAddress_le h ha)
  · exact Memory.keeps_refl _

theorem State.commitMarks_length (t : State) : t.commitMarks.length ≤ 10 := by
  unfold State.commitMarks; split
  · simp [sealBlock_length, marksBytes]
  · simp

theorem State.commitBlocks_keeps (h : t.port.fits) (p m : WriteResult) : t.mem.keeps (t.commitBlocks p m).1 := by
  have hw := State.writeBlocked_keeps h p
  have hl := t.commitMarks_length
  unfold State.commitBlocks
  split
  · next e =>
    rw [e] at hw
    refine Memory.keeps_trans hw (Memory.keeps_writeChecked _ m ?_)
    simp only [ConfBlock.address, ConfBlock.number]; omega
  · next e => rw [e] at hw; exact hw

theorem State.silentMemory_keeps (h : t.port.fits) (b : Bool) : t.mem.keeps (t.silentMemory b) := by
  unfold State.silentMemory
  split
  · next ha => exact Memory.keeps_writeBlock _ (State.jobAddress_le h ha)
  · exact Memory.keeps_refl _

theorem State.cutMemory_keeps (h : t.port.fits) (c : CutAt) : t.mem.keeps (t.cutMemory c) := by
  have hl := t.commitMarks_length
  unfold State.cutMemory
  split
  · next a _ ha =>
    have := State.jobAddress_le h ha
    have hshort (bs : List Byte) : a + (bs.take t.port.data.length).length ≤ 245760 := by
      rw [List.length_take]; omega
    split
    · exact Memory.keeps_refl _
    · exact Memory.keeps_writeBlock _ (hshort _)
    · exact Memory.keeps_writeBlock _ this
    · refine Memory.keeps_trans (Memory.keeps_writeBlock _ this) (Memory.keeps_writeBlock _ ?_)
      rw [List.length_take]; simp only [ConfBlock.address, ConfBlock.number]; omega
    · exact Memory.keeps_refl _
    · exact Memory.keeps_writeBlock _ (hshort _)
  · exact Memory.keeps_refl _

/-! ## The ends of the jobs -/

theorem State.Keeps.report {ok : Bool} (h : s.Keeps t) : s.Keeps (t.report ok) := by
  unfold State.report
  split
  · exact h
  · extract_lets u
    have hu : s.Keeps u := h.endCondition
    split; exacts [hu.endCondition, hu.beginCondition]

theorem State.Keeps.serveWaiter {i : Fin 128} {k : RecKey} {w : Waiter} (h : s.Keeps t) : s.Keeps (t.serveWaiter i k w) := by
  unfold State.serveWaiter
  split
  · exact h
  · split
    · split; exacts [h.applyRecord, h]
    · exact h

/-- A slot that gives its records up, or all but one of those it named. -/
theorem State.cacheSafe_setSlot {i : Fin 128} {x : Slot} (h : t.cacheSafe) (hfew : ∀ k, x.names k → (t.slot i).names k)
    (hfull : x.state ≠ .empty → x.key ≠ none ∧ (t.slot i).state ≠ .empty) (hempty : x.state = .empty → ∀ k, ¬x.names k)
    (hself : ∀ k, x.key = some k → x.incoming ≠ some k) : (t.setSlot i x).cacheSafe := by
  obtain ⟨hempty', hfull', honce, hself', hnodup⟩ := h
  have few (j : Fin 128) (k : RecKey) (hk : ((t.setSlot i x).slot j).names k) : (t.slot j).names k := by
    rw [State.slot_setSlot] at hk
    split at hk
    · next e => exact e ▸ hfew k hk
    · exact hk
  refine ⟨fun j hj => ?_, fun j hj => ?_, fun j j' k hk hk' => honce j j' k (few j k hk) (few j' k hk'), fun j k hk => ?_, hnodup⟩
  all_goals
    rw [State.slot_setSlot] at *
    by_cases e : j = i
    all_goals simp only [e, if_true, if_false] at *
  · exact hempty hj
  · exact hempty' j hj
  · exact ⟨(hfull hj).1, (hfull' i (hfull hj).2).2⟩
  · exact hfull' j hj
  · exact hself k hk
  · exact hself' j k hk

theorem State.cacheSafe_blankSlot {i : Fin 128} (h : t.cacheSafe) : (t.setSlot i Slot.blank).cacheSafe :=
  State.cacheSafe_setSlot h (by simp [Slot.names, Slot.blank]) (by simp [Slot.blank]) (by simp [Slot.names, Slot.blank])
    (by simp [Slot.blank])

theorem State.Keeps.fillDone {i : Fin 128} {r : ReadResult} (h : s.Keeps t) : s.Keeps (t.fillDone i r) := by
  have hslot : ∀ ok, (t.report ok).slot i = t.slot i := fun ok => by simp [State.slot]
  unfold State.fillDone
  extract_lets x got u
  have hu : s.Keeps u := h.report
  split
  · next hs _ _ => exact .foldl (hu.setSlot (by simp [hslot, u, x, Slot.alike, hs])) fun _ _ hv => hv.serveWaiter
  · exact .foldl (hu.ofCache rfl fun _ => State.cacheSafe_blankSlot) fun _ _ hv => hv.failWaiter
  · exact hu

theorem Slot.written_alike (x : Slot) (ok : Bool) (now : Nat) (h : x.state ≠ .empty) : (x.written ok now).alike x := by
  unfold Slot.written
  split
  · split <;> simp [Slot.alike, h]
  · simp [Slot.alike, h]

theorem State.Keeps.writeBackDone {i : Fin 128} {w : WriteResult} (h : s.Keeps t) : s.Keeps (t.writeBackDone i w) := by
  unfold State.writeBackDone
  have hw := fun hf => State.writeBlocked_keeps (t := t) hf w
  split
  next m ok e =>
  rw [e] at hw
  extract_lets u v
  have hu : s.Keeps u := .report (.ofMem h hw)
  have hv : s.Keeps v := by
    unfold v; split
    · next hs => exact hu.setSlot (Slot.written_alike _ _ _ (by simp [hs]))
    · exact hu
  exact hv.flushCompleted

theorem State.Keeps.restartMiss {k : RecKey} {ws : List Waiter} {hs : List Hold} (h : s.Keeps t)
    (hk : s.cacheSafe → ∀ j, ¬(t.slot j).names k) : s.Keeps (t.restartMiss k ws hs) := by
  unfold State.restartMiss
  split
  · exact h
  · split
    · next hc _ => exact .setSlot (h.claim hk hc) ⟨rfl, rfl, Iff.rfl⟩
    · split; exacts [h.missStuck.awaitPlace, h.missStuck]

theorem State.Keeps.pairSecond {i : Fin 128} {k : RecKey} (h : s.Keeps t) (hk : (t.slot i).incoming = some k) :
    s.Keeps (t.pairSecond i k) := by
  unfold State.pairSecond
  extract_lets x b u _
  have hu : s.Keeps u := .endCondition (.ofCache h rfl fun _ hs => ?_)
  exact .flushCompleted (.ofPort hu (by simp [Port.fits]))
  have hi : (t.slot i).state ≠ .empty := fun e => hs.1 i e k (.inr hk)
  refine State.cacheSafe_setSlot hs ?_ ?_ ?_ ?_ <;> simp +contextual [Slot.names, Slot.blank, b, hk, hi]

/-- The victim that a pair keeps: the incoming record is named no more (R35). -/
theorem State.cacheSafe_keepVictim {i : Fin 128} {k : RecKey} {ok : Bool} {now : Nat} (h : t.cacheSafe)
    (hk : (t.slot i).incoming = some k) :
    (t.setSlot i ((t.slot i).keepVictim ok now)).cacheSafe
    ∧ ∀ j, ¬((t.setSlot i ((t.slot i).keepVictim ok now)).slot j).names k := by
  have hi : (t.slot i).state ≠ .empty := fun e => h.1 i e k (.inr hk)
  obtain ⟨hkey, -, hstate⟩ := Slot.written_alike (t.slot i) ok now hi
  have names_iff (l : RecKey) : ((t.slot i).keepVictim ok now).names l ↔ (t.slot i).key = some l := by
    simp [Slot.names, Slot.keepVictim, hkey]
  have hstate' : ((t.slot i).keepVictim ok now).state ≠ .empty := fun e => hi (hstate.mp e)
  refine ⟨State.cacheSafe_setSlot h (fun l hl => .inl ((names_iff l).mp hl)) (fun _ => ⟨?_, hi⟩)
    (fun e => absurd e hstate') (by simp [Slot.keepVictim]), fun j hj => ?_⟩
  · exact fun e => (h.2.1 i hi).1 (hkey ▸ e)
  · rw [State.slot_setSlot] at hj
    split at hj
    · exact h.2.2.2.1 i k ((names_iff k).mp hj) hk
    · next e => exact e (h.2.2.1 j i k hj (.inr hk))

theorem State.Keeps.pairDone {i : Fin 128} {k : RecKey} {w : WriteResult} (h : s.Keeps t) (hk : (t.slot i).incoming = some k) :
    s.Keeps (t.pairDone i k w) := by
  unfold State.pairDone
  have hw := fun hf => State.writeBlocked_keeps (t := t) hf w
  split
  next m ok e =>
  rw [e] at hw
  extract_lets u x v
  have hu : s.Keeps u := .ofMem h hw
  split
  · exact hu.pairSecond hk
  · have hx : (u.report ok).slot i = x := by simp [State.slot, x]
    have hsafe : s.cacheSafe → ((u.report ok).setSlot i (x.keepVictim ok u.now)).cacheSafe
        ∧ ∀ j, ¬(((u.report ok).setSlot i (x.keepVictim ok u.now)).slot j).names k := fun hs =>
      hx ▸ State.cacheSafe_keepVictim (hu.report.cache hs) (by rw [hx]; exact hk)
    have hv : s.Keeps v := .flushCompleted (.ofCache (.report hu) rfl fun hs _ => (hsafe hs).1)
    have hno : s.cacheSafe → ∀ j, ¬(v.slot j).names k := fun hs j => by
      rw [State.flushCompleted_slot]; exact (hsafe hs).2 j
    exact .jobOver (.ite (fun _ => hv.restartMiss hno) fun _ => hv.foldl fun _ _ hy => hy.failWaiter)

/-! ## Commits, configuration blocks, journal reads -/

theorem State.Keeps.changeFolio {n : Fin 1024} {f : Folio → Folio} (h : s.Keeps t) : s.Keeps (t.changeFolio n f) := by
  unfold State.changeFolio
  split
  · split; exacts [h.change, h]
  · exact h

theorem State.Keeps.changeGuest {n : Fin 2048} {f : Guest → Guest} (h : s.Keeps t) : s.Keeps (t.changeGuest n f) := by
  unfold State.changeGuest
  split
  · split; exacts [h.change, h]
  · exact h

theorem State.Keeps.releasePending {c : CommitEntry} (h : s.Keeps t) : s.Keeps (t.releasePending c) := h.modPending.modPending

theorem State.Keeps.settleAccepted {c : CommitEntry} (h : s.Keeps t) : s.Keeps (t.settleAccepted c) := by
  unfold State.settleAccepted
  split
  · exact .notify h
  · exact .notify h
  · split
    · exact h
    · split
      · exact .makeOutgoing (.modEntry h)
      · exact h.giveFinal

theorem State.Keeps.settleFailed {c : CommitEntry} (h : s.Keeps t) : s.Keeps (t.settleFailed c) := by
  unfold State.settleFailed
  split
  · exact h
  · exact h
  · split
    · exact h
    · split <;> exact h.giveFinal

theorem State.Keeps.commitDone {c : CommitEntry} {rest : List CommitEntry} (h : s.Keeps t) : s.Keeps (t.commitDone c rest) :=
  .settleAccepted (.changeFolio (.releasePending (.other h rfl rfl)))

theorem State.Keeps.commitFailed {c : CommitEntry} {rest : List CommitEntry} (h : s.Keeps t) : s.Keeps (t.commitFailed c rest) :=
  .journalReview (.settleFailed (.releasePending (.changeGuest (.changeFolio (.other h rfl rfl)))))

theorem State.Keeps.confWritten {x : WriteTarget} {ok : Bool} {o : WriteOwner} (h : s.Keeps t) : s.Keeps (t.confWritten x ok o) := by
  unfold State.confWritten
  split
  · split; exacts [h.finish, h]
  · exact h
  · exact h.formatWritten
  · exact .other h rfl rfl

/-- What loading a block of the configuration area may touch: while it is read FAULT is not driven (R174, R197). -/
theorem State.Keeps.loading (h : s.Keeps t) (hp : t.startUp.phase = .readingConfig) (e : u.watchedButFault = t.watchedButFault) :
    s.Keeps u :=
  { h.toKeepsButFault.other e with
    fault := fun _ hn => absurd hp (by simp only [State.watchedButFault, Prod.mk.injEq] at e; exact e.2.2.1.2.2.2.2.1 ▸ hn) }

theorem State.Keeps.loadBindings {b : Fin 12} {xs : List (Option Binding)} (h : s.Keeps t) : s.Keeps (t.loadBindings b xs) :=
  h.foldl fun _ _ hu => .other hu rfl rfl

theorem State.Keeps.loadMarks {a b : PostSerial} (h : s.Keeps t) : s.Keeps (t.loadMarks a b) := .journalReview (.other h rfl rfl)

theorem State.Keeps.loadBlock {b : ConfBlock} {bs : List Byte} (h : s.Keeps t) (hp : t.startUp.phase = .readingConfig)
    (e : t.loadBlock b bs = some u) : s.Keeps u := by
  unfold State.loadBlock at e
  split at e
  all_goals obtain ⟨v, -, rfl⟩ := Option.map_eq_some_iff.mp e
  · exact .other h rfl rfl
  · exact h.loading hp rfl
  · exact h.loadBindings
  · exact .other h rfl rfl
  · exact .other h rfl rfl
  · exact .other h rfl rfl
  · exact .other h rfl rfl
  · exact h.loadMarks
  · exact .other h rfl rfl

theorem State.Keeps.loadFormat {b : ConfBlock} (h : s.Keeps t) (hp : t.startUp.phase = .readingConfig) :
    s.Keeps (t.loadFormat b) := by
  unfold State.loadFormat
  extract_lets _ u
  have hu : s.Keeps u := .other h rfl rfl
  split
  · exact .other hu rfl rfl
  · exact hu.loading hp rfl
  · exact hu.loadBindings
  · exact .other hu rfl rfl
  · exact .other hu rfl rfl
  · exact .other hu rfl rfl
  · exact .other hu rfl rfl
  · exact hu.loadMarks
  · exact .other hu rfl rfl

theorem State.formatReview_startUp (t : State) : t.formatReview.startUp = t.startUp := by
  unfold State.formatReview
  split
  · split
    · split
      · simp
      · split
        · rfl
        · split <;> simp
    · rfl
  · rfl

theorem State.interruptHand_startUp (t : State) : t.interruptHand.startUp = t.startUp := by
  unfold State.interruptHand
  split
  · simp
  · dsimp only; split <;> simp
  · rw [State.formatReview_startUp, State.setWork_startUp]
  · rfl

theorem State.enterEmergency_startUp (t : State) : t.enterEmergency.startUp = t.startUp := by
  simp [State.enterEmergency, State.interruptHand_startUp]

/-- The configuration area has been read: the router acts, and FAULT is driven from now on (R174, R197). -/
theorem State.Keeps.startService (h : s.Keeps t) (hp : t.startUp.phase = .readingConfig) : s.Keeps t.startService := by
  unfold State.startService
  extract_lets begun _ _ u v w
  have hu : s.KeepsButFault u :=
    { memory := h.memory, cache := h.cache
      host := fun hs =>
        have ⟨htx, hitems, hattn, hsafe, _⟩ := h.host hs
        ⟨htx, hitems, hattn, hsafe, fun e => nomatch e⟩ }
  have hacted : s.KeepsButFault (begun.foldl State.actOn u) ∧ (begun.foldl State.actOn u).startUp = u.startUp
      ∧ (begun.foldl State.actOn u).power = u.power := by
    clear_value u
    clear v w
    induction begun generalizing u with
    | nil => exact ⟨hu, rfl, rfl⟩
    | cons b bs ih =>
      obtain ⟨hk, hs, hpw⟩ := ih (u.actOn b) hu.actOn
      exact ⟨hk, hs.trans (by simp), hpw.trans (by simp)⟩
  obtain ⟨hk, hstart, hpower⟩ := hacted
  have hv : s.Keeps v := hk.refreshFault
  have hphase : v.startUp.phase = .bringingUp := congrArg StartUp.phase hstart
  have hw : s.Keeps w := by
    refine .ite (fun _ => hv.enterEmergency (fun hs => ?_) (by simp [hphase])) fun _ => hv
    exact (congrArg Power.state hpower).trans ((h.host hs).2.2.2.2 hp)
  have hwphase : w.startUp.phase = .bringingUp := by
    have : w.startUp = v.startUp := by unfold w; split; exacts [State.enterEmergency_startUp v, rfl]
    rw [this, hphase]
  split
  · exact .beginCensus (.other hw rfl rfl)
  · exact .notify (hw.laterPhase (by simp [hwphase]) (by simp))

theorem State.Keeps.afterBlock {k : Fin 49} (h : s.Keeps t) (hp : t.startUp.phase = .readingConfig) : s.Keeps (t.afterBlock k) := by
  unfold State.afterBlock
  split; exacts [.other h rfl rfl, h.startService hp]

end Sys2Proof.Machine
end

section
/-! PROOF. What every step keeps: the deck lines, the timers, and every command. -/
namespace Sys2Proof.Machine
set_option Elab.async false
variable {s t u : State}

/-! ## Rounds and turns -/

theorem State.Keeps.completeRound {n : Fin 4} (h : s.Keeps t) : s.Keeps (t.completeRound n) := .setCondition (.modLine h)

theorem State.Keeps.roundReview {n : Fin 4} (h : s.Keeps t) : s.Keeps (t.roundReview n) := .ite (fun _ => h.completeRound) fun _ => h

theorem State.Keeps.leaveServing {n : Fin 4} (h : s.Keeps t) : s.Keeps (t.leaveServing n) := .endCondition (.modLine h)

theorem State.Keeps.closeTurn {n : Fin 4} {d : Nat} (h : s.Keeps t) : s.Keeps (t.closeTurn n d) := h.modLine

theorem State.Keeps.goodAnswer {n : Fin 4} {e : Entry} {k : GoodKind} (h : s.Keeps t) : s.Keeps (t.goodAnswer n e k) := by
  unfold State.goodAnswer
  exact .ite (fun _ => .notify (.modEntry (.modLine h))) fun _ => .modEntry (.modLine h)

theorem State.Keeps.badTurn {n : Fin 4} {dur d : Nat} {g : Bool} (h : s.Keeps t) : s.Keeps (t.badTurn n dur d g) :=
  .roundReview (.modEntry (.modLine h.closeTurn))

theorem State.Keeps.goodTurn {n : Fin 4} {dur : Nat} {e : Entry} {k : GoodKind} {f : State → State} (h : s.Keeps t)
    (hf : ∀ u, s.Keeps u → s.Keeps (f u)) : s.Keeps (t.goodTurn n dur e k f) := (hf _ h.closeTurn.goodAnswer).roundReview.settle

/-! ## Offers and cancels -/

theorem State.Keeps.handOffer {e : Entry} {q : Byte} {c : CardId} {ls : List SaleLine} (h : s.Keeps t) :
    s.Keeps (t.handOffer e q c ls) := .ite (fun _ => h.ownerDecide) fun _ => h.defer

theorem State.Keeps.newOffer {e : Entry} {q : Byte} {c : CardId} {ls : List SaleLine} (h : s.Keeps t) :
    s.Keeps (t.newOffer e q c ls) := h.dropOutgoing.markCommits.prune.modEntry.handOffer

theorem State.Keeps.repeatOffer {e : Entry} {q : Byte} {c : CardId} {ls : List SaleLine} (h : s.Keeps t) :
    s.Keeps (t.repeatOffer e q c ls) := by
  unfold State.repeatOffer
  split
  · exact h.handOffer
  · exact .ite (fun _ => h.defer) fun _ => h
  · exact .ite (fun _ => h.defer) fun _ => h
  · split; exacts [h.makeOutgoing, h]
  · exact h

theorem State.Keeps.offered {e : Entry} {q : Byte} {c : CardId} {ls : List SaleLine} (h : s.Keeps t) :
    s.Keeps (t.offered e q c ls) := .ite (fun _ => h.repeatOffer) fun _ => h.newOffer

theorem State.Keeps.cancelled {e : Entry} {q : Byte} (h : s.Keeps t) : s.Keeps (t.cancelled e q) := by
  have asked : ∀ f, s.Keeps (if e.outgoing.isNone then (t.modEntry e.line e.drop f).defer e.line e.drop q
      else t.modEntry e.line e.drop f) := fun f => .ite (fun _ => h.modEntry.defer) fun _ => h.modEntry
  unfold State.cancelled
  split
  · exact h.makeOutgoing
  · split
    · exact h.giveFinal
    · exact asked _
    · exact asked _
    · split; exacts [h.makeOutgoing, h]
    · exact h

/-! ## Enumeration, checks, isolation -/

theorem State.Keeps.bringUpDone {n : Fin 4} {b : BringUp} (h : s.Keeps t) : s.Keeps (t.bringUpDone n b) := by
  unfold State.bringUpDone
  split
  · next hp => exact .startUpReview (h.laterPhase (by simp [hp.1]) (by simp [hp.1]))
  · exact h

theorem State.Keeps.reportEnumeration {n : Fin 4} {r : EnumResult} {es : List Entry} (h : s.Keeps t) :
    s.Keeps (t.reportEnumeration n r es) := h.notify.bringUpDone

theorem State.Keeps.refreshPolls {n : Fin 4} (h : s.Keeps t) : s.Keeps (t.refreshPolls n) := .other h rfl rfl

theorem State.Keeps.endEnumeration {n : Fin 4} {r : EnumResult} (h : s.Keeps t) : s.Keeps (t.endEnumeration n r) :=
  .ite (fun _ => h) fun _ => .reportEnumeration (.refreshPolls (.modLine h))

theorem State.Keeps.assignFailed {n : Fin 4} {run : EnumRun} {b : Bool} (h : s.Keeps t) : s.Keeps (t.assignFailed n run b) := by
  unfold State.assignFailed
  extract_lets run' u
  have hu : s.Keeps u := h.modLine
  split
  · exact .ite (fun _ => hu.endEnumeration) fun _ => .ite (fun _ => hu.endEnumeration) fun _ => hu
  · exact .ite (fun _ => hu.endEnumeration) fun _ => .ite (fun _ => hu.endEnumeration) fun _ => hu

theorem State.Keeps.joined {n : Fin 4} {run : EnumRun} {k : ReaderKind} {r : ReaderSerial} (h : s.Keeps t) :
    s.Keeps (t.joined n run k r) := .ite (fun _ => h.modLine.endEnumeration) fun _ => .other h rfl rfl

theorem State.Keeps.garbled {n : Fin 4} {dur : Nat} (h : s.Keeps t) : s.Keeps (t.garbled n dur) := by
  unfold State.garbled; split; exacts [h.badTurn, h.assignFailed, h]

theorem State.Keeps.silenced {n : Fin 4} {dur : Nat} (h : s.Keeps t) : s.Keeps (t.silenced n dur) := by
  unfold State.silenced; split; exacts [h.badTurn, h.assignFailed, h]

theorem State.Keeps.endCheck {n : Fin 4} {c : CheckRun} {r : CheckResult} {x : Option LineState} (h : s.Keeps t) :
    s.Keeps (t.endCheck n c r x) := by
  unfold State.endCheck
  exact .ite (fun _ => .refreshPolls (.modLine (.modLine h))) fun _ => .modLine h

theorem State.Keeps.answerCheck {n : Fin 4} {c : CheckRun} {r : CheckResult} (h : s.Keeps t) : s.Keeps (t.answerCheck n c r) := by
  unfold State.answerCheck
  split
  · split; exacts [h.finish, h]
  · split
    · split <;> exact h.finish
    · exact h
  · exact h

theorem State.Keeps.isolated {n : Fin 4} {c : IsolateCause} (h : s.Keeps t) : s.Keeps (t.isolated n c) := by
  unfold State.isolated
  extract_lets l enumerates es u
  have hu : s.Keeps u := h.leaveServing.modLine
  exact .notify (.ite (fun _ => hu.reportEnumeration) fun _ => hu)

theorem State.Keeps.removeEntry {e : Entry} (h : s.Keeps t) : s.Keeps (t.removeEntry e) := h.dropOutgoing.markCommits.prune

theorem State.Keeps.askCheck {n : Fin 4} {c : CheckCause} (h : s.Keeps t) : s.Keeps (t.askCheck n c) := .setWork (.modLine h)

theorem State.Keeps.askEnumeration {n : Fin 4} (h : s.Keeps t) : s.Keeps (t.askEnumeration n) :=
  .ite (fun _ => .finish (.ite (fun _ => h) fun _ => .modLine h)) fun _ => h.finish

theorem State.Keeps.isolateLine {n : Fin 4} (h : s.Keeps t) : s.Keeps (t.isolateLine n) := by
  unfold State.isolateLine
  split
  exacts [.finish (.other h rfl rfl), .finish (.other h rfl rfl), h.finish, h.finish]

/-! ## Requests of the other owners -/

theorem State.Keeps.takeNews (h : s.Keeps t) : s.Keeps t.takeNews := by
  unfold State.takeNews
  extract_lets rest
  refine .finish
    { memory := h.memory, cache := h.cache, fault := h.fault
      host := fun hs =>
        have ⟨htx, hitems, _, hsafe, hphase⟩ := h.host hs
        ⟨htx, ?_, ?_, hsafe, hphase⟩ }
  · simp only [rest, List.length_drop]; omega
  · simp

theorem State.Keeps.beginRestart (h : s.Keeps t) (hn : t.power.state = .normal) (hp : t.startUp.phase ≠ .readingConfig) :
    s.Keeps t.beginRestart :=
  .enterEmergency (.other h.finish rfl rfl) (fun _ => by simpa using hn) (by simpa using hp)

theorem State.Keeps.askCensus (h : s.Keeps t) : s.Keeps t.askCensus :=
  .ite (fun _ => h.finish) fun _ => .censusRun h.finish.beginCensus

theorem State.Keeps.beginFlush (h : s.Keeps t) : s.Keeps t.beginFlush := .flushReview (.sweepFlush (.other h rfl rfl))

theorem State.Keeps.clearFault {x : Option FaultSource} (h : s.Keeps t) : s.Keeps (t.clearFault x) := by
  unfold State.clearFault
  split
  · exact .ite (fun _ => h.finish) fun _ => .finish (State.KeepsButFault.reviewRouter (.other h.toKeepsButFault rfl))
  · exact .finish (State.KeepsButFault.reviewRouter (.other h.toKeepsButFault rfl))

theorem State.Keeps.resume (h : s.Keeps t) : s.Keeps t.resume := by
  have hr : t.router.resumed.drivesFault = t.router.drivesFault := by unfold Router.resumed; split <;> rfl
  refine .ite (fun _ => h.finish) fun _ => .ite (fun _ => .finish (.other h rfl ?_)) fun _ => h.finish
  simp [State.watchedFault, hr]

theorem State.Keeps.readerGet {x : GetForm} (h : s.Keeps t) : s.Keeps (t.readerGet x) := by
  unfold State.readerGet
  split
  · split <;> exact h.finish
  · exact h.finish

/-! ## How a request comes to its owner -/

/-- The owner of a kind gets a request with the power state NORMAL and the configuration read. -/
def State.Serving (s t : State) : Prop := s.Keeps t ∧ t.power.state = .normal ∧ t.startUp.phase ≠ .readingConfig

theorem State.Keeps.receive {tag : Tag} {k : Byte} {f : State → State} (h : s.Keeps t)
    (hf : ∀ u, s.Keeps u → u.startUp.phase ≠ .readingConfig → s.Keeps (f u)) : s.Keeps (t.receive tag k f) := by
  unfold State.receive
  extract_lets u
  have hu : s.Keeps u := h.frameArrived
  split
  · exact hu.replyBusy
  · next hn => exact hf _ (.other hu rfl rfl) fun e => hn (.inr e)

theorem State.Keeps.inNormal {f : State → State} (h : s.Keeps t) (hf : t.power.state = .normal → s.Keeps (f t)) :
    s.Keeps (t.inNormal f) := .ite hf fun _ => h.finish

theorem State.Keeps.inService {f : State → State} (h : s.Keeps t) (hf : s.Keeps (f t)) : s.Keeps (t.inService f) :=
  .ite (fun _ => hf) fun _ => h.finish

theorem State.Keeps.withFields {α : Type} {x : Option α} {f : State → α → State} (h : s.Keeps t)
    (hf : ∀ a, s.Keeps (f t a)) : s.Keeps (t.withFields x f) := by
  unfold State.withFields; split; exacts [hf _, h.finish]

theorem State.Keeps.withForm {b : Bool} {f : State → State} (h : s.Keeps t) (hf : s.Keeps (f t)) : s.Keeps (t.withForm b f) :=
  .ite (fun _ => hf) fun _ => h.finish

/-- A command keeps what the state it leads to keeps. -/
def KeptBy (s : State) (o : Host.Outcome State Fault Refusal) : Prop := ∀ t, o = .next t → s.Keeps t

theorem KeptBy.awake {f : State → State} (h : s.Keeps (f s)) : KeptBy s (s.awake f) := by
  rintro t ⟨⟩
  exact .ite (fun _ => .refl s) fun _ => h

theorem KeptBy.request {α : Type} {tag : Tag} {k : Byte} {x : Option α} {f : State → α → State}
    (hf : ∀ u a, s.Serving u → s.Keeps (f u a)) : KeptBy s (s.request tag k x f) :=
  .awake (.receive (.refl s) fun u hu hp => hu.inNormal fun hn => hu.withFields fun a => hf u a ⟨hu, hn, hp⟩)

theorem KeptBy.serviceRequest {α : Type} {tag : Tag} {k : Byte} {x : Option α} {f : State → α → State}
    (hf : ∀ u a, s.Keeps u → s.Keeps (f u a)) : KeptBy s (s.serviceRequest tag k x f) :=
  .awake (.receive (.refl s) fun u hu _ => hu.inNormal fun _ => hu.inService (hu.withFields fun a => hf u a hu))

end Sys2Proof.Machine
end

section
/-! PROOF. What every step keeps: every command, and the three invariants (O3, O4, O7). -/
namespace Sys2Proof.Machine
set_option Elab.async false
variable {s t u : State}

/-! ## Power and resets -/

theorem State.Keeps.returnNormal (h : s.Keeps t) {p : Pins} (hp : s.hostSafe → p.safe = false) (ha : p.attn = t.pins.attn)
    (hf : p.fault = t.pins.fault) : s.Keeps { t with pins := p }.returnNormal :=
  .censusRun (.censusReads (.settle (h.toNormal rfl hp ha hf)))

/-- The state right after reset, whatever the straps, the memory and PWRWARN. -/
theorem State.Keeps.fresh (h : s.Keeps t) (hm : u.mem = t.mem) (hfits : u.port.fits) (hhost : u.hostSafe)
    (hphase : u.startUp.phase = .readingConfig) (hslots : ∀ i, u.slot i = Slot.blank) (hr : u.cache.recency = []) : s.Keeps u :=
  { memory := fun hs =>
      have ⟨⟨hwf, _⟩, hread⟩ := h.memory hs
      ⟨⟨hm ▸ hwf, hfits⟩, fun a ha => hm ▸ hread a ha⟩
    host := fun _ => hhost
    cache := fun _ => State.cacheSafe_of_blank hslots (by simp [hr])
    fault := fun _ hn => absurd hphase hn }

theorem State.slot_reset (i : Fin 128) : State.reset.slot i = Slot.blank := by
  simp [State.slot, State.reset, Cache.blank]

theorem State.hostSafe_reset : State.reset.hostSafe := by simp [State.hostSafe, State.reset]

theorem State.Keeps.powerOn {x : Straps} (h : s.Keeps t) : s.Keeps (t.powerOn x) := by
  have fresh : s.Keeps { State.reset with
      pending := t.pending, mem := t.mem, straps := x, pins := { State.reset.pins with pwrwarn := t.pins.pwrwarn } } :=
    h.fresh rfl (by simp [Port.fits, State.reset]) State.hostSafe_reset rfl State.slot_reset rfl
  exact .ite (fun _ => fresh.beginCondition) fun _ => fresh

theorem State.Keeps.held (h : s.Keeps t) : s.Keeps t.held :=
  h.fresh rfl (by simp [State.held, Port.fits, State.reset]) State.hostSafe_reset rfl State.slot_reset rfl

/-! ## The commands -/

theorem KeptBy.execReplySent : KeptBy s (execReplySent s) := by
  refine .awake ?_
  split
  · next r rest e =>
    refine .ofLink (.refl s) fun hl => ?_
    rw [e] at hl
    unfold HostLink.placeFormed
    split
    · split
      · next hl' => rw [List.length_append]; exact hl'
      · exact Nat.le_of_succ_le hl
    · exact Nat.le_of_succ_le hl
  · exact .refl s

theorem KeptBy.execMemSilent {b : Bool} : KeptBy s (execMemSilent b s) := by
  refine .awake (.ite (fun _ => .beginCondition ?_) fun _ => .refl s)
  have hm : s.Keeps { s with mem := s.silentMemory b } := .ofMem (.refl s) fun hf => State.silentMemory_keeps hf b
  exact .ite (fun _ => .endCondition (.other hm rfl rfl)) fun _ => .other hm rfl rfl

theorem KeptBy.execDirtyMissPair {w : WriteResult} : KeptBy s (execDirtyMissPair w s) := by
  refine .awake ?_
  split
  · split
    · next hk => exact (State.Keeps.refl s).pairDone hk
    · have hw := fun hf => State.writeBlocked_keeps (t := s) hf w
      split
      next e => rw [e] at hw; exact .jobOver (.report (.ofMem (.refl s) hw))
  · exact .refl s

theorem KeptBy.execCommit {p m : WriteResult} : KeptBy s (execCommit p m s) := by
  refine .awake ?_
  split
  · have hw := fun hf => State.commitBlocks_keeps (t := s) hf p m
    split
    next e =>
    rw [e] at hw
    have hr := State.Keeps.report (ok := (s.commitBlocks p m).2) (.ofMem (.refl s) hw)
    rw [e] at hr
    exact .jobOver (.ite (fun _ => hr.commitDone) fun _ => hr.commitFailed)
  · exact .refl s

theorem KeptBy.execConfigurationWrite {w : WriteResult} : KeptBy s (execConfigurationWrite w s) := by
  refine .awake ?_
  split
  · have hw := fun hf => State.writeBlocked_keeps (t := s) hf w
    split
    next e => rw [e] at hw; exact .jobOver (.confWritten (.report (.ofMem (.refl s) hw)))
  · exact .refl s

theorem KeptBy.execJournalRead {r : ReadResult} : KeptBy s (execJournalRead r s) := by
  refine .awake ?_
  split
  · split
    extract_lets silent u
    have hu : s.Keeps u := .report (.refl s)
    refine .jobOver ?_
    split; exacts [hu.setWork.takeReview, hu]
  · exact .refl s

theorem State.loadBindings_startUp (t : State) (b : Fin 12) (xs : List (Option Binding)) : (t.loadBindings b xs).startUp = t.startUp :=
  List.foldlRecOn (motive := fun u : State => u.startUp = t.startUp) _ _ rfl fun _ hu _ _ => hu

theorem State.loadBlock_startUp {b : ConfBlock} {bs : List Byte} (e : t.loadBlock b bs = some u) : u.startUp = t.startUp := by
  unfold State.loadBlock at e
  split at e
  all_goals
    obtain ⟨v, -, rfl⟩ := Option.map_eq_some_iff.mp e
    simp [State.loadPlans, State.loadBindings_startUp, State.loadSites, State.loadMarks, State.loadClock]

theorem State.loadFormat_phase (t : State) (b : ConfBlock) : (t.loadFormat b).startUp.phase = t.startUp.phase := by
  cases b <;> simp [State.loadFormat, State.loadPlans, State.loadBindings_startUp, State.loadSites, State.loadMarks, State.loadClock]

theorem KeptBy.execConfigurationRead {r : ReadResult} : KeptBy s (execConfigurationRead r s) := by
  refine .awake ?_
  split
  · next k hp _ =>
    extract_lets b
    split
    · next v e =>
      obtain ⟨bs, -, e⟩ := Option.bind_eq_some_iff.mp e
      have hv : s.Keeps v := .loadBlock (.refl s) hp e
      have hphase := State.loadBlock_startUp e
      exact .jobOver (hv.report.afterBlock (by simp [hphase, hp]))
    · have hf : s.Keeps (s.loadFormat b) := .loadFormat (.refl s) hp
      have hphase := State.loadFormat_phase s b
      exact .jobOver (hf.report.afterBlock (by simp [hphase, hp]))
  · exact .refl s

theorem KeptBy.execEnumerationBegin {n : Fin 4} : KeptBy s (execEnumerationBegin n s) := by
  refine .awake (.ite (fun _ => ?_) fun _ => .refl s)
  extract_lets held u v w
  have hu : s.Keeps u := .ite (fun _ => .leaveServing (.refl s)) fun _ => .refl s
  have hv : s.Keeps v := hu.foldl fun _ _ hx => hx.removeEntry
  exact .settle (.modLine (.other hv rfl rfl))

theorem KeptBy.execLineChecked {n : Fin 4} {p : Bool} : KeptBy s (execLineChecked n p s) := by
  refine .awake ?_
  split
  · exact .refl s
  · extract_lets r next u v w
    have hu : s.Keeps u := .setCondition (.notify (.endCheck (.refl s)))
    have hv : s.Keeps v := .ite (fun _ => hu.isolated) fun _ => hu
    have hw : s.Keeps w := hv.answerCheck
    exact .ite (fun _ => hw.bringUpDone) fun _ => hw

theorem KeptBy.execLineCheckBegin {n : Fin 4} {a b : Bool} : KeptBy s (execLineCheckBegin n a b s) := by
  refine .awake ?_
  extract_lets l
  split
  · exact .ite (fun _ => .modLine (.ite (fun _ => .leaveServing (.refl s)) fun _ => .refl s)) fun _ => .refl s
  · exact .refl s

theorem KeptBy.execFlusher : KeptBy s (execFlusher s) :=
  .awake (.ite (fun _ => .foldl (.other (.refl s) rfl rfl) fun _ _ hu => .ite (fun _ => hu.queueWriteBack) fun _ => hu)
    fun _ => .refl s)

theorem KeptBy.execVerdict {n : Fin 4} {g : Nat} : KeptBy s (execVerdict n g s) := by
  refine .awake (.ite (fun _ => ?_) fun _ => .refl s)
  split
  · split; exacts [.modLine (.modEntry (.refl s)), .refl s]
  · split
    · exact .refl s
    · split; exacts [.modLine (.modEntry (.refl s)), .refl s]

theorem KeptBy.execPwrwarnAsserted : KeptBy s (execPwrwarnAsserted s) := by
  rintro t ⟨⟩
  have hw : s.Keeps { s with pins := { s.pins with pwrwarn := true } } := .other (.refl s) rfl rfl
  exact .ite (fun _ => hw) fun _ => .ite (fun hn => .enterEmergency hw.beginCondition (fun _ => hn.1) hn.2) fun _ => hw.beginCondition

theorem KeptBy.execPwrwarnWithdrawn : KeptBy s (execPwrwarnWithdrawn s) := by
  rintro t ⟨⟩
  have hw : s.Keeps { s with pins := { s.pins with pwrwarn := false } } := .other (.refl s) rfl rfl
  have he := hw.endCondition (x := .powerWarn)
  exact .ite (fun _ => hw) fun _ => .ite (fun _ => he.returnNormal (fun _ => rfl) rfl rfl) fun _ => he

theorem KeptBy.execSafe : KeptBy s (execSafe s) := by
  refine .awake (.ite (fun hn => .ite (fun _ => ?_) fun _ => ?_) fun _ => .refl s)
  · exact
      { memory := (State.Keeps.refl s).memory, cache := id, fault := (State.Keeps.refl s).fault
        host := fun ⟨htx, hitems, hattn, _, hphase⟩ =>
          ⟨htx, hitems, hattn, by simp, fun e => absurd (hphase e) (by simp [hn.1])⟩ }
  · refine (State.Keeps.refl s).returnNormal (p := s.pins) (fun ⟨_, _, _, hsafe, _⟩ => ?_) rfl rfl
    simpa [hn.1] using hsafe

theorem KeptBy.execSiteDeadline {x : Fin 4} : KeptBy s (execSiteDeadline x s) := by
  refine .awake ?_
  extract_lets y
  split
  · exact .ite (fun _ => .overdue (.refl s)) fun _ => .refl s
  · exact .refl s

theorem KeptBy.execVerdictLifeExpiry {n : Fin 4} {d : Nat} : KeptBy s (execVerdictLifeExpiry n d s) := by
  refine .awake ?_
  split
  · split
    · exact .ite (fun _ => .dropOutgoing (.refl s)) fun _ => .refl s
    · exact .refl s
  · exact .refl s

theorem KeptBy.execHoldExpiry {n : Fin 4} {d : Nat} {k : RecKey} : KeptBy s (execHoldExpiry n d k s) :=
  .awake (.ite (fun _ => .settle (.mapSlots (.refl s) fun _ => ⟨rfl, rfl, Iff.rfl⟩)) fun _ => .refl s)

theorem KeptBy.execCall {n : Fin 4} {g : Nat} : KeptBy s (execCall n g s) := by
  refine .awake (.ite (fun _ => ?_) fun _ => .refl s)
  split
  · exact .completeRound (.refl s)
  · exact .ite (fun _ => .modLine (.refl s)) fun _ => .refl s

theorem KeptBy.execAssign {n : Fin 4} : KeptBy s (execAssign n s) := by
  refine .awake ?_
  extract_lets l
  split
  · exact .ite (fun _ => .modLine (.refl s)) fun _ => .refl s
  · exact .refl s

theorem KeptBy.execIdle {n : Fin 4} {d : Nat} : KeptBy s (execIdle n d s) := by
  refine .awake ?_
  split; exacts [.goodTurn (.refl s) fun _ hu => hu, .garbled (.refl s)]

theorem KeptBy.execOffer {n : Fin 4} {d : Nat} {q : Byte} {c : CardId} {ls : Option (List SaleLine)} :
    KeptBy s (execOffer n d q c ls s) := by
  refine .awake ?_
  split
  · refine .ite (fun _ => .goodTurn (.refl s) fun u hu => ?_) fun _ => .garbled (.refl s)
    split; exacts [hu.offered, hu]
  · exact .garbled (.refl s)

theorem KeptBy.execCancel {n : Fin 4} {d : Nat} {q : Byte} : KeptBy s (execCancel n d q s) := by
  refine .awake ?_
  split
  · refine .goodTurn (.refl s) fun u hu => ?_
    split; exacts [hu.cancelled, hu]
  · exact .garbled (.refl s)

theorem KeptBy.execReceipt {n : Fin 4} {d : Nat} {b : Bool} : KeptBy s (execReceipt n d b s) := by
  refine .awake ?_
  split
  · exact .goodTurn (.refl s) fun u hu => .ite (fun _ => hu.modEntry) fun _ => hu
  · exact .garbled (.refl s)

theorem KeptBy.execJoin {n : Fin 4} {d : Nat} {a : JoinAnswer} : KeptBy s (execJoin n d a s) := by
  refine .awake ?_
  split; exacts [.joined (.refl s), .garbled (.refl s)]

theorem KeptBy.execReaderLost {n : Fin 4} {d : Nat} : KeptBy s (execReaderLost n d s) := by
  refine .awake ?_
  split
  · exact .ite (fun _ => .notify (.modEntry (.refl s))) fun _ => .refl s
  · exact .refl s

theorem KeptBy.execLineIsolated {n : Fin 4} : KeptBy s (execLineIsolated n s) := by
  refine .awake ?_
  split
  · exact .ite (fun _ => .isolated (.refl s)) fun _ => .refl s
  · exact .refl s

theorem KeptBy.execFill {r : ReadResult} : KeptBy s (execFill r s) := by
  refine .awake ?_
  split; exacts [.jobOver (.fillDone (.refl s)), .jobOver (.fillDone (.refl s)), .refl s]

theorem KeptBy.execWriteBack {w : WriteResult} : KeptBy s (execWriteBack w s) := by
  refine .awake ?_
  split; exacts [.jobOver (.writeBackDone (.refl s)), .refl s]

theorem KeptBy.execCensusRead {r : ReadResult} : KeptBy s (execCensusRead r s) := by
  refine .awake ?_
  split; exacts [.jobOver (.censusTaken (.report (.refl s))), .refl s]

theorem KeptBy.execClockTick : KeptBy s (execClockTick s) := by
  have hc : s.Keeps s.tickCounts := .other (.ofLink (.refl s) (l := s.tickCounts.link) id) rfl rfl
  exact .awake (.evaluateDay (.ite (fun _ => .other hc rfl rfl) fun _ => hc))

theorem KeptBy.execResetRelease {x : Straps} : KeptBy s (execResetRelease x s) := by
  rintro t ⟨⟩
  exact .ite (fun _ => .powerOn (.refl s)) fun _ => .refl s

theorem State.Keeps.cut {c : CutAt} (h : s.Keeps t) : s.Keeps { t with mem := t.cutMemory c } :=
  h.ofMem fun hf => State.cutMemory_keeps hf c

theorem KeptBy.exec (c : Instr) (s : State) : KeptBy s (exec c s) := by
  have hs := State.Keeps.refl s
  unfold Machine.exec
  cases c with
  | status =>
    refine .awake ?_
    exact hs.receive fun u hu _ => hu.withForm hu.finish
  | news =>
    refine .awake ?_
    exact hs.receive fun u hu _ => hu.withForm hu.takeNews
  | restart => exact .request fun u _ hu => hu.1.beginRestart hu.2.1 hu.2.2
  | format =>
    refine .awake ?_
    exact hs.receive fun u hu _ => hu.inNormal fun _ => .ite (fun _ => hu.finish) fun _ =>
      State.Keeps.withForm hu (.ite (fun _ => hu.finish) fun _ => hu.startFormat)
  | setClock | settingsPut | planPut | bindPut | bindRemove | profilePut | musterEnd | faultPlanPut =>
    exact .request fun u _ hu => hu.1.startConf
  | guestGet | guestPut | cardAdd | cardMarkLost | cardRemove | folioGet | folioPut | folioSettle | presenceSet =>
    exact .request fun u _ hu => hu.1.startRecord
  | siteOpen | siteLastCall | siteClose | musterBegin => exact .serviceRequest fun u _ hu => hu.startConf
  | takePostings => exact .request fun u _ hu => hu.1.startTake
  | readerList | musterGet => exact .request fun u _ hu => hu.1.finish
  | readerGet => exact .request fun u _ hu => hu.1.readerGet
  | lineEnumerate => exact .serviceRequest fun u _ hu => hu.askEnumeration
  | lineCheck => exact .request fun u _ hu => .ite (fun _ => hu.1.askCheck) fun _ => hu.1.finish
  | lineIsolate => exact .request fun u _ hu => hu.1.isolateLine
  | lineRestore => exact .serviceRequest fun u _ hu => .ite (fun _ => hu.askCheck) fun _ => hu.finish
  | tallyGet | rosterGet => exact .serviceRequest fun u _ hu => hu.finish
  | census => exact .serviceRequest fun u _ hu => hu.askCensus
  | flush => exact .request fun u _ hu => .ite (fun _ => hu.1.finish) fun _ => hu.1.finish.beginFlush
  | faultClear => exact .request fun u _ hu => hu.1.clearFault
  | resume => exact .request fun u _ hu => hu.1.resume
  | busy => exact .awake (.ite (fun _ => hs.frameArrived.replyBusy) fun _ => hs)
  | badKind =>
    refine .awake (.ite (fun _ => hs) fun _ => ?_)
    exact hs.receive fun u hu _ => hu.finish
  | hostFrameDiscard => exact .awake (.ite (fun _ => .other hs rfl rfl) fun _ => hs)
  | frameGap =>
    refine .awake ?_
    exact .other hs rfl rfl
  | startByte =>
    refine .awake ?_
    exact .other hs rfl rfl
  | replySent => exact .execReplySent
  | linkSilent => exact .awake (.ite (fun _ => hs.beginCondition) fun _ => hs)
  | cacheStall => exact .awake (.ite (fun _ => hs.beginCondition) fun _ => hs)
  | escalation => exact .awake (.ite (fun _ => hs.escalate) fun _ => hs)
  | clockTick => exact .execClockTick
  | clockMark => exact .awake (.ite (fun _ => hs.markClock) fun _ => hs)
  | siteDeadline => exact .execSiteDeadline
  | verdictLifeExpiry => exact .execVerdictLifeExpiry
  | holdExpiry => exact .execHoldExpiry
  | flusher => exact .execFlusher
  | memSilent => exact .execMemSilent
  | call => exact .execCall
  | verdict => exact .execVerdict
  | assign => exact .execAssign
  | idle => exact .execIdle
  | offer => exact .execOffer
  | cancel => exact .execCancel
  | receipt => exact .execReceipt
  | join => exact .execJoin
  | garble =>
    refine .awake ?_
    exact hs.garbled
  | silence =>
    refine .awake ?_
    exact hs.silenced
  | garbleRun => exact .awake (.ite (fun _ => hs.modLine) fun _ => hs)
  | quietCount =>
    refine .awake ?_
    exact hs.modEntry
  | readerLost => exact .execReaderLost
  | lineCheckBegin => exact .execLineCheckBegin
  | lineChecked => exact .execLineChecked
  | enumerationBegin => exact .execEnumerationBegin
  | lineIsolated => exact .execLineIsolated
  | fill => exact .execFill
  | writeBack => exact .execWriteBack
  | dirtyMissPair => exact .execDirtyMissPair
  | commit => exact .execCommit
  | configurationWrite => exact .execConfigurationWrite
  | censusRead => exact .execCensusRead
  | journalRead => exact .execJournalRead
  | configurationRead => exact .execConfigurationRead
  | pwrwarnAsserted => exact .execPwrwarnAsserted
  | pwrwarnWithdrawn => exact .execPwrwarnWithdrawn
  | emergencyMarkWrites => exact .awake (.ite (fun _ => .pump (.other hs rfl rfl)) fun _ => hs)
  | safe => exact .execSafe
  | resetAsserted =>
    refine .awake ?_
    exact hs.cut.held
  | resetRelease => exact .execResetRelease
  | restartReset => exact .awake (.ite (fun _ => hs.cut.powerOn) fun _ => hs)

/-! ## The three invariants -/

theorem State.Keeps.step (h : step s = .next t) : s.Keeps t := by
  unfold Machine.step at h
  split at h
  · cases h; exact .refl s
  · next c rest _ =>
    have hs : s.Keeps { s with pending := rest } := .other (.refl s) rfl rfl
    exact hs.trans (KeptBy.exec c _ t h)

/-- Settles O3: every operation writes inside the regions, or not at all. -/
theorem everyStepKeepsMemorySafe : Obligations.EveryStepKeepsMemorySafe := fun _ _ hs h => (State.Keeps.step h).memory hs

/-- Settles O4: FAULT is refreshed after every change of a mark or a plan. -/
theorem everyStepKeepsOutputsSafe : Obligations.EveryStepKeepsOutputsSafe := fun _ _ hs h => (State.Keeps.step h).outputs hs

/-- Settles O7: a slot is given to a record that a lookup has missed alone. -/
theorem everyStepKeepsCacheSafe : Obligations.EveryStepKeepsCacheSafe := fun _ _ hs h => (State.Keeps.step h).cache hs

end Sys2Proof.Machine
end

section
/-! PROOF. The tests of a request in their order (O15). -/
namespace Sys2Proof.Machine
set_option Elab.async false

/-- The reply to a request that one of the tests refuses. -/
def State.refused (s : State) (tag : Tag) (kind : Byte) (r : Result) : Host.Outcome State Fault Refusal :=
  .next (s.heard.answered tag kind r .empty)

/-- Tests 2 to 4 of a request of a kind, where its body may be malformed (R189, R194). -/
def State.testedAs (s : State) (o : Host.Outcome State Fault Refusal) (tag : Tag) (kind : Byte) (malformed : Bool) : Prop :=
  let free := kind = 0x01 ∨ kind = 0x02
  let barred := (s.service = false ∧ kind ∈ serviceKinds) ∨ (s.service = true ∧ kind = 0x04)
  (s.power.state ≠ .normal → ¬free → o = s.refused tag kind .state)
  ∧ (s.power.state = .normal → barred → o = s.refused tag kind .mode)
  ∧ ((s.power.state = .normal ∧ ¬barred ∨ free) → malformed = true → o = s.refused tag kind .badField)

variable {s : State} {tag : Tag} {kind : Byte}

/-- A request taken in hand and refused. -/
theorem State.takesRequest.receive_finish (h : s.takesRequest) {judge : State → State} {r : Result}
    (hj : judge (s.heard.holding tag kind .judging) = (s.heard.holding tag kind .judging).finish r) :
    s.awake (fun s => s.receive tag kind judge) = s.refused tag kind r := by
  obtain ⟨hreset, -, -, htx⟩ := id h
  rw [State.awake_of_awake hreset, State.receive_taken h, hj]
  exact congrArg Host.Outcome.next (State.finish_holding s.heard tag kind .judging r .empty htx)

theorem State.request_testedAs {α : Type} {fields : Option α} {owner : State → α → State} {m : Bool} (h : s.takesRequest)
    (hkind : kind ∉ serviceKinds ∧ kind ≠ 0x01 ∧ kind ≠ 0x02 ∧ kind ≠ 0x04) (hm : m = true → fields = none) :
    s.testedAs (s.request tag kind fields owner) tag kind m := by
  obtain ⟨hserve, hstatus, hnews, hformat⟩ := hkind
  refine ⟨fun hp _ => h.receive_finish (by simp [State.inNormal, hp]), fun _ hb => ?_, fun hp hbad => ?_⟩
  · rcases hb with ⟨-, hk⟩ | ⟨-, hk⟩
    · exact absurd hk hserve
    · exact absurd hk hformat
  · rcases hp with ⟨hp, -⟩ | hk | hk
    · exact h.receive_finish (by simp [State.inNormal, hp, State.withFields, hm hbad])
    · exact absurd hk hstatus
    · exact absurd hk hnews

theorem State.serviceRequest_testedAs {α : Type} {fields : Option α} {owner : State → α → State} {m : Bool} (h : s.takesRequest)
    (hserve : kind ∈ serviceKinds) (hm : m = true → fields = none) :
    s.testedAs (s.serviceRequest tag kind fields owner) tag kind m := by
  have hothers : kind ≠ 0x01 ∧ kind ≠ 0x02 ∧ kind ≠ 0x04 := by
    refine ⟨?_, ?_, ?_⟩ <;> rintro rfl <;> exact absurd hserve (by decide)
  obtain ⟨hstatus, hnews, hformat⟩ := hothers
  refine ⟨fun hp _ => h.receive_finish (by simp [State.inNormal, hp]), fun hp hb => ?_, fun hp hbad => ?_⟩
  · rcases hb with ⟨hservice, -⟩ | ⟨-, hk⟩
    · exact h.receive_finish (by simp [State.inNormal, hp, State.inService, hservice])
    · exact absurd hk hformat
  · rcases hp with ⟨hp, hbar⟩ | hk | hk
    · have hservice : s.service = true := by
        cases hs : s.service with
        | true => rfl
        | false => exact absurd (.inl ⟨hs, hserve⟩) hbar
      exact h.receive_finish (by simp [State.inNormal, hp, State.inService, hservice, State.withFields, hm hbad])
    · exact absurd hk hstatus
    · exact absurd hk hnews

/-- STATUS and NEWS are admitted in every power state (R192, R193). -/
theorem State.free_testedAs {form : Bool} {judge : State → State} (h : s.takesRequest) (hkind : kind = 0x01 ∨ kind = 0x02) :
    s.testedAs (s.awake fun s => s.receive tag kind fun s => s.withForm form judge) tag kind !form := by
  have hothers : kind ∉ serviceKinds ∧ kind ≠ 0x04 := by rcases hkind with rfl | rfl <;> decide
  refine ⟨fun _ hn => absurd hkind hn, fun _ hb => ?_, fun _ hbad => ?_⟩
  · rcases hb with ⟨-, hk⟩ | ⟨-, hk⟩
    · exact absurd hk hothers.1
    · exact absurd hk hothers.2
  · have hform : form = false := by simpa using hbad
    exact h.receive_finish (by simp [State.withForm, hform])

theorem execFormat_testedAs {form : Bool} (h : s.takesRequest) : s.testedAs (execFormat tag form s) tag 0x04 !form := by
  refine ⟨fun hp _ => h.receive_finish (by simp [State.inNormal, hp]), fun hp hb => ?_, fun hp hbad => ?_⟩
  · rcases hb with ⟨-, hk⟩ | ⟨hservice, -⟩
    · exact absurd hk (by decide)
    · exact h.receive_finish (by simp [State.inNormal, hp, hservice])
  · rcases hp with ⟨hp, hbar⟩ | hk | hk
    · have hservice : s.service = false := by
        cases hs : s.service with
        | false => rfl
        | true => exact absurd (.inr ⟨hs, rfl⟩) hbar
      have hform : form = false := by simpa using hbad
      exact h.receive_finish (by simp [State.inNormal, hp, hservice, State.withForm, hform])
    · exact absurd hk (by decide)
    · exact absurd hk (by decide)

theorem noFields_eq_none {form : Bool} (h : (!form) = true) : noFields form = none := by
  simp at h; simp [noFields, h]

theorem bind_eq_none_of_isNone {α β : Type} {b : Option α} {f : α → Option β} (h : b.isNone = true) : b.bind f = none := by
  simp at h; simp [h]

theorem requestOf_testedAs {c : Instr} (h : s.takesRequest) (hc : requestOf c = some (tag, kind)) :
    s.testedAs (exec c s) tag kind (malformed c) := by
  unfold requestOf at hc
  split at hc
  all_goals first | contradiction | (cases hc)
  case h_1 | h_2 => exact State.free_testedAs h (by decide)
  case h_4 => exact execFormat_testedAs h
  case h_3 | h_34 | h_35 | h_36 | h_39 => exact State.request_testedAs h (by decide) noFields_eq_none
  case h_27 | h_32 | h_33 => exact State.serviceRequest_testedAs h (by decide) noFields_eq_none
  case h_22 | h_25 | h_28 | h_29 | h_30 | h_31 => exact State.serviceRequest_testedAs h (by decide) bind_eq_none_of_isNone
  all_goals exact State.request_testedAs h (by decide) bind_eq_none_of_isNone

/-- Settles O15: each kind's tests are those of one of four forms. -/
theorem requestsAreTestedInOrder : Obligations.RequestsAreTestedInOrder := by
  intro s c tag kind h hc
  obtain ⟨hstate, hmode, hfield⟩ := requestOf_testedAs h hc
  refine ⟨hstate, hmode, hfield, fun t k hk => ?_⟩
  have hbad : exec (.badKind t k) s = s.awake fun s => s.receive t k fun s => s.finish .badKind := by
    exact congrArg s.awake (funext fun u => if_neg hk)
  rw [hbad]
  exact h.receive_finish rfl

end Sys2Proof.Machine
end

section
/-! PROOF. RESET, its release and the end of RESTART (O60). -/
namespace Sys2Proof.Machine
set_option Elab.async false

variable {s : State}

theorem State.awake_of_inReset (h : s.inReset = true) (f : State → State) : s.awake f = .next s := by
  simp [State.awake, h]

theorem State.request_of_inReset {α : Type} {tag : Tag} {kind : Byte} {fields : Option α} {owner : State → α → State}
    (h : s.inReset = true) : s.request tag kind fields owner = .next s :=
  State.awake_of_inReset h _

theorem State.serviceRequest_of_inReset {α : Type} {tag : Tag} {kind : Byte} {fields : Option α}
    {owner : State → α → State} (h : s.inReset = true) : s.serviceRequest tag kind fields owner = .next s :=
  State.awake_of_inReset h _

theorem exec_of_inReset (h : s.inReset = true) {c : Instr}
    (hc : match c with | .resetRelease _ | .pwrwarnAsserted | .pwrwarnWithdrawn => False | _ => True) :
    exec c s = .next s := by
  cases c
  case resetRelease | pwrwarnAsserted | pwrwarnWithdrawn => exact hc.elim
  all_goals dsimp only [exec]
  case tallyGet | rosterGet | siteOpen | siteLastCall | siteClose | census | musterBegin | lineEnumerate | lineRestore =>
    exact State.serviceRequest_of_inReset h
  case restart | setClock | settingsPut | guestGet | guestPut | cardAdd | cardMarkLost | cardRemove | planPut | folioGet
      | folioPut | folioSettle | takePostings | bindPut | bindRemove | profilePut | readerList | readerGet | lineCheck
      | lineIsolate | presenceSet | musterEnd | musterGet | flush | faultPlanPut | faultClear | resume =>
    exact State.request_of_inReset h
  all_goals exact State.awake_of_inReset h _

/-- While the configuration is read a condition's beginning is kept for later (R174). -/
theorem State.beginCondition_of_readingConfig {src : FaultSource} {e : FaultEntry} (h : s.startUp.phase = .readingConfig)
    (he : s.router.entry src = e) (hp : e.present = false) :
    s.beginCondition src = { s with router :=
      { s.router.setEntry src { e with present := true, raised := true, count := min (e.count + 1) 65535 } with
        deferred := s.router.deferred ++ [{ source := src, time := s.now, raise := !e.raised }] } } := by
  subst he
  simp [State.beginCondition, hp, h]
  rfl

/-- POWER_WARN's entry at reset. -/
def Router.warnAtReset : FaultEntry :=
  { present := false, raised := false, count := 0, plan := (State.reset.router.entry .powerWarn).plan }

theorem Router.entry_powerWarn_reset : State.reset.router.entry .powerWarn = Router.warnAtReset := by
  simp [Router.warnAtReset, State.reset, Router.entry, FaultSource.index]

/-- Nothing of the configuration has been read when the part leaves reset, so POWER_WARN joins CLOCK_UNSET (R174). -/
theorem State.powerOn_eq (s : State) (straps : Straps) :
    s.powerOn straps = { State.reset with
      pending := s.pending, mem := s.mem, straps := straps, pins := { State.reset.pins with pwrwarn := s.pins.pwrwarn }
      router := if s.pins.pwrwarn then
          { State.reset.router.setEntry .powerWarn
              { present := true, raised := true, count := 1, plan := (State.reset.router.entry .powerWarn).plan } with
            deferred := [{ source := .clockUnset, time := 0, raise := true }, { source := .powerWarn, time := 0, raise := true }] }
        else State.reset.router } := by
  unfold State.powerOn
  cases s.pins.pwrwarn with
  | false => rfl
  | true =>
    rw [if_pos rfl]
    refine Eq.trans (State.beginCondition_of_readingConfig ?phase (e := Router.warnAtReset) ?entry ?absent) ?eq
    case entry => exact Router.entry_powerWarn_reset
    case phase | absent | eq => rfl

theorem State.cutMemory_of_idle_or_before (s : State) (cut : CutAt) (h : s.port.job = none ∨ cut = .before) :
    s.cutMemory cut = s.mem := by
  unfold State.cutMemory
  rcases h with hjob | rfl
  · have haddress : s.jobAddress = none := by simp [State.jobAddress, hjob]
    rw [haddress]; cases s.port.silent <;> rfl
  · split <;> rfl

theorem exec_resetAsserted (h : s.inReset = false) (cut : CutAt) :
    exec (.resetAsserted cut) s = .next { s with mem := s.cutMemory cut }.held := by
  show execResetAsserted cut s = _
  exact State.awake_of_awake h _

theorem exec_resetRelease (h : s.inReset = true) (straps : Straps) :
    exec (.resetRelease straps) s = .next (s.powerOn straps) :=
  congrArg Host.Outcome.next (if_pos h)

/-- RESTART's DONE is neither on the transmit list nor formed. -/
theorem State.restartUnsent_eq_false (htx : ∀ r ∈ s.link.tx, ¬(r.kind = 0x03 ∧ r.result = .done))
    (hformed : ∀ (h : InHand) (r : Reply), s.link.inHand = some h → h.work = .formed r → ¬(r.kind = 0x03 ∧ r.result = .done)) :
    s.restartUnsent = false := by
  have hlist : s.link.tx.any Reply.isRestart = false := by
    rw [List.any_eq_false]
    intro r hr; simpa [Reply.isRestart] using htx r hr
  unfold State.restartUnsent State.work
  rw [hlist, Bool.false_or]
  cases hhand : s.link.inHand with
  | none => rfl
  | some h =>
    cases hwork : h.work with
    | formed r => simpa [Reply.isRestart, hwork] using hformed h r hhand hwork
    | _ => simp [hwork]

theorem exec_restartReset (h : s.inReset = false) (hrestart : s.power.restart = true) (hmarks : s.power.marks = some 0)
    (hsent : s.restartUnsent = false) (found : ResetFound) :
    exec (.restartReset found) s = .next ({ s with mem := s.cutMemory found.cut }.powerOn found.straps) :=
  (State.awake_of_awake h _).trans (congrArg Host.Outcome.next (if_pos ⟨hrestart, hmarks, hsent⟩))

/-- Settles O60. -/
theorem resetsStartAfresh : Obligations.ResetsStartAfresh := by
  intro s warn warned fresh
  refine ⟨fun h cut => ⟨_, exec_resetAsserted h cut, ?_⟩, s.cutMemory_of_idle_or_before, fun h => ⟨fun c hc => ?_, fun straps => ?_⟩, ?_⟩
  · refine ⟨rfl, rfl, rfl, rfl, rfl, rfl, rfl, rfl, rfl, rfl, rfl, rfl, rfl, rfl, fun i => State.slot_reset i, fun n => ?_, rfl⟩
    have hline (t : State) : t.held.lines[n] = Line.blank := by simp [State.held, State.reset]
    rw [hline]
    exact ⟨rfl, rfl, rfl, rfl, rfl⟩
  · exact exec_of_inReset h hc
  · exact (exec_resetRelease h straps).trans (congrArg Host.Outcome.next (State.powerOn_eq s straps))
  · intro straps cut h hrestart hmarks htx hformed
    rw [exec_restartReset h hrestart hmarks (State.restartUnsent_eq_false htx hformed)]
    exact congrArg Host.Outcome.next (State.powerOn_eq { s with mem := s.cutMemory cut } straps)

end Sys2Proof.Machine
end

section
/-! PROOF. A condition's beginning acts as its plan says, and the escalation (O52). -/
namespace Sys2Proof.Machine
set_option Elab.async false

variable {s : State} {src other : FaultSource}

/-! ## Entries of the router -/

theorem FaultSource.all_index (src : FaultSource) : FaultSource.all[src.index.val]? = some src := by
  cases src with
  | lineFault n | lineSlow n => fin_cases n <;> rfl
  | _ => rfl

theorem FaultSource.index_injective {a b : FaultSource} (h : a.index = b.index) : a = b := by
  have := (FaultSource.all_index a).symm.trans (h ▸ FaultSource.all_index b)
  exact Option.some.inj this

theorem Router.entry_setEntry_ne (r : Router) (e : FaultEntry) (h : other ≠ src) :
    (r.setEntry src e).entry other = r.entry other := by
  have hne : src.index.val ≠ other.index.val := fun eq => h (FaultSource.index_injective (Fin.ext eq)).symm
  simp [Router.entry, Router.setEntry, hne]

theorem Router.entry_congr {r r' : Router} (h : r.entries = r'.entries) (src : FaultSource) : r.entry src = r'.entry src := by
  simp [Router.entry, h]

theorem Router.drivesFault_congr {r r' : Router} (h : r.entries = r'.entries) : r.drivesFault = r'.drivesFault := by
  simp [Router.drivesFault, h]

/-! ## What a plan's actions set -/

@[simp] theorem State.enterStandalone_router_entries (s : State) (c : StandaloneCause) :
    (s.enterStandalone c).router.entries = s.router.entries := by
  unfold State.enterStandalone; split <;> rfl

@[simp] theorem State.enterStandalone_timer (s : State) (c : StandaloneCause) :
    (s.enterStandalone c).router.timer = s.router.timer := by
  unfold State.enterStandalone; split <;> rfl

@[simp] theorem State.enterStandalone_standalone (s : State) (c : StandaloneCause) :
    (s.enterStandalone c).router.standalone = true := by
  unfold State.enterStandalone; split <;> trivial

theorem State.enterStandalone_notices (s : State) (c : StandaloneCause) : (s.enterStandalone c).notices =
    if s.router.standalone then s.notices else s.notices.push s.clock.seconds (.standaloneEntered c s.clock.seconds) := by
  unfold State.enterStandalone; split <;> rfl

@[simp] theorem State.actOn_router_entries (s : State) (b : Begun) : (s.actOn b).router.entries = s.router.entries := by
  unfold State.actOn
  extract_lets plan u v w
  have hu : u.router.entries = s.router.entries := by unfold u; split <;> rfl
  have hv : v.router.entries = u.router.entries := by unfold v; split <;> [split <;> rfl; rfl]
  have hw : w.router.entries = v.router.entries := by unfold w; split <;> simp
  calc _ = w.router.entries := by split <;> rfl
    _ = s.router.entries := by rw [hw, hv, hu]

/-- A source whose plan's ISOLATE asks no line's isolation (R178). -/
def FaultSource.asksNoLine (src : FaultSource) : Prop := ∀ n, src ≠ .lineSlow n

/-- The notices of a beginning, FAULT_RAISED before STANDALONE_ENTERED (R176, R184; log 28). -/
def NoticeQueue.ofBegun (q : NoticeQueue) (now : Nat) (b : Begun) (plan : FaultPlan) (standalone : Bool) : NoticeQueue :=
  let q := if b.raise = true ∧ plan.note = true then q.push now (.faultRaised b.source b.time 1 plan) else q
  if plan.standalone = true ∧ standalone = false then q.push now (.standaloneEntered (.source b.source) now) else q

/-- What a plan's actions set, of a source that asks no line's isolation. -/
structure State.ActedOn (s t : State) (b : Begun) (plan : FaultPlan) : Prop where
  timer : t.router.timer = if plan.delay = true ∧ s.router.timer = .stopped then .running else s.router.timer
  standalone : t.router.standalone = (s.router.standalone || plan.standalone)
  notices : t.notices = s.notices.ofBegun s.clock.seconds b plan s.router.standalone
  lines : t.lines = s.lines

theorem State.actedOn_actOn (b : Begun) (h : b.source.asksNoLine) :
    s.ActedOn (s.actOn b) b (s.router.entry b.source).plan := by
  unfold State.actOn
  extract_lets plan u v w
  have hu : u.router = s.router ∧ u.lines = s.lines ∧ u.clock = s.clock ∧ u.notices =
      if b.raise = true ∧ plan.note = true then s.notices.push s.clock.seconds (.faultRaised b.source b.time 1 plan)
      else s.notices := by
    unfold u; split <;> simp_all
  obtain ⟨hrouter, hlines, hclock, hnotices⟩ := hu
  have hv : v = u := by
    unfold v; split
    · next n hn => exact absurd hn (h n)
    · rfl
  have hw : w.router.timer = s.router.timer ∧ w.router.standalone = (s.router.standalone || plan.standalone)
      ∧ w.notices = s.notices.ofBegun s.clock.seconds b plan s.router.standalone ∧ w.lines = s.lines := by
    unfold w NoticeQueue.ofBegun
    rw [hv, ← hnotices]
    cases hp : plan.standalone <;> cases hs : s.router.standalone <;>
      simp [State.enterStandalone_notices, hrouter, hs, hlines, hclock]
  obtain ⟨htimer, hstandalone, hnotices, hlines⟩ := hw
  split
  · next hd =>
    have hd : plan.delay = true ∧ s.router.timer = .stopped := by simpa [htimer] using hd
    exact ⟨(if_pos hd).symm, hstandalone, hnotices, hlines⟩
  · next hd =>
    have hd : ¬(plan.delay = true ∧ s.router.timer = .stopped) := by simpa [htimer] using hd
    exact ⟨htimer.trans (if_neg hd).symm, hstandalone, hnotices, hlines⟩

theorem Router.escalationSet_congr {r r' : Router} (h : r.entries = r'.entries) : r.escalationSet = r'.escalationSet := by
  simp [Router.escalationSet, Router.entry, h]

/-! ## A condition's beginning -/

theorem State.beginCondition_of_present (h : (s.router.entry src).present = true) : s.beginCondition src = s := by
  simp [State.beginCondition, h]

/-- What a condition's beginning sets (R174, R176). -/
structure State.Began (s t : State) (src : FaultSource) : Prop where
  entry : t.router.entry src =
    { s.router.entry src with present := true, raised := true, count := min ((s.router.entry src).count + 1) 65535 }
  others : ∀ other : FaultSource, other ≠ src → t.router.entry other = s.router.entry other
  fault : t.pins.fault = t.router.drivesFault
  acted : s.ActedOn t { source := src, time := s.now, raise := !(s.router.entry src).raised } (s.router.entry src).plan

theorem State.began_beginCondition (hread : s.startUp.phase ≠ .readingConfig) (h : (s.router.entry src).present = false)
    (hline : src.asksNoLine) : s.Began (s.beginCondition src) src := by
  unfold State.beginCondition
  extract_lets e b u
  rw [if_neg (by rw [show e.present = false from h]; exact Bool.false_ne_true), if_neg hread]
  have hentry : u.router.entry src = { e with present := true, raised := true, count := min (e.count + 1) 65535 } :=
    Router.entry_setEntry_same _ _ _
  have hacted := State.actedOn_actOn (s := u) b hline
  have hplan : (u.router.entry b.source).plan = e.plan := (congrArg FaultEntry.plan hentry :)
  rw [hplan] at hacted
  obtain ⟨htimer, hstandalone, hnotices, hlines⟩ := hacted
  refine ⟨?_, fun other ho => ?_, ?_, htimer, hstandalone, hnotices, hlines⟩
  · exact (Router.entry_congr (by simp) src).trans hentry
  · have hsame : (u.actOn b).refreshFault.router.entries = u.router.entries := by simp
    exact (Router.entry_congr hsame other).trans (Router.entry_setEntry_ne _ _ ho)
  · unfold State.refreshFault
    simp [u, hread]

/-! ## The obligation -/

theorem exec_cacheStall (h : s.inReset = false) (hs : s.cache.stalling = true) :
    exec .cacheStall s = .next (s.beginCondition .cacheStall) := by
  show execCacheStall s = _
  exact (State.awake_of_awake h _).trans (congrArg _ (if_pos hs))

theorem exec_linkSilent (h : s.inReset = false) (hs : s.settings.linkSilence ≤ s.link.silence) :
    exec .linkSilent s = .next (s.beginCondition .linkSilent) := by
  show execLinkSilent s = _
  exact (State.awake_of_awake h _).trans (congrArg _ (if_pos hs))

theorem exec_escalation (h : s.inReset = false) (ht : s.router.timer = .running) (hr : s.settings.escalation ≤ s.router.run) :
    exec .escalation s = .next s.escalate := by
  show execEscalation s = _
  exact (State.awake_of_awake h _).trans (congrArg _ (if_pos ⟨ht, hr⟩))

/-- Settles O52. -/
theorem conditionsActAsPlanned : Obligations.ConditionsActAsPlanned := by
  intro s hreset hread now begins
  have hbegins (c : Instr) (src : FaultSource) (hline : src.asksNoLine) (hexec : exec c s = .next (s.beginCondition src)) :
      begins c src := by
    refine ⟨fun hp => by rw [hexec, State.beginCondition_of_present hp], fun hp => ⟨_, hexec, ?_⟩⟩
    obtain ⟨hentry, hothers, hfault, htimer, hstandalone, hnotices, hlines⟩ := State.began_beginCondition hread hp hline
    refine ⟨hentry, hothers, hfault, htimer, hstandalone, ?_, hlines, ?_⟩
    · simpa [NoticeQueue.ofBegun, State.now] using hnotices
    · simp
  refine ⟨fun hs => hbegins _ _ (by simp [FaultSource.asksNoLine]) (exec_cacheStall hreset hs),
    fun hs => hbegins _ _ (by simp [FaultSource.asksNoLine]) (exec_linkSilent hreset hs), fun ht hr => ?_⟩
  refine ⟨_, exec_escalation hreset ht hr, ?_⟩
  have hset : ({ s.router with timer := .expired } : Router).escalationSet = s.router.escalationSet :=
    Router.escalationSet_congr rfl
  unfold State.escalate
  cases hs : s.router.standalone <;> simp [State.enterStandalone, hs, State.now, now, ← hset]

end Sys2Proof.Machine
end

section
/-! PROOF. The configuration blocks are read back whole (O13). -/
namespace Sys2Proof.Machine
set_option Elab.async false

/-! ## Numbers at an offset -/

theorem numAt_be_self (n v : Nat) (h : v < 256 ^ n) : numAt (be n v) 0 n = v := by
  simp [numAt, List.take_of_length_le, ofBe_be n v h]

theorem numAt_be_append (n v : Nat) (rest : List Byte) (h : v < 256 ^ n) : numAt (be n v ++ rest) 0 n = v := by
  simp [numAt, ofBe_be n v h]

theorem numAt_append_of_le (front rest : List Byte) (off n : Nat) (h : front.length ≤ off) :
    numAt (front ++ rest) off n = numAt rest (off - front.length) n := by
  simp [numAt, List.drop_append, List.drop_of_length_le h]

theorem numAt_be_skip (m v : Nat) (rest : List Byte) (off n : Nat) (h : m ≤ off) :
    numAt (be m v ++ rest) off n = numAt rest (off - m) n := by
  rw [numAt_append_of_le _ _ _ _ (by rwa [be_length]), be_length]

theorem ofSigned_signed (n : Nat) (v : Int) (h : fitsSigned n v = true) : ofSigned n (signed n v) = v := by
  have hlt : signed n v < 256 ^ n := by
    have p : (0 : Int) < (256 ^ n : Nat) := by exact_mod_cast Nat.pow_pos (by decide)
    have := Int.emod_lt_of_pos v p
    have := Int.emod_nonneg v (Int.ne_of_gt p)
    unfold signed; omega
  have hread := readSigned_be n v [] h
  simp only [readSigned, Functor.map, StateT.map, readNum_be n _ [] hlt, bind, Option.bind, pure] at hread
  exact congrArg Prod.fst (Option.some.inj hread)

/-! ## Lists read piece by piece -/

theorem mapM_eq_some_of_getElem {α β : Type} (f : α → Option β) (xs : List α) (ys : List β) (hlen : xs.length = ys.length)
    (h : ∀ (i : Nat) (hx : i < xs.length) (hy : i < ys.length), f xs[i] = some ys[i]) : xs.mapM f = some ys := by
  induction xs generalizing ys with
  | nil => cases ys with
    | nil => rfl
    | cons y ys => simp at hlen
  | cons x xs ih => cases ys with
    | nil => simp at hlen
    | cons y ys =>
      have hhead := h 0 (by simp) (by simp)
      have htail := ih ys (by simpa using hlen) fun i hx hy => h (i + 1) (by simpa using hx) (by simpa using hy)
      simp only [List.getElem_cons_zero] at hhead
      simp [List.mapM_cons, hhead, htail]

variable {α : Type} {enc : α → List Byte} {k : Nat}

theorem flatten_map_length (henc : ∀ x, (enc x).length = k) (xs : List α) : (xs.map enc).flatten.length = k * xs.length := by
  induction xs with
  | nil => rfl
  | cons x xs ih => rw [List.map_cons, List.flatten_cons, List.length_append, henc, ih, List.length_cons, Nat.mul_succ, Nat.add_comm]

/-- Pieces of one length laid end to end, the i-th taken. -/
theorem take_drop_flatten (henc : ∀ x, (enc x).length = k) (xs : List α) (rest : List Byte) (i : Nat) (h : i < xs.length) :
    (((xs.map enc).flatten ++ rest).drop (k * i)).take k = enc xs[i] := by
  induction xs generalizing i with
  | nil => simp at h
  | cons x xs ih => cases i with
    | zero => simp [← henc x]
    | succ i =>
      have hdrop : k * (i + 1) = (enc x).length + k * i := by rw [henc, Nat.mul_succ, Nat.add_comm]
      rw [List.map_cons, List.flatten_cons, List.append_assoc, hdrop, ← List.drop_drop, List.drop_left]
      exact ih i (by simpa using h)

theorem numAt_flatten {enc : α → Nat} {n : Nat} (henc : ∀ x, enc x < 256 ^ n) (xs : List α) (i : Nat) (h : i < xs.length) :
    numAt (xs.map fun x => be n (enc x)).flatten (n * i) n = enc xs[i] := by
  have := take_drop_flatten (enc := fun x => be n (enc x)) (fun x => be_length n (enc x)) xs [] i h
  rw [List.append_nil] at this
  rw [numAt, this, ofBe_be n _ (henc _)]

/-! ## The blocks of single fields -/

theorem settingsOfBytes_settingsBytes (v : Settings) (h : v.inRange = true) : settingsOfBytes (settingsBytes v) = some v := by
  have hr := h
  simp only [Settings.inRange, Bool.and_eq_true, decide_eq_true_iff] at hr
  obtain ⟨⟨⟨⟨hrollover, hflush⟩, hround⟩, hlink⟩, hescalation⟩ := hr
  have hread : settingsOfBytes (settingsBytes v) = if v.inRange then some v else none := by
    simp (disch := omega) only [settingsOfBytes, settingsBytes, List.append_assoc, numAt_be_append, numAt_be_skip, numAt_be_self,
      Nat.reduceSub]
  rw [hread, if_pos h]

theorem profileOfBytes_profileBytes (p : Profile) (h : p.inRange = true) : profileOfBytes (profileBytes p) = some p := by
  have hr := h
  simp only [Profile.inRange, Bool.and_eq_true, decide_eq_true_iff] at hr
  obtain ⟨⟨⟨⟨hopen, hrate⟩, hprice⟩, hqty⟩, hoffline⟩ := hr
  have hmask : p.mask.toNat < 256 ^ 2 := p.mask.isLt
  have hmasks : p.maskPrice.toNat + 2 * p.maskQty.toNat < 4 := by
    have := Bool.toNat_le p.maskPrice
    have := Bool.toNat_le p.maskQty
    omega
  have hprice1 : decide ((p.maskPrice.toNat + 2 * p.maskQty.toNat) % 2 = 1) = p.maskPrice := by
    cases p.maskPrice <;> cases p.maskQty <;> rfl
  have hqty1 : decide ((p.maskPrice.toNat + 2 * p.maskQty.toNat) / 2 % 2 = 1) = p.maskQty := by
    cases p.maskPrice <;> cases p.maskQty <;> rfl
  have hread : profileOfBytes (profileBytes p) =
      if p.inRange && decide (p.maskPrice.toNat + 2 * p.maskQty.toNat < 4) then some p else none := by
    simp (disch := omega) only [profileOfBytes, profileBytes, List.append_assoc, numAt_be_append, numAt_be_skip, numAt_be_self,
      Nat.reduceSub, BitVec.ofNat_toNat, BitVec.setWidth_eq, hprice1, hqty1]
  rw [hread, h, decide_eq_true hmasks]
  rfl

theorem planOfBytes_planBytes (p : Plan) (h : p.inRange = true) : planOfBytes (planBytes p) = some p := by
  have hr := h
  simp only [Plan.inRange, Bool.and_eq_true, decide_eq_true_iff] at hr
  obtain ⟨hcap, hallowance⟩ := hr
  have hcovered : p.covered.toNat < 256 ^ 4 := p.covered.isLt
  have hread : planOfBytes (planBytes p) = if p.inRange then some p else none := by
    simp (disch := omega) only [planOfBytes, planBytes, List.append_assoc, numAt_be_append, numAt_be_skip, numAt_be_self,
      Nat.reduceSub, BitVec.ofNat_toNat, BitVec.setWidth_eq]
  rw [hread, if_pos h]

theorem marksOfBytes_marksBytes (head tail : PostSerial) (h : (tail - head).toNat ≤ 2048) :
    marksOfBytes (marksBytes head tail) = some (head, tail) := by
  have hhead : head.toNat < 256 ^ 4 := head.isLt
  have htail : tail.toNat < 256 ^ 4 := tail.isLt
  have hread : marksOfBytes (marksBytes head tail) = if (tail - head).toNat ≤ 2048 then some (head, tail) else none := by
    simp (disch := omega) only [marksOfBytes, marksBytes, numAt_be_append, numAt_be_skip, numAt_be_self,
      Nat.reduceSub, BitVec.ofNat_toNat, BitVec.setWidth_eq]
  rw [hread, if_pos h]

theorem clockOfBytes_clockBytes (seconds day : Nat) (o : Int) (hs : seconds ≤ voyageMax) (hd : day ≤ 65535)
    (ho : offsetInRange o = true) : clockOfBytes (clockBytes seconds day o) = some (seconds, day, o) := by
  have hback : ofSigned 2 (signed 2 o) = o := by
    refine ofSigned_signed 2 o ?_
    simp only [offsetInRange, decide_eq_true_iff] at ho
    simp only [fitsSigned, decide_eq_true_iff]
    omega
  have hlt : signed 2 o < 256 ^ 2 := by
    simp only [offsetInRange, decide_eq_true_iff] at ho
    unfold signed
    omega
  unfold voyageMax at hs
  have hread : clockOfBytes (clockBytes seconds day o) = if offsetInRange o then some (seconds, day, o) else none := by
    simp (disch := omega) only [clockOfBytes, clockBytes, List.append_assoc, numAt_be_append, numAt_be_skip, numAt_be_self,
      Nat.reduceSub, hback]
  rw [hread, if_pos ho]

theorem musterOfBytes_musterBytes (active : Bool) (stamp : Nat) (h : stamp ≤ voyageMax) :
    musterOfBytes (musterBytes active stamp) = some (active, stamp) := by
  have hactive : active.toNat ≤ 1 := Bool.toNat_le active
  have hback : decide (active.toNat = 1) = active := by cases active <;> rfl
  unfold voyageMax at h
  simp (disch := omega) only [musterOfBytes, musterBytes, numAt_be_append, numAt_be_skip, numAt_be_self, Nat.reduceSub,
    if_pos hactive, hback]

/-! ## The fault plan -/

theorem FaultPlan.code_lt (p : FaultPlan) : p.code < 32 := by
  have := Bool.toNat_le p.note
  have := Bool.toNat_le p.pin
  have := Bool.toNat_le p.isolate
  have := Bool.toNat_le p.standalone
  have := Bool.toNat_le p.delay
  unfold FaultPlan.code
  omega

theorem FaultPlan.ofCode_code (p : FaultPlan) : FaultPlan.ofCode p.code = some p := by
  obtain ⟨note, pin, isolate, standalone, delay⟩ := p
  revert note pin isolate standalone delay
  decide

theorem planOfByte_code (src : FaultSource) (p : FaultPlan) (h : src.isLine = false → p.isolate = false) :
    planOfByte src p.code = some p := by
  unfold planOfByte
  rw [FaultPlan.ofCode_code]
  cases hline : src.isLine with
  | true => simp
  | false => simp [h hline]

theorem faultPlanOfBytes_faultPlanBytes (v : Vector FaultPlan 16)
    (h : ∀ src : FaultSource, src.isLine = false → v[src.index].isolate = false) :
    faultPlanOfBytes (faultPlanBytes v) = some v.toList := by
  have hindex : ∀ i : Fin 16, FaultSource.all[i].index = i := by decide
  refine mapM_eq_some_of_getElem _ _ _ (by simp [FaultSource.all]) fun i hx hy => ?_
  have hi : FaultSource.all[i].index.val = i := congrArg Fin.val (hindex ⟨i, hx⟩)
  have hcode : numAt (faultPlanBytes v) FaultSource.all[i].index.val 1 = v.toList[i].code := by
    have hcode := numAt_flatten (enc := FaultPlan.code) (n := 1) (fun p => Nat.lt_trans p.code_lt (by decide)) v.toList i hy
    rw [Nat.one_mul] at hcode
    exact (congrArg (numAt _ · 1) hi).trans hcode
  rw [hcode]
  refine planOfByte_code _ _ fun hline => ?_
  have := h _ hline
  simpa [hi] using this

/-! ## The bindings -/

theorem readerKindCode_lt (k : ReaderKind) : readerKindCode k < 256 := by cases k <;> decide

theorem readerKindOfCode_readerKindCode (k : ReaderKind) : readerKindOfCode (readerKindCode k) = some k := by cases k <;> rfl

theorem below_val {n : Nat} (i : Fin n) : below n i.val = some i := by simp [below]

theorem locusInRange_lt {k : ReaderKind} {locus : Nat} (h : locusInRange k locus = true) : locus < 65536 := by
  cases k <;> simp only [locusInRange, decide_eq_true_iff] at h <;> omega

theorem bindingOfBytes_bindingBytes (b : Option Binding)
    (h : ∀ x, b = some x → x.serial ≠ 0 ∧ locusInRange x.kind x.locus = true) : bindingOfBytes (bindingBytes b) = some b := by
  cases b with
  | none => decide
  | some b =>
    obtain ⟨hserial, hlocus⟩ := h b rfl
    have hlt : b.serial.toNat < 256 ^ 4 := b.serial.isLt
    have hne : b.serial.toNat ≠ 0 := fun e => hserial (BitVec.eq_of_toNat_eq e)
    have hkind : readerKindCode b.kind < 256 ^ 1 := readerKindCode_lt b.kind
    have hprofile : b.profile.val < 256 ^ 1 := Nat.lt_trans b.profile.isLt (by decide)
    have hlocusLt : b.locus < 256 ^ 2 := locusInRange_lt hlocus
    simp (disch := omega) only [bindingOfBytes, bindingBytes, List.append_assoc, numAt_be_append, numAt_be_skip, numAt_be_self,
      Nat.reduceSub, if_neg hne, readerKindOfCode_readerKindCode, below_val, Option.bind_eq_bind, Option.bind_some, if_pos hlocus,
      BitVec.ofNat_toNat, BitVec.setWidth_eq]

theorem bindingsOfBytes_bindingBytes (v : List (Option Binding)) (hlen : v.length = 16)
    (h : ∀ b : Binding, some b ∈ v → b.serial ≠ 0 ∧ locusInRange b.kind b.locus = true) :
    bindingsOfBytes (v.map bindingBytes).flatten = some v := by
  refine mapM_eq_some_of_getElem _ _ _ (by simp [hlen]) fun i hx hy => ?_
  have hpiece := take_drop_flatten bindingBytes_length v [] i hy
  rw [List.append_nil] at hpiece
  rw [List.getElem_range, hpiece]
  exact bindingOfBytes_bindingBytes _ fun x hx => h x (hx ▸ List.getElem_mem hy)

/-! ## The sites and the lane map -/

theorem SiteState.ofCode_code (x : SiteState) : SiteState.ofCode x.code = some x := by cases x <;> rfl

theorem SiteState.code_lt (x : SiteState) : x.code < 256 ^ 1 := by cases x <;> decide

/-- A site's entry in the sites block (12.7). -/
def siteEntryBytes (x : Site) : List Byte := be 1 x.state.code ++ optBytes 4 x.deadline

theorem siteEntryBytes_length (x : Site) : (siteEntryBytes x).length = 6 := by simp [siteEntryBytes, optBytes_length]

theorem siteOfBytes_siteEntryBytes (x : Site) (h : ∀ d, x.deadline = some d → d ≤ voyageMax) :
    siteOfBytes (siteEntryBytes x) = some { x with count := 0, due := false } := by
  have hstate : SiteState.ofCode (numAt (siteEntryBytes x) 0 1) = some x.state := by
    rw [siteEntryBytes, numAt_be_append _ _ _ x.state.code_lt, SiteState.ofCode_code]
  have hdeadline : (if numAt (siteEntryBytes x) 1 1 = 0 then none else some (numAt (siteEntryBytes x) 2 4)) = x.deadline := by
    have hskip (off n : Nat) (h : 1 ≤ off) : numAt (siteEntryBytes x) off n = numAt (optBytes 4 x.deadline) (off - 1) n :=
      numAt_be_skip 1 _ _ off n h
    rw [hskip 1 1 (by decide), hskip 2 4 (by decide)]
    cases hd : x.deadline with
    | none => rfl
    | some d =>
      have hlt : d < 256 ^ 4 := Nat.lt_of_le_of_lt (h d hd) (by decide)
      have hpresent : numAt (optBytes 4 (some d)) (1 - 1) 1 = 1 := rfl
      have hvalue : numAt (optBytes 4 (some d)) (2 - 1) 4 = d := numAt_be_self 4 d hlt
      rw [hpresent, hvalue]
      rfl
  unfold siteOfBytes
  rw [hstate]
  simp only [Option.bind_eq_bind, Option.bind_some, hdeadline]
  exact if_pos rfl

theorem ofZeroNone_zeroNone {n : Nat} (o : Option (Fin n)) : ofZeroNone n (zeroNone o) = some o := by
  cases o with
  | none => rfl
  | some i => simp [ofZeroNone, zeroNone, oneBased]

theorem sitesOfBytes_sitesBytes (sites : Vector Site 4) (lanes : Vector (Option (Fin 4)) 4)
    (hd : ∀ (n : Fin 4) (d : Nat), sites[n].deadline = some d → d ≤ voyageMax)
    (hl : ∀ n t : Fin 4, lanes[n] = some t → sites[t].state ≠ .closed) :
    sitesOfBytes (sitesBytes sites lanes) =
      some (sites.toList.map (fun x => { x with count := 0, due := false }), lanes.toList) := by
  have hsites : (List.range 4).mapM (fun i => siteOfBytes (((sitesBytes sites lanes).drop (6 * i)).take 6)) =
      some (sites.toList.map fun x => { x with count := 0, due := false }) := by
    refine mapM_eq_some_of_getElem _ _ _ (by simp) fun i hx hy => ?_
    have hi : i < sites.toList.length := by simpa using hy
    have hpiece := take_drop_flatten siteEntryBytes_length sites.toList (lanes.toList.map fun l => be 1 (zeroNone l)).flatten i hi
    rw [List.getElem_range, List.getElem_map]
    refine (congrArg siteOfBytes hpiece).trans (siteOfBytes_siteEntryBytes _ fun d e => hd ⟨i, by simpa using hi⟩ d ?_)
    simpa using e
  have hlanes : (List.range 4).mapM (fun i => ofZeroNone 4 (numAt (sitesBytes sites lanes) (24 + i) 1)) = some lanes.toList := by
    refine mapM_eq_some_of_getElem _ _ _ (by simp) fun i hx hy => ?_
    have hfront : (sites.toList.map siteEntryBytes).flatten.length = 24 := by
      rw [flatten_map_length siteEntryBytes_length]; simp
    have hzero (l : Option (Fin 4)) : zeroNone l < 256 ^ 1 := by
      cases l with
      | none => decide
      | some t => simp only [zeroNone]; omega
    have hcode : numAt (sitesBytes sites lanes) (24 + i) 1 = zeroNone lanes.toList[i] := by
      refine (numAt_append_of_le (sites.toList.map siteEntryBytes).flatten _ _ _ (by omega)).trans ?_
      rw [hfront, Nat.add_sub_cancel_left]
      simpa using numAt_flatten (n := 1) hzero lanes.toList i hy
    rw [List.getElem_range, hcode, ofZeroNone_zeroNone]
  unfold sitesOfBytes
  rw [hsites, hlanes]
  refine if_pos (List.all_eq_true.mpr fun l hmem => ?_)
  cases l with
  | none => rfl
  | some t =>
    obtain ⟨n, hn, e⟩ := List.getElem_of_mem hmem
    have := hl ⟨n, by simpa using hn⟩ t (by simpa using e)
    simpa using this

/-- Settles O13, block by block. -/
theorem configurationBlocksRoundTrip : Obligations.ConfigurationBlocksRoundTrip :=
  ⟨settingsOfBytes_settingsBytes, profileOfBytes_profileBytes, planOfBytes_planBytes, faultPlanOfBytes_faultPlanBytes,
    marksOfBytes_marksBytes, clockOfBytes_clockBytes, bindingsOfBytes_bindingBytes, sitesOfBytes_sitesBytes,
    musterOfBytes_musterBytes⟩

end Sys2Proof.Machine
end

section
/-! PROOF. What the arbiter and the places it gives out leave: the port's queue and the marks of write-backs and commits change,
and nothing else. -/
namespace Sys2Proof.Machine
set_option Elab.async false
variable {s t u : State}

/-! ## A DIRTY slot whose write-back is queued or taken -/

/-- A slot is as it was, or a DIRTY one has its write-back queued, or taken by the port (R39). -/
def Slot.Tended (x y : Slot) (taken : Prop) : Prop :=
  y = x ∨ x.state = .dirty ∧ (y = { x with wbQueued := true }
    ∨ taken ∧ y = { x with state := .writing, wbQueued := false, urgent := false })

theorem Slot.Tended.refl {x : Slot} {taken : Prop} : x.Tended x taken := .inl rfl

theorem Slot.Tended.trans {x y z : Slot} {p q : Prop} (h : x.Tended y p) (k : y.Tended z q) (hpq : p → q) : x.Tended z q := by
  rcases h with rfl | ⟨hx, rfl | ⟨hp, rfl⟩⟩
  · exact k
  · rcases k with rfl | ⟨-, rfl | ⟨hq, rfl⟩⟩
    · exact .inr ⟨hx, .inl rfl⟩
    · exact .inr ⟨hx, .inl rfl⟩
    · exact .inr ⟨hx, .inr ⟨hq, rfl⟩⟩
  · rcases k with rfl | ⟨hw, -⟩
    · exact .inr ⟨hx, .inr ⟨hpq hp, rfl⟩⟩
    · cases hw

theorem Slot.Tended.eq_of_not_dirty {x y : Slot} {p : Prop} (h : x.Tended y p) (hx : x.state ≠ .dirty) : y = x :=
  h.resolve_right fun k => hx k.1

/-- What a write-back's queueing or taking leaves of a slot. -/
theorem Slot.Tended.kept {x y : Slot} {p : Prop} (h : x.Tended y p) :
    y.key = x.key ∧ y.content = x.content ∧ y.incoming = x.incoming ∧ y.waiters = x.waiters ∧ y.dirtyAgain = x.dirtyAgain
    ∧ y.dirtySince = x.dirtySince ∧ y.holds = x.holds ∧ y.commitPending = x.commitPending
    ∧ y.emergencyFailed = x.emergencyFailed := by
  rcases h with rfl | ⟨-, rfl | ⟨-, rfl⟩⟩ <;> exact ⟨rfl, rfl, rfl, rfl, rfl, rfl, rfl, rfl, rfl⟩

/-- Its state, too, but for a DIRTY slot whose write-back the port has taken. -/
theorem Slot.Tended.state {x y : Slot} {p : Prop} (h : x.Tended y p) :
    y.state = x.state ∨ x.state = .dirty ∧ p ∧ y.state = .writing := by
  rcases h with rfl | ⟨hx, rfl | ⟨hp, rfl⟩⟩
  · exact .inl rfl
  · exact .inl rfl
  · exact .inr ⟨hx, hp, rfl⟩

theorem Slot.Tended.has {x y : Slot} {p : Prop} (h : x.Tended y p) (k : RecKey) : y.has k = x.has k := by
  rcases h with rfl | ⟨hx, rfl | ⟨-, rfl⟩⟩ <;> simp [Slot.has, *]

theorem Slot.Tended.brings {x y : Slot} {p : Prop} (h : x.Tended y p) (k : RecKey) : y.brings k = x.brings k := by
  rcases h with rfl | ⟨hx, rfl | ⟨-, rfl⟩⟩ <;> simp [Slot.brings, *]

/-! ## The relation -/

/-- A state with other slots, another port and another commit list. -/
def State.arranged (s : State) (slots : Vector Slot 128) (port : Port) (commits : List CommitEntry) : State :=
  { s with cache := { s.cache with slots := slots }, port := port, journal := { s.journal with commits := commits } }

/-- Nothing queues a write-back of slot i: neither FLUSH nor the emergency flush runs, and none is queued. -/
def State.spares (s : State) (i : Fin 128) : Prop :=
  .writeBack i ∉ s.port.queue ∧ s.cache.flush = none ∧ s.power.state ≠ .emergencyFlush

/-- A commit without its mark that it is queued. -/
def CommitEntry.unmarked (c : CommitEntry) : CommitEntry := { c with queued := false }

/-- What queueing write-backs and commits, and the arbiter's taking of jobs, can change (R28, R29, R39, R43, R45, R126). -/
structure State.Arranges (s t : State) : Prop where
  frame : t = s.arranged t.cache.slots t.port t.journal.commits
  slots : ∀ i, (s.slot i).Tended (t.slot i) (t.port.job = some (.writeBack i))
  spared : ∀ i, s.spares i → t.slot i = s.slot i ∧ .writeBack i ∉ t.port.queue
  job : ∀ j, s.port.job = some j → t.port.job = some j
  queue : ∀ j ∈ s.port.queue, j ∈ t.port.queue ∨ t.port.job = some j
  new : ∀ j ∈ t.port.queue, j ∈ s.port.queue ∨ j = .commit ∨ ∃ i, j = .writeBack i
  waiting : ∀ w ∈ s.port.waiting, w ∈ t.port.waiting
  newWaiting : ∀ w ∈ t.port.waiting, w ∈ s.port.waiting ∨ w = .flush ∨ w = .emergency
  commits : t.journal.commits.map CommitEntry.unmarked = s.journal.commits.map CommitEntry.unmarked
  queued : s.journal.commits.all (·.queued) = true → t.journal.commits = s.journal.commits

theorem State.Arranges.flush (h : s.Arranges t) : t.cache.flush = s.cache.flush := by rw [h.frame]; rfl
theorem State.Arranges.power (h : s.Arranges t) : t.power = s.power := by rw [h.frame]; rfl
theorem State.Arranges.recency (h : s.Arranges t) : t.cache.recency = s.cache.recency := by rw [h.frame]; rfl
theorem State.Arranges.landing (h : s.Arranges t) : t.landing = s.landing := by rw [h.frame]; rfl

theorem State.Arranges.spares {i : Fin 128} (h : s.Arranges t) (hi : s.spares i) : t.spares i :=
  ⟨(h.spared i hi).2, h.flush.trans hi.2.1, by rw [h.power]; exact hi.2.2⟩

theorem State.Arranges.refl (s : State) : s.Arranges s where
  frame := rfl
  slots _ := .refl
  spared _ h := ⟨rfl, h.1⟩
  job _ h := h
  queue _ h := .inl h
  new _ h := .inl h
  waiting _ h := h
  newWaiting _ h := .inl h
  commits := rfl
  queued _ := rfl

theorem State.Arranges.trans (h : s.Arranges t) (k : t.Arranges u) : s.Arranges u where
  frame := calc
    u = t.arranged u.cache.slots u.port u.journal.commits := k.frame
    _ = (s.arranged t.cache.slots t.port t.journal.commits).arranged u.cache.slots u.port u.journal.commits :=
      congrArg (State.arranged · _ _ _) h.frame
    _ = _ := rfl
  slots i := (h.slots i).trans (k.slots i) (k.job _)
  spared i hi := ⟨(k.spared i (h.spares hi)).1.trans (h.spared i hi).1, (k.spared i (h.spares hi)).2⟩
  job j hj := k.job j (h.job j hj)
  queue j hj := (h.queue j hj).elim (k.queue j) fun e => .inr (k.job j e)
  new j hj := (k.new j hj).elim (h.new j) .inr
  waiting w hw := k.waiting w (h.waiting w hw)
  newWaiting w hw := (k.newWaiting w hw).elim (h.newWaiting w) .inr
  commits := k.commits.trans h.commits
  queued hs := by
    have e := h.queued hs
    exact (k.queued (by rw [e]; exact hs)).trans e

/-! ## The arbiter -/

theorem firstLeast_mem {key : Job → Nat} {js : List Job} {j : Job} (h : firstLeast key js = some j) : j ∈ js := by
  induction js generalizing j with
  | nil => cases h
  | cons i js ih =>
    unfold firstLeast at h
    split at h
    · cases h; exact List.mem_cons_self
    · next k hk =>
      split at h
      · cases h; exact List.mem_cons_of_mem _ (ih hk)
      · cases h; exact List.mem_cons_self

theorem State.bestJob_mem {j : Job} (h : s.bestJob = some j) : j ∈ s.port.queue := by
  unfold State.bestJob at h
  split at h
  · cases h
  · simp only [Option.or_eq_some_iff] at h
    rcases h with h | ⟨-, h | ⟨-, h | ⟨-, h | ⟨-, h⟩⟩⟩⟩
    · exact List.mem_of_find?_eq_some h
    · exact List.mem_of_find?_eq_some h
    · exact List.mem_of_find?_eq_some h
    · exact List.mem_of_mem_filter (firstLeast_mem h)
    · split at h
      · exact List.mem_of_mem_filter (firstLeast_mem h)
      · cases h

/-- The port after the arbiter has taken a job. -/
theorem State.startJob_port (s : State) (j : Job) : (s.startJob j).port =
    { s.port with job := some j, record := s.jobRecord j, data := s.jobData j, silent := false, queue := s.port.queue.erase j } := by
  unfold State.startJob State.takenSlot
  split
  · split <;> rfl
  · rfl

theorem State.startJob_frame (s : State) (j : Job) :
    s.startJob j = s.arranged (s.startJob j).cache.slots (s.startJob j).port s.journal.commits := by
  unfold State.startJob State.takenSlot
  split
  · split <;> rfl
  · rfl

theorem State.startJob_slot (s : State) (j : Job) (i : Fin 128) : (s.startJob j).slot i =
    if j = .writeBack i ∧ (s.slot i).state = .dirty then
      { s.slot i with state := .writing, wbQueued := false, urgent := false }
    else s.slot i := by
  unfold State.startJob State.takenSlot
  split
  · next k =>
    have hk (x : Slot) (i : Fin 128) : (s.setSlot k x).slot i = if i = k then x else s.slot i := State.slot_setSlot s k i x
    by_cases hd : (s.slot k).state = .dirty
    · refine (congrArg (State.slot · i) (if_pos hd)).trans ((hk _ i).trans ?_)
      by_cases hi : i = k
      · subst hi; rw [if_pos rfl, if_pos ⟨rfl, hd⟩]; rfl
      · rw [if_neg hi, if_neg fun h => hi (Job.writeBack.inj h.1).symm]
    · refine (congrArg (State.slot · i) (if_neg hd)).trans (if_neg fun h => hd ?_).symm
      rw [Job.writeBack.inj h.1]; exact h.2
  · next hno => exact (if_neg fun h => hno i h.1).symm

theorem State.Arranges.startJob {j : Job} (hidle : s.port.job = none) (hj : j ∈ s.port.queue) :
    s.Arranges (s.startJob j) where
  frame := by rw [s.startJob_frame]; rfl
  slots i := by
    rw [State.startJob_slot, State.startJob_port]
    split
    · next h => exact .inr ⟨h.2, .inr ⟨congrArg some h.1, rfl⟩⟩
    · exact .refl
  spared i hi := by
    rw [State.startJob_slot, State.startJob_port]
    refine ⟨if_neg ?_, fun h => hi.1 (List.mem_of_mem_erase h)⟩
    rintro ⟨rfl, -⟩
    exact hi.1 hj
  job k hk := by rw [hidle] at hk; cases hk
  queue k hk := by
    rw [State.startJob_port]
    by_cases e : k = j
    · exact .inr (congrArg some e.symm)
    · exact .inl ((List.mem_erase_of_ne e).mpr hk)
  new k hk := by rw [State.startJob_port] at hk; exact .inl (List.mem_of_mem_erase hk)
  waiting w hw := by rw [State.startJob_port]; exact hw
  newWaiting w hw := by rw [State.startJob_port] at hw; exact .inl hw
  commits := by rw [s.startJob_frame]; rfl
  queued _ := by rw [s.startJob_frame]; rfl

theorem State.Arranges.pump (h : s.Arranges t) : s.Arranges t.pump := by
  refine h.trans ?_
  unfold State.pump
  split
  · next j hidle hnext =>
    exact .startJob hidle (State.bestJob_mem (Option.filter_eq_some_iff.mp hnext).1)
  · exact .refl t

/-! ## Queueing -/

/-- An update of the port's queue and waiting list alone that adds only commits, write-backs and requesters of them. -/
theorem State.Arranges.ofPort {q : List Job} {w : List PlaceWaiter} (hq : ∀ j ∈ s.port.queue, j ∈ q)
    (hn : ∀ j ∈ q, j ∈ s.port.queue ∨ j = .commit) (hw : ∀ x ∈ s.port.waiting, x ∈ w)
    (hnw : ∀ x ∈ w, x ∈ s.port.waiting ∨ x = .flush ∨ x = .emergency) :
    s.Arranges { s with port := { s.port with queue := q, waiting := w } } where
  frame := rfl
  slots _ := .refl
  spared i hi := ⟨rfl, fun h => (hn _ h).elim hi.1 (by simp)⟩
  job _ h := h
  queue j hj := .inl (hq j hj)
  new j hj := (hn j hj).imp_right .inl
  waiting := hw
  newWaiting := hnw
  commits := rfl
  queued _ := rfl

theorem State.Arranges.awaitPlace {w : PlaceWaiter} (h : s.Arranges t) (hw : w = .flush ∨ w = .emergency) :
    s.Arranges (t.awaitPlace w) := by
  refine h.trans ?_
  unfold State.awaitPlace
  split
  · exact .refl t
  · refine .ofPort (fun _ h => h) (fun _ h => .inl h) (fun x hx => List.mem_append_left _ hx) fun x hx => ?_
    rcases List.mem_append.mp hx with hx | hx
    · exact .inl hx
    · rw [List.mem_singleton.mp hx]; exact .inr hw

/-- A DIRTY slot's write-back is queued while FLUSH or the emergency flush runs. -/
theorem State.Arranges.queueWriteBack {i : Fin 128} (h : s.Arranges t) (hd : (t.slot i).state = .dirty)
    (hrun : t.cache.flush = none → t.power.state = .emergencyFlush) : s.Arranges (t.queueWriteBack i) := by
  refine .pump (h.trans ?_)
  exact {
    frame := rfl
    slots := fun j => by
      show (t.slot j).Tended ((t.setSlot i { t.slot i with wbQueued := true }).slot j) _
      rw [State.slot_setSlot]
      split
      · next e => subst e; exact .inr ⟨hd, .inl rfl⟩
      · exact .refl
    spared := fun j hj => absurd (hrun hj.2.1) hj.2.2
    job := fun _ h => h
    queue := fun j hj => .inl (List.mem_append_left _ hj)
    new := fun j hj => by
      rcases List.mem_append.mp hj with hj | hj
      · exact .inl hj
      · exact .inr (.inr ⟨i, List.mem_singleton.mp hj⟩)
    waiting := fun _ h => h
    newWaiting := fun _ h => .inl h
    commits := rfl
    queued := fun _ => rfl }

/-- What a sweep wants is a DIRTY slot, while FLUSH or the emergency flush runs. -/
theorem State.dirty_of_flushWants (t : State) (i : Fin 128) : t.flushWants i = true →
    (t.slot i).state = .dirty ∧ (t.cache.flush = none → t.power.state = .emergencyFlush) := by
  unfold State.flushWants
  intro h
  cases hf : t.cache.flush <;> simp_all

theorem State.dirty_of_emergencyWants (t : State) (i : Fin 128) : t.emergencyWants i = true →
    (t.slot i).state = .dirty ∧ (t.cache.flush = none → t.power.state = .emergencyFlush) := by
  unfold State.emergencyWants
  intro h
  simp_all

theorem State.Arranges.sweepFrom {wants : State → Fin 128 → Bool} {w : PlaceWaiter} (hw : w = .flush ∨ w = .emergency)
    (hwants : ∀ (t : State) (i : Fin 128), wants t i = true →
      (t.slot i).state = .dirty ∧ (t.cache.flush = none → t.power.state = .emergencyFlush))
    (is : List (Fin 128)) (h : s.Arranges t) : s.Arranges (State.sweepFrom wants w is t) := by
  induction is generalizing t with
  | nil => exact h
  | cons i is ih =>
    unfold State.sweepFrom
    split
    · next hi =>
      split
      · exact ih (h.queueWriteBack (hwants t i hi).1 (hwants t i hi).2)
      · exact h.awaitPlace hw
    · exact ih h

theorem State.Arranges.sweepFlush (h : s.Arranges t) : s.Arranges t.sweepFlush :=
  h.sweepFrom (.inl rfl) State.dirty_of_flushWants _

theorem State.Arranges.sweepEmergency (h : s.Arranges t) : s.Arranges t.sweepEmergency :=
  h.sweepFrom (.inr rfl) State.dirty_of_emergencyWants _

theorem markQueued_unmarked (cs : List CommitEntry) :
    (markQueued cs).map CommitEntry.unmarked = cs.map CommitEntry.unmarked := by
  induction cs with
  | nil => rfl
  | cons c cs ih =>
    unfold markQueued
    split
    · rw [List.map_cons, ih, List.map_cons]
    · rfl

theorem State.Arranges.queueCommits (fuel : Nat) (h : s.Arranges t) : s.Arranges (State.queueCommits fuel t) := by
  induction fuel generalizing t with
  | zero => exact h
  | succ fuel ih =>
    unfold State.queueCommits
    split
    · next hc =>
      refine ih (.pump (h.trans ?_))
      exact {
        frame := rfl
        slots := fun _ => .refl
        spared := fun i hi => ⟨rfl, fun hm => (List.mem_append.mp hm).elim hi.1 (by simp)⟩
        job := fun _ h => h
        queue := fun j hj => .inl (List.mem_append_left _ hj)
        new := fun j hj => (List.mem_append.mp hj).imp id fun hj => .inl (List.mem_singleton.mp hj)
        waiting := fun _ h => h
        newWaiting := fun _ h => .inl h
        commits := markQueued_unmarked _
        queued := fun hall => by
          obtain ⟨c, hmem, hno⟩ := List.any_eq_true.mp hc.2
          have := List.all_eq_true.mp hall c hmem
          simp [this] at hno }
    · exact h

theorem State.pump_waiting (t : State) : t.pump.port.waiting = t.port.waiting := by
  unfold State.pump
  split
  · rw [State.startJob_port]
  · rfl

theorem State.queueCommits_waiting (fuel : Nat) (t : State) : (State.queueCommits fuel t).port.waiting = t.port.waiting := by
  induction fuel generalizing t with
  | zero => rfl
  | succ fuel ih =>
    unfold State.queueCommits
    split
    · exact (ih _).trans (State.pump_waiting _)
    · rfl

/-- The places are given out with none waiting for one. -/
theorem State.Arranges.settle {asks : Bool} (h : s.Arranges t) (hw : t.port.waiting = []) : s.Arranges (t.settle asks) := by
  unfold State.settle
  rw [State.servePlaces_nil (by rw [State.queueCommits_waiting, hw])]
  exact (h.queueCommits _).sweepEmergency.sweepFlush.pump

end Sys2Proof.Machine
end

section
/-! PROOF. What the end of a memory job leaves, once its requester has been told: the places freed, the census reads that are over
at once, and the arbiter (R27 to R29). -/
namespace Sys2Proof.Machine
set_option Elab.async false
variable {s t u : State}

/-- What a job's end leaves, besides the slots, the port and the counts. -/
def State.untended (s : State) :=
  (s.mem, s.link, s.router, s.entries, s.clock, s.power, (s.journal.head, s.journal.tail, s.journal.next),
    s.cache.flush, s.cache.stalling)

/-- A requester that waits on its own account, not on that of the request in hand. -/
def PlaceWaiter.ofUnit : PlaceWaiter → Bool
  | .block _ | .flush | .emergency | .census => true
  | .handConf | .handMiss | .postings | .format => false

/-- A notice that a census gives. -/
def NoticeBody.ofCensus : NoticeBody → Bool
  | .startUpDone .. | .censusDone .. | .siteOverdue .. | .siteClear .. => true
  | _ => false

/-- Notices queued after those of a queue, each of a body that passes a test. -/
def NoticeQueue.extends (q r : NoticeQueue) (p : NoticeBody → Bool) : Prop :=
  ∃ more, r.items = q.items ++ more ∧ ∀ x ∈ more, p x.body = true

theorem NoticeQueue.extends.refl (q : NoticeQueue) (p : NoticeBody → Bool) : q.extends q p := ⟨[], by simp, by simp⟩

theorem NoticeQueue.extends.trans {q r r' : NoticeQueue} {p : NoticeBody → Bool} (h : q.extends r p) (k : r.extends r' p) :
    q.extends r' p := by
  obtain ⟨more, e, hmore⟩ := h
  obtain ⟨more', e', hmore'⟩ := k
  refine ⟨more ++ more', by rw [e', e, List.append_assoc], fun x hx => ?_⟩
  exact (List.mem_append.mp hx).elim (hmore x) (hmore' x)

theorem NoticeQueue.extends_push (q : NoticeQueue) (now : Nat) {b : NoticeBody} {p : NoticeBody → Bool} (hb : p b = true) :
    q.extends (q.push now b) p := by
  unfold NoticeQueue.extends NoticeQueue.push
  split
  · exact ⟨_, rfl, fun x hx => by rw [List.mem_singleton.mp hx]; exact hb⟩
  · exact ⟨[], by simp, by simp⟩

/-- What the end of a job can change once its requester has been told. -/
structure State.Tends (s t : State) : Prop where
  same : t.untended = s.untended
  slots : ∀ i, (s.slot i).Tended (t.slot i) (t.port.job = some (.writeBack i))
  spared : ∀ i, s.spares i → t.slot i = s.slot i ∧ .writeBack i ∉ t.port.queue
  job : ∀ j, s.port.job = some j → t.port.job = some j
  queue : ∀ j ∈ s.port.queue, (∀ n, j ≠ .censusRead n) → j ∈ t.port.queue ∨ t.port.job = some j
  handMiss : .handMiss ∈ s.port.waiting → .handMiss ∈ t.port.waiting
  waiting : ∀ w ∈ t.port.waiting, w ∈ s.port.waiting ∨ w.ofUnit = true
  commits : t.journal.commits.map CommitEntry.unmarked = s.journal.commits.map CommitEntry.unmarked
  queued : s.journal.commits.all (·.queued) = true → t.journal.commits = s.journal.commits
  notices : s.notices.extends t.notices NoticeBody.ofCensus
  census : s.landing.census.running = false → t.landing.census = s.landing.census

namespace State.Tends

theorem mem (h : s.Tends t) : t.mem = s.mem := congrArg (·.1) h.same
theorem link (h : s.Tends t) : t.link = s.link := congrArg (·.2.1) h.same
theorem router (h : s.Tends t) : t.router = s.router := congrArg (·.2.2.1) h.same
theorem entries (h : s.Tends t) : t.entries = s.entries := congrArg (·.2.2.2.1) h.same
theorem clock (h : s.Tends t) : t.clock = s.clock := congrArg (·.2.2.2.2.1) h.same
theorem power (h : s.Tends t) : t.power = s.power := congrArg (·.2.2.2.2.2.1) h.same
theorem head (h : s.Tends t) : t.journal.head = s.journal.head := congrArg (·.2.2.2.2.2.2.1.1) h.same
theorem tail (h : s.Tends t) : t.journal.tail = s.journal.tail := congrArg (·.2.2.2.2.2.2.1.2.1) h.same
theorem next (h : s.Tends t) : t.journal.next = s.journal.next := congrArg (·.2.2.2.2.2.2.1.2.2) h.same
theorem flush (h : s.Tends t) : t.cache.flush = s.cache.flush := congrArg (·.2.2.2.2.2.2.2.1) h.same
theorem stalling (h : s.Tends t) : t.cache.stalling = s.cache.stalling := congrArg (·.2.2.2.2.2.2.2.2) h.same

theorem noticed (h : s.Tends t) {b : NoticeBody} (hb : s.noticed b) : t.noticed b := by
  obtain ⟨x, hx, e⟩ := hb
  obtain ⟨more, hitems, -⟩ := h.notices
  exact ⟨x, by rw [hitems]; exact List.mem_append_left _ hx, e⟩

theorem noticed_of (h : s.Tends t) {b : NoticeBody} (hb : t.noticed b) (hcensus : b.ofCensus = false) : s.noticed b := by
  obtain ⟨x, hx, rfl⟩ := hb
  obtain ⟨more, hitems, hmore⟩ := h.notices
  rw [hitems] at hx
  refine ⟨x, (List.mem_append.mp hx).resolve_right fun hm => ?_, rfl⟩
  rw [hmore x hm] at hcensus
  cases hcensus

theorem spares {i : Fin 128} (h : s.Tends t) (hi : s.spares i) : t.spares i :=
  ⟨(h.spared i hi).2, h.flush.trans hi.2.1, by rw [h.power]; exact hi.2.2⟩

theorem refl (s : State) : s.Tends s where
  same := rfl
  slots _ := .refl
  spared _ h := ⟨rfl, h.1⟩
  job _ h := h
  queue _ h _ := .inl h
  handMiss h := h
  waiting _ h := .inl h
  commits := rfl
  queued _ := rfl
  notices := .refl _ _
  census _ := rfl

theorem trans (h : s.Tends t) (k : t.Tends u) : s.Tends u where
  same := k.same.trans h.same
  slots i := (h.slots i).trans (k.slots i) (k.job _)
  spared i hi := ⟨(k.spared i (h.spares hi)).1.trans (h.spared i hi).1, (k.spared i (h.spares hi)).2⟩
  job j hj := k.job j (h.job j hj)
  queue j hj hn := (h.queue j hj hn).elim (fun hj => k.queue j hj hn) fun e => .inr (k.job j e)
  handMiss hw := k.handMiss (h.handMiss hw)
  waiting w hw := (k.waiting w hw).elim (h.waiting w) .inr
  commits := k.commits.trans h.commits
  queued hs := by
    have e := h.queued hs
    exact (k.queued (by rw [e]; exact hs)).trans e
  notices := h.notices.trans k.notices
  census hs := by
    have e := h.census hs
    exact (k.census (by rw [e]; exact hs)).trans e

end State.Tends

theorem State.Arranges.tends (h : s.Arranges t) : s.Tends t where
  same := by rw [h.frame]; rfl
  slots := h.slots
  spared := h.spared
  job := h.job
  queue j hj _ := h.queue j hj
  handMiss := h.waiting _
  waiting w hw := (h.newWaiting w hw).imp_right (by rintro (rfl | rfl) <;> rfl)
  commits := h.commits
  queued := h.queued
  notices := by rw [h.frame]; exact .refl _ _
  census _ := by rw [h.landing]

/-! ## Updates -/

/-- What the relation looks at besides the census. -/
def State.tendedCore (s : State) :=
  (s.mem, s.link, s.router, s.entries, s.clock, s.power, s.journal, s.cache, s.port, s.notices)

theorem State.Tends.ofCore (h : s.Tends t) (e : u.tendedCore = t.tendedCore)
    (hc : s.landing.census.running = false → u.landing.census = s.landing.census) : s.Tends u := by
  simp only [State.tendedCore, Prod.mk.injEq] at e
  obtain ⟨hmem, hlink, hrouter, hentries, hclock, hpower, hjournal, hcache, hport, hnotices⟩ := e
  have hslot (i : Fin 128) : u.slot i = t.slot i := by rw [State.slot, State.slot, hcache]
  exact {
    same := by
      rw [← h.same]
      simp only [State.untended, hmem, hlink, hrouter, hentries, hclock, hpower, hjournal, hcache]
    slots := fun i => by rw [hslot, hport]; exact h.slots i
    spared := fun i hi => by rw [hslot, hport]; exact h.spared i hi
    job := by rw [hport]; exact h.job
    queue := by rw [hport]; exact h.queue
    handMiss := by rw [hport]; exact h.handMiss
    waiting := by rw [hport]; exact h.waiting
    commits := by rw [hjournal]; exact h.commits
    queued := by rw [hjournal]; exact h.queued
    notices := by rw [hnotices]; exact h.notices
    census := hc }

namespace State.Tends

theorem other (h : s.Tends t) (e : u.tendedCore = t.tendedCore) (hc : u.landing.census = t.landing.census) : s.Tends u :=
  h.ofCore e fun hs => hc.trans (h.census hs)

/-- A running census moves its cursor, its marks and the counts. -/
theorem counted (h : s.Tends t) (hrun : s.landing.census.running = true) (e : u.tendedCore = t.tendedCore) : s.Tends u :=
  h.ofCore e fun hno => by rw [hrun] at hno; cases hno

theorem ite {c : Prop} [Decidable c] {a b : State} (ha : c → s.Tends a) (hb : ¬c → s.Tends b) : s.Tends (if c then a else b) := by
  split
  · next h => exact ha h
  · next h => exact hb h

theorem notify {b : NoticeBody} (h : s.Tends t) (hb : b.ofCensus = true) : s.Tends (t.notify b) := by
  refine h.trans ?_
  exact { refl t with notices := NoticeQueue.extends_push _ _ hb }

theorem pump (h : s.Tends t) : s.Tends t.pump := h.trans (State.Arranges.refl t).pump.tends

/-- The port's queue loses no job but a census read, and gains no write-back. -/
theorem setQueue {q : List Job} (h : s.Tends t) (hq : ∀ j ∈ t.port.queue, (∀ n, j ≠ .censusRead n) → j ∈ q)
    (hn : ∀ i, .writeBack i ∈ q → .writeBack i ∈ t.port.queue) : s.Tends (t.setQueue q) := by
  refine h.trans ?_
  exact { refl t with
    spared := fun i hi => ⟨rfl, fun hm => hi.1 (hn i hm)⟩
    queue := fun j hj hne => .inl (hq j hj hne) }

theorem enqueue {j : Job} (h : s.Tends t) (hj : ∀ i, j ≠ .writeBack i) : s.Tends (t.enqueue j) := by
  refine .pump (h.setQueue (fun k hk _ => List.mem_append_left _ hk) fun i hm => ?_)
  exact (List.mem_append.mp hm).resolve_right fun e => hj i (List.mem_singleton.mp e).symm

theorem touch {i : Fin 128} (h : s.Tends t) : s.Tends (t.touch i) := h.trans { refl t with }

theorem awaitPlace {w : PlaceWaiter} (h : s.Tends t) (hw : w.ofUnit = true) : s.Tends (t.awaitPlace w) := by
  refine h.trans ?_
  unfold State.awaitPlace
  split
  · exact refl t
  · exact { refl t with
      handMiss := fun hm => List.mem_append_left _ hm
      waiting := fun x hx => (List.mem_append.mp hx).imp_right fun e => by rw [List.mem_singleton.mp e]; exact hw }

theorem unitWrite {b : ConfBlock} (h : s.Tends t) : s.Tends (t.unitWrite b) := by
  unfold State.unitWrite
  exact .ite (fun _ => h.enqueue (by simp)) fun _ => h.awaitPlace rfl

theorem overdue {n : Fin 4} {d : Nat} (h : s.Tends t) : s.Tends (t.overdue n d) := by
  unfold State.overdue
  exact .notify (.unitWrite (h.other rfl rfl)) rfl

theorem sweepFlush (h : s.Tends t) : s.Tends t.sweepFlush := h.trans (State.Arranges.refl t).sweepFlush.tends
theorem sweepEmergency (h : s.Tends t) : s.Tends t.sweepEmergency := h.trans (State.Arranges.refl t).sweepEmergency.tends
theorem queueCommits {fuel : Nat} (h : s.Tends t) : s.Tends (State.queueCommits fuel t) :=
  h.trans ((State.Arranges.refl t).queueCommits fuel).tends

/-! ## The census -/

theorem censusReads {fuel : Nat} (h : s.Tends t) : s.Tends (State.censusReads fuel t) := by
  induction fuel generalizing t with
  | zero => exact h
  | succ fuel ih =>
    unfold State.censusReads
    extract_lets c
    split
    · next hc =>
      refine .ite (fun _ => ih (.enqueue (h.trans ((refl t).counted hc.1 rfl)) (by simp))) fun _ => h.awaitPlace rfl
    · exact h

end State.Tends

namespace State.Tends

theorem clearEmptySites (h : s.Tends t) : s.Tends t.clearEmptySites := by
  unfold State.clearEmptySites
  exact List.foldlRecOn (motive := fun u : State => s.Tends u) _ _ h fun u hu n _ => .ite (fun _ => hu.notify rfl) fun _ => hu

theorem startUpReview (h : s.Tends t) : s.Tends t.startUpReview := by
  unfold State.startUpReview
  exact .ite (fun _ => .notify (h.other rfl rfl) rfl) fun _ => h

theorem censusReview (h : s.Tends t) : s.Tends t.censusReview := by
  unfold State.censusReview
  extract_lets c a b d
  split
  · next hc =>
    have ha : t.Tends { t with landing := { t.landing with census := { c with running := false } } } :=
      (refl t).counted hc.1 rfl
    have hb : s.Tends b := (h.trans ha).clearEmptySites
    have hd : s.Tends d := hb.notify rfl
    clear_value d
    exact .ite (fun _ => .startUpReview (hd.other rfl rfl)) fun _ => hd
  · exact h

theorem censusCard {n : Fin 2048} {i : Fin 2} {c : Option Card} (h : s.Tends t) (hrun : s.landing.census.running = true) :
    s.Tends (t.censusCard n i c) :=
  h.counted hrun (by simp [State.tendedCore])

theorem censusCount {n : Fin 2048} {g : Guest} (h : s.Tends t) (hrun : s.landing.census.running = true) :
    s.Tends (t.censusCount n g) := by
  unfold State.censusCount
  split
  · exact h
  · extract_lets a b
    have ha : s.Tends a := (h.censusCard hrun).censusCard hrun
    have hb : s.Tends b := by
      unfold b
      split
      · exact .ite (fun _ => ha.overdue) fun _ => ha
      · exact ha
    clear_value b
    exact hb.counted hrun (by simp [State.tendedCore])

theorem censusTaken {n : Fin 2048} {g : Option Guest} (h : s.Tends t) : s.Tends (t.censusTaken n g) := by
  refine h.trans ?_
  unfold State.censusTaken
  split
  · next hrun =>
    extract_lets a
    have ha : t.Tends a := by
      unfold a
      split
      · exact (refl t).censusCount hrun
      · exact (refl t).counted hrun rfl
    clear_value a
    exact .censusReview (.awaitPlace (ha.counted hrun rfl) rfl)
  · exact refl t

theorem censusInstant {n : Fin 2048} {i : Fin 128} (h : s.Tends t) : s.Tends (t.censusInstant n i) := by
  unfold State.censusInstant
  refine .censusTaken (.touch (h.setQueue (fun j hj hne => (List.mem_erase_of_ne (hne n)).mpr hj) fun i hm => ?_))
  exact List.mem_of_mem_erase hm

end State.Tends

/-! ## The request in hand whose miss cannot start -/

/-- The request in hand asks for a record that no slot holds or brings, and no slot can be claimed for it (R34). -/
def State.stuckMiss (s : State) : Prop :=
  (∃ h req, s.link.inHand = some h ∧ h.work = .record req ∧ s.refusedEarly req = false ∧ s.find req.key = .miss)
  ∧ (∀ i, (s.slot i).state ≠ .empty ∧ (s.slot i).isVictim = false) ∧ s.cache.stalling = true

/-- No requester waits but the units, and a request in hand whose miss cannot start. -/
def State.resting (s : State) : Prop := ∀ w ∈ s.port.waiting, w.ofUnit = true ∨ w = .handMiss ∧ s.stuckMiss

theorem State.find_congr (h : ∀ i k, (t.slot i).has k = (s.slot i).has k) (hb : ∀ i k, (t.slot i).brings k = (s.slot i).brings k)
    (k : RecKey) : t.find k = s.find k := by
  simp only [State.find, State.holder, h, hb]

theorem Slot.Tended.stays_claimed {x y : Slot} {p : Prop} (h : x.Tended y p) (hx : x.state ≠ .empty ∧ x.isVictim = false) :
    y.state ≠ .empty ∧ y.isVictim = false := by
  rcases h with rfl | ⟨hd, rfl | ⟨-, rfl⟩⟩
  · exact hx
  · exact hx
  · simp [Slot.isVictim]

theorem State.Tends.find (h : s.Tends t) (k : RecKey) : t.find k = s.find k :=
  State.find_congr (fun i k => (h.slots i).has k) (fun i k => (h.slots i).brings k) k

theorem State.Tends.refusedEarly (h : s.Tends t) {req : RecordReq} (hr : s.refusedEarly req = false) :
    t.refusedEarly req = false := by
  unfold State.refusedEarly at hr ⊢
  split
  · simp only [Bool.or_eq_false_iff] at hr
    rw [h.census hr.1, hr.1, hr.2]
    rfl
  · rfl

theorem State.Tends.stuckMiss (h : s.Tends t) (hs : s.stuckMiss) : t.stuckMiss := by
  obtain ⟨⟨x, req, hhand, hwork, hearly, hmiss⟩, hslots, hstall⟩ := hs
  refine ⟨⟨x, req, ?_, hwork, h.refusedEarly hearly, ?_⟩, fun i => (h.slots i).stays_claimed (hslots i), ?_⟩
  · rw [h.link]; exact hhand
  · rw [h.find]; exact hmiss
  · rw [h.stalling]; exact hstall

theorem State.Tends.resting (h : s.Tends t) (hs : s.resting) : t.resting := by
  intro w hw
  rcases h.waiting w hw with hw | hw
  · exact (hs w hw).imp_right fun ⟨e, hm⟩ => ⟨e, h.stuckMiss hm⟩
  · exact .inl hw

theorem State.claimable_eq_none (h : ∀ i, (s.slot i).state ≠ .empty ∧ (s.slot i).isVictim = false) : s.claimable = none := by
  simp [State.claimable, h]

/-- It asks again in vain. -/
theorem State.startRecord_of_stuckMiss {x : InHand} {req : RecordReq} (hx : s.link.inHand = some x) (hw : x.work = .record req)
    (he : s.refusedEarly req = false) (hm : s.find req.key = .miss)
    (hslots : ∀ i, (s.slot i).state ≠ .empty ∧ (s.slot i).isVictim = false) (hstall : s.cache.stalling = true) :
    s.startRecord req = s.awaitPlace .handMiss := by
  have hask : s.ask req.key .host = (s, .stuck) := by
    have hstuck : s.missStuck = s := by unfold State.missStuck; rw [← hstall]
    simp only [State.ask, hm, State.claim, State.claimable_eq_none hslots, hstuck]
  have hset : s.setWork (.record req) = s := by
    unfold State.setWork
    rw [hx, Option.map_some, ← hw, ← hx]
  simp only [State.startRecord, he, hask, Bool.false_eq_true, if_false, hset]

/-! ## The places given out -/

theorem State.Tends.erase_awaitPlace_handMiss (hm : .handMiss ∈ t.port.waiting) :
    t.Tends ((t.setWaiting (t.port.waiting.erase .handMiss)).awaitPlace .handMiss) := by
  unfold State.awaitPlace
  split
  · next h => exact { State.Tends.refl t with handMiss := fun _ => h, waiting := fun w hw => .inl (List.mem_of_mem_erase hw) }
  · exact { State.Tends.refl t with
      handMiss := fun _ => List.mem_append_right _ List.mem_cons_self
      waiting := fun w hw => .inl ((List.mem_append.mp hw).elim List.mem_of_mem_erase fun e => by
        rw [List.mem_singleton.mp e]; exact hm) }

theorem State.Tends.serve_unit {w : PlaceWaiter} (hw : w.ofUnit = true) : t.Tends (t.serve w) := by
  cases w
  case block b => exact (refl t).unitWrite
  case flush => exact (refl t).sweepFlush
  case emergency => exact (refl t).sweepEmergency
  case census => exact (refl t).censusReads
  all_goals cases hw

theorem State.Tends.erase_unit {w : PlaceWaiter} (hw : w.ofUnit = true) : t.Tends (t.setWaiting (t.port.waiting.erase w)) :=
  { State.Tends.refl t with
    handMiss := fun hm => (List.mem_erase_of_ne (by rintro rfl; cases hw)).mpr hm
    waiting := fun w hw => .inl (List.mem_of_mem_erase hw) }

/-- One requester is served again. -/
theorem State.Tends.serve {w : PlaceWaiter} {asks : Bool}
    (hw : w.ofUnit = true ∨ w = .handMiss ∧ t.stuckMiss ∧ .handMiss ∈ t.port.waiting) :
    t.Tends (if w = .handMiss ∧ asks = false then (t.setWaiting (t.port.waiting.erase w)).awaitPlace w
      else (t.setWaiting (t.port.waiting.erase w)).serve w) := by
  rcases hw with hw | ⟨rfl, ⟨⟨x, req, hhand, hwork, hearly, hmiss⟩, hslots, hstall⟩, hm⟩
  · have hno : ¬(w = .handMiss ∧ asks = false) := by rintro ⟨rfl, -⟩; cases hw
    exact (State.Tends.erase_unit hw).trans (by rw [if_neg hno]; exact .serve_unit hw)
  · generalize hu : t.setWaiting (t.port.waiting.erase .handMiss) = u
    have hwait : t.Tends (u.awaitPlace .handMiss) := hu ▸ .erase_awaitPlace_handMiss hm
    have hserve : u.serve .handMiss = u.awaitPlace .handMiss := by
      subst hu
      have hw : (t.setWaiting (t.port.waiting.erase .handMiss)).work = some (.record req) := by
        show (t.link.inHand.map (·.work)) = _
        rw [hhand, Option.map_some, hwork]
      unfold State.serve
      rw [hw]
      exact State.startRecord_of_stuckMiss hhand hwork hearly hmiss hslots hstall
    rw [hserve]
    split <;> exact hwait

theorem State.Tends.servePlaces {asks : Bool} (h : s.Tends t) (hr : t.resting) : s.Tends (t.servePlaces asks) := by
  refine h.trans ?_
  unfold State.servePlaces
  refine List.foldlRecOn (motive := fun u : State => t.Tends u) _ _ (.refl t) fun u hu w hw => hu.trans (.serve ?_)
  exact (hr w hw).imp_right fun ⟨e, hm⟩ => ⟨e, hu.stuckMiss hm, hu.handMiss (e ▸ hw)⟩

theorem State.Tends.settle {asks : Bool} (h : s.Tends t) (hr : t.resting) : s.Tends (t.settle asks) := by
  unfold State.settle
  have hc : t.Tends (State.queueCommits t.journal.commits.length t) := (State.Tends.refl t).queueCommits
  exact ((((h.trans hc).servePlaces (hc.resting hr)).sweepEmergency).sweepFlush).pump

theorem State.Tends.censusRun {fuel : Nat} (h : s.Tends t) (hr : t.resting) : s.Tends (State.censusRun fuel t) := by
  induction fuel generalizing t with
  | zero => exact h
  | succ fuel ih =>
    unfold State.censusRun
    split
    · split
      · next n _ _ _ i _ =>
        have hi : t.Tends (t.censusInstant n i) := (State.Tends.refl t).censusInstant
        have hsettled : t.Tends ((t.censusInstant n i).settle true) := hi.settle (hi.resting hr)
        exact ih (h.trans hsettled) (hsettled.resting hr)
      · exact h
    · exact h

/-- The port without the job that has ended. -/
def State.idle (s : State) : State :=
  { s with port := { s.port with job := none, record := none, data := [], silent := false } }

theorem State.idle_tends_jobOver (hr : t.resting) : t.idle.Tends t.jobOver := by
  have hidle : t.idle.resting := hr
  have hp : t.idle.Tends t.idle.pump := (State.Tends.refl _).pump
  have hsettled : t.idle.Tends (t.idle.pump.settle true) := hp.settle (hp.resting hidle)
  exact hsettled.censusRun (hsettled.resting hidle)

end Sys2Proof.Machine
end

section
/-! PROOF. What the end of a memory job reports, and how it answers the request in hand. -/
namespace Sys2Proof.Machine
set_option Elab.async false
variable {s t u : State} {src other : FaultSource}

/-! ## Conditions -/

theorem State.endCondition_entry (s : State) (src other : FaultSource) : (s.endCondition src).router.entry other =
    if other = src then { s.router.entry src with present := false } else s.router.entry other := by
  unfold State.endCondition
  split
  · next h => rw [h]; exact Router.entry_setEntry_same _ _ _
  · next h => exact Router.entry_setEntry_ne _ _ h

theorem State.beginCondition_entry (s : State) (src other : FaultSource) : (s.beginCondition src).router.entry other =
    if other = src then (s.router.entry src).judged true else s.router.entry other := by
  have hset (r : Router) (e : FaultEntry) : (r.setEntry src e).entry other = if other = src then e else r.entry other := by
    split
    · next h => rw [h]; exact Router.entry_setEntry_same _ _ _
    · next h => exact Router.entry_setEntry_ne _ _ h
  unfold State.beginCondition
  extract_lets e b v
  split
  · next hp =>
    rw [FaultEntry.judged_of_present hp]
    split
    · next h => rw [h]; show e = { e with present := true }; rw [← hp]
    · rfl
  · next hp =>
    have hv : v.router.entry other = if other = src then e.judged true else s.router.entry other := by
      have hj : e.judged true = { e with present := true, raised := true, count := min (e.count + 1) 65535 } :=
        if_pos ⟨rfl, Bool.eq_false_iff.mpr hp⟩
      rw [hj]
      exact hset _ _
    split
    · exact (Router.entry_congr rfl other).trans hv
    · exact (Router.entry_congr (by simp) other).trans hv

theorem FaultEntry.judged_present (e : FaultEntry) (b : Bool) : (e.judged b).present = b := by
  unfold FaultEntry.judged
  split
  · next h => exact h.1.symm
  · rfl

theorem State.setCondition_entry (s : State) (src other : FaultSource) (b : Bool) : (s.setCondition src b).router.entry other =
    if other = src then (s.router.entry src).judged b else s.router.entry other := by
  cases b with
  | true => exact s.beginCondition_entry src other
  | false =>
    refine (s.endCondition_entry src other).trans ?_
    simp [FaultEntry.judged]

/-! ## The port's report -/

theorem State.report_of_silent (h : s.port.silent = true) (ok : Bool) : s.report ok = s := by
  simp [State.report, h]

theorem State.report_eq (h : s.port.silent = false) (ok : Bool) :
    s.report ok = (s.endCondition .memSilent).setCondition .memCheck (!ok) := by
  simp only [State.report, h, Bool.false_eq_true, if_false]
  cases ok <;> rfl

theorem State.report_memCheck (h : s.port.silent = false) (ok : Bool) :
    ((s.report ok).router.entry .memCheck).present = !ok := by
  rw [State.report_eq h, State.setCondition_entry, if_pos rfl, FaultEntry.judged_present]

theorem State.report_memSilent (h : s.port.silent = false) (ok : Bool) :
    ((s.report ok).router.entry .memSilent).present = false := by
  rw [State.report_eq h, State.setCondition_entry, if_neg (by decide), State.endCondition_entry, if_pos rfl]

/-- The report is of MEM_CHECK and MEM_SILENT alone. -/
theorem State.report_entry (ok : Bool) (hc : other ≠ .memCheck) (hs : other ≠ .memSilent) :
    (s.report ok).router.entry other = s.router.entry other := by
  cases h : s.port.silent with
  | true => rw [State.report_of_silent h]
  | false => rw [State.report_eq h, State.setCondition_entry, if_neg hc, State.endCondition_entry, if_neg hs]

@[simp] theorem State.report_slot (s : State) (ok : Bool) (i : Fin 128) : (s.report ok).slot i = s.slot i := by
  simp [State.slot]

/-! ## The block written -/

theorem State.writeBlocked_of_good {a : Nat} (hs : s.port.silent = false) (ha : s.jobAddress = some a) :
    s.writeBlocked .good = (s.mem.writeBlock a s.port.data, true) := by
  simp [State.writeBlocked, hs, ha, Memory.writeChecked]

theorem State.writeBlocked_of_fails {w : WriteResult} (h : w = .differs ∨ s.port.silent = true) :
    s.writeBlocked w = (s.mem, false) := by
  unfold State.writeBlocked
  split
  · next hs _ =>
    rcases h with rfl | h
    · rfl
    · rw [hs] at h; cases h
  · rfl

/-- A write that does not pass reads back otherwise, or finds the memory silent. -/
theorem WriteResult.fails_of_not_passes {w : WriteResult} (h : ¬(w = .good ∧ s.port.silent = false)) :
    w = .differs ∨ s.port.silent = true := by
  cases w with
  | differs => exact .inl rfl
  | good => exact .inr (by simpa using h)

/-! ## The request in hand -/

theorem State.finish_link {tag : Tag} {kind : Byte} {w : Work} (hh : s.link.inHand = some ⟨tag, kind, w⟩)
    (htx : s.link.tx.length < 8) (r : Result) (b : ReplyBody) : (s.finish r b).link = (s.answered tag kind r b).link := by
  simp [State.finish, hh, htx, State.answered]

theorem State.resting_of_nil (h : s.port.waiting = []) : s.resting := by
  intro w hw; rw [h] at hw; cases hw

end Sys2Proof.Machine
end

section
/-! PROOF. The end of a fill, and the memory's silence (O55). -/
namespace Sys2Proof.Machine
set_option Elab.async false
variable {s t u : State} {i : Fin 128} {k : RecKey} {r : ReadResult}

theorem exec_fill (h : s.inReset = false) (hj : s.port.job = some (.fill i) ∨ s.port.job = some (.pairRead i)) :
    exec (.fill r) s = .next (s.fillDone i r).jobOver := by
  show execFill r s = _
  refine (State.awake_of_awake h _).trans (congrArg _ ?_)
  rcases hj with hj | hj <;> rw [hj]

/-! ## What the read brings -/

theorem State.readRecord_good (hs : s.port.silent = false) :
    s.readRecord k .good = Rec.ofBlock k (s.mem.readBlock (recordAddress k) (recordSize k)) := by
  simp [State.readRecord, hs]

theorem State.readRecord_of_fails (h : s.readFails k r ∨ s.port.silent = true) : s.readRecord k r = none := by
  unfold State.readRecord
  split
  · next hs =>
    rcases h with (h | h) | h
    · cases h
    · exact h
    · rw [hs] at h; cases h
  · rfl

theorem State.fillDone_of_good {v : Rec} (hrec : s.port.record = some k) (hstate : (s.slot i).state = .filling)
    (hkey : (s.slot i).key = some k) (hgot : s.readRecord k r = some v) :
    s.fillDone i r = (s.slot i).waiters.foldl (fun s w => s.serveWaiter i k w)
      ((s.report true).setSlot i { s.slot i with state := .clean, content := some v, waiters := [] }) := by
  simp only [State.fillDone, hrec, Option.bind_some, hgot, hstate, hkey, Option.isSome_some]

theorem State.fillDone_of_fails (hrec : s.port.record = some k) (hstate : (s.slot i).state = .filling)
    (hkey : (s.slot i).key = some k) (hgot : s.readRecord k r = none) :
    s.fillDone i r = (s.slot i).waiters.foldl State.failWaiter ((s.report false).setSlot i Slot.blank) := by
  simp only [State.fillDone, hrec, Option.bind_some, hgot, hstate, hkey, Option.isSome_none]

/-- A slot that is CLEAN or EMPTY stays as it is when the job is over. -/
theorem State.jobOver_slot_of_not_dirty (hr : u.resting) (h : (u.slot i).state ≠ .dirty) : u.jobOver.slot i = u.slot i :=
  ((State.idle_tends_jobOver hr).slots i).eq_of_not_dirty h

theorem State.memoryConditionsStay_of_router (h : t.router = s.router) : s.memoryConditionsStay t := by
  constructor <;> rw [h]

/-! ## The memory's silence -/

theorem exec_memSilent {secondHalf : Bool} {j : Job} (h : s.inReset = false) (hj : s.port.job = some j)
    (hs : s.port.silent = false) : exec (.memSilent secondHalf) s =
      .next ((if s.silentInMarks secondHalf then
          { s with mem := s.silentMemory secondHalf, port := { s.port with silent := true } }.endCondition .memSilent
        else { s with mem := s.silentMemory secondHalf, port := { s.port with silent := true } }).beginCondition .memSilent) := by
  show execMemSilent secondHalf s = _
  refine (State.awake_of_awake h _).trans (congrArg _ ?_)
  rw [if_pos ⟨by rw [hj]; rfl, hs⟩]

theorem State.silentMemory_of_not_marks {secondHalf : Bool} {j : Job} (hj : s.port.job = some j)
    (h : ¬(secondHalf = true ∧ j = .commit)) : s.silentMemory secondHalf = s.mem := by
  have : s.silentInMarks secondHalf = false := by
    simpa [State.silentInMarks, hj] using h
  simp [State.silentMemory, this]

theorem State.silentMemory_of_marks {a : Nat} (hj : s.port.job = some .commit) (ha : s.jobAddress = some a) :
    s.silentMemory true = s.mem.writeBlock a s.port.data := by
  simp [State.silentMemory, State.silentInMarks, hj, ha]

/-! ## The obligation -/

/-- A fill without waiters. -/
theorem fill_good_alone {v : Rec} (hreset : s.inReset = false) (hwait : s.port.waiting = [])
    (hjob : s.port.job = some (.fill i) ∨ s.port.job = some (.pairRead i)) (hrec : s.port.record = some k)
    (hstate : (s.slot i).state = .filling) (hkey : (s.slot i).key = some k) (hs : s.port.silent = false)
    (hgot : s.readRecord k .good = some v) (hwaiters : (s.slot i).waiters = []) :
    ∃ t, exec (.fill .good) s = .next t
        ∧ t.slot i = { s.slot i with state := .clean, content := some v }
        ∧ (t.router.entry .memCheck).present = false ∧ (t.router.entry .memSilent).present = false
        ∧ t.link = s.link ∧ t.mem = s.mem := by
  have hdone := State.fillDone_of_good hrec hstate hkey hgot
  rw [hwaiters, List.foldl_nil] at hdone
  set u := s.fillDone i .good
  have hrest : u.resting := State.resting_of_nil (by rw [hdone]; simpa using hwait)
  have htends := State.idle_tends_jobOver hrest
  have hrouter : u.jobOver.router = (s.report true).router := htends.router.trans (by rw [hdone]; rfl)
  refine ⟨_, exec_fill hreset hjob, ?_, ?_, ?_, ?_, ?_⟩
  · have hslot : u.slot i = { s.slot i with state := .clean, content := some v } := by
      rw [hdone, State.slot_setSlot_same, ← hwaiters]
    rw [State.jobOver_slot_of_not_dirty hrest (by rw [hslot]; nofun), hslot]
  · rw [hrouter, State.report_memCheck hs]; rfl
  · rw [hrouter, State.report_memSilent hs]
  · exact htends.link.trans (by rw [hdone]; simp [State.idle])
  · exact htends.mem.trans (by rw [hdone]; simp [State.idle])

/-- The job's end, when slot i is left neither DIRTY nor WRITING and the request in hand has been answered. -/
theorem State.jobOver_answered {ok : Bool} {x : Slot} {res : Result} {b : ReplyBody} {tag : Tag} {kind : Byte} {w : Work}
    (hwait : s.port.waiting = []) (hx : x.state ≠ .dirty) (hhand : s.link.inHand = some ⟨tag, kind, w⟩)
    (htx : s.link.tx.length < 8) :
    let t := (((s.report ok).setSlot i x).finish res b).jobOver
    t.slot i = x ∧ t.link = (s.answered tag kind res b).link ∧ t.router = (s.report ok).router ∧ t.mem = s.mem := by
  set u := ((s.report ok).setSlot i x).finish res b with hu
  have hrest : u.resting := State.resting_of_nil (by simpa [hu] using hwait)
  have htends := State.idle_tends_jobOver hrest
  have hslot : u.slot i = x := by
    have hcache : u.cache = ((s.report ok).setSlot i x).cache := by simp [hu]
    rw [State.slot, hcache]; exact State.slot_setSlot_same _ _ _
  refine ⟨?_, ?_, ?_, ?_⟩
  · rw [State.jobOver_slot_of_not_dirty hrest (by rwa [hslot]), hslot]
  · have hlink : u.link = (((s.report ok).setSlot i x).answered tag kind res b).link :=
      State.finish_link (by simpa using hhand) (by simpa using htx) _ _
    refine htends.link.trans (hlink.trans ?_)
    simp [State.answered]
  · exact htends.router.trans (by simp [State.idle, hu])
  · exact htends.mem.trans (by simp [State.idle, hu])

/-- A fill that GUEST_GET waits for. -/
theorem fill_good_answers {n : Fin 2048} {tag : Tag} {g : Guest} (hreset : s.inReset = false) (hwait : s.port.waiting = [])
    (hjob : s.port.job = some (.fill i) ∨ s.port.job = some (.pairRead i)) (hrec : s.port.record = some (.guest n))
    (hstate : (s.slot i).state = .filling) (hkey : (s.slot i).key = some (.guest n))
    (hgot : s.readRecord (.guest n) .good = some (.guest g)) (hwaiters : (s.slot i).waiters = [.host])
    (htx : s.link.tx.length < 8) (hhand : s.link.inHand = some { tag := tag, kind := 0x20, work := .record (.guestGet n) }) :
    ∃ t, exec (.fill .good) s = .next t
        ∧ t.slot i = { s.slot i with state := .clean, content := some (.guest g), waiters := [] }
        ∧ t.link = (s.answered tag 0x20 .done
            (.guest g (s.landing.census.running && decide (s.landing.census.cursor ≤ n.val)))).link := by
  set x : Slot := { s.slot i with state := .clean, content := some (.guest g), waiters := [] } with hx
  have hserve : ((s.report true).setSlot i x).serveWaiter i (.guest n) .host =
      ((s.report true).setSlot i x).finish .done
        (.guest g (s.landing.census.running && decide (s.landing.census.cursor ≤ n.val))) := by
    have hwork : ((s.report true).setSlot i x).work = some (.record (.guestGet n)) := by
      simp [State.work, hhand]
    have hcontent : (((s.report true).setSlot i x).slot i).content = some (.guest g) := by
      rw [State.slot_setSlot_same]
    simp only [State.serveWaiter, hwork, RecordReq.key, if_true, State.applyRecord, hcontent, State.setSlot_landing,
      State.report_landing]
  have hdone := State.fillDone_of_good hrec hstate hkey hgot
  rw [hwaiters, List.foldl_cons, List.foldl_nil, hserve] at hdone
  obtain ⟨hslot, hlink, -, -⟩ := State.jobOver_answered (ok := true) (res := .done)
    (b := .guest g (s.landing.census.running && decide (s.landing.census.cursor ≤ n.val))) hwait (x := x) (by nofun) hhand htx
  exact ⟨_, exec_fill hreset hjob, by rw [hdone]; exact hslot, by rw [hdone]; exact hlink⟩

/-- A fill that fails. -/
theorem fill_fails_answers {tag : Tag} {kind : Byte} {w : Work} (hreset : s.inReset = false) (hwait : s.port.waiting = [])
    (hjob : s.port.job = some (.fill i) ∨ s.port.job = some (.pairRead i)) (hrec : s.port.record = some k)
    (hstate : (s.slot i).state = .filling) (hkey : (s.slot i).key = some k)
    (hfails : s.readFails k r ∨ s.port.silent = true) (hwaiters : (s.slot i).waiters = [.host])
    (htx : s.link.tx.length < 8) (hhand : s.link.inHand = some { tag := tag, kind := kind, work := w }) :
    ∃ t, exec (.fill r) s = .next t ∧ t.slot i = Slot.blank
        ∧ (s.port.silent = false → (t.router.entry .memCheck).present = true)
        ∧ (s.port.silent = true → s.memoryConditionsStay t)
        ∧ t.link = (s.answered tag kind .memoryFault .empty).link ∧ t.mem = s.mem := by
  have hdone := State.fillDone_of_fails hrec hstate hkey (State.readRecord_of_fails hfails)
  rw [hwaiters, List.foldl_cons, List.foldl_nil] at hdone
  obtain ⟨hslot, hlink, hrouter, hmem⟩ := State.jobOver_answered (ok := false) (res := .memoryFault) (b := .empty) (i := i)
    (x := Slot.blank) hwait (by nofun) hhand htx
  refine ⟨_, exec_fill hreset hjob, ?_⟩
  rw [hdone]
  refine ⟨hslot, fun hs => ?_, fun hs => State.memoryConditionsStay_of_router ?_, hlink, hmem⟩
  · exact (congrArg (fun r : Router => (r.entry .memCheck).present) hrouter).trans (State.report_memCheck hs false)
  · exact hrouter.trans (by rw [State.report_of_silent hs])

/-- Settles O55. -/
theorem fillsEndAsTheirReadDoes : Obligations.FillsEndAsTheirReadDoes := by
  refine ⟨fun s i k hreset hwait hjob hrec hstate hkey _ => ⟨fun v hs hblock hwaiters => ?_, ?_⟩, ?_⟩
  · exact fill_good_alone hreset hwait hjob hrec hstate hkey hs ((State.readRecord_good hs).trans hblock) hwaiters
  · rintro tag n g rfl hwaiters htx hhand
    refine ⟨fun hs hblock => ?_, fun r hfails => ?_⟩
    · exact fill_good_answers hreset hwait hjob hrec hstate hkey ((State.readRecord_good hs).trans hblock) hwaiters htx hhand
    · exact fill_fails_answers hreset hwait hjob hrec hstate hkey hfails hwaiters htx hhand
  · intro s j secondHalf hreset hjob hs
    refine ⟨_, exec_memSilent hreset hjob hs, ?_⟩
    set v : State := { s with mem := s.silentMemory secondHalf, port := { s.port with silent := true } } with hv
    set w := if s.silentInMarks secondHalf then v.endCondition .memSilent else v with hw
    have hsame : w.port = v.port ∧ w.cache = v.cache ∧ w.link = v.link ∧ w.journal = v.journal ∧ w.landing = v.landing
        ∧ w.mem = v.mem := by
      rw [hw]; split <;> exact ⟨rfl, rfl, rfl, rfl, rfl, rfl⟩
    obtain ⟨hport, hcache, hlink, hjournal, hlanding, hmem⟩ := hsame
    refine ⟨by simp [hport, hv], ?_, by simp [hcache, hv], by simp [hlink, hv], by simp [hjournal, hv], by simp [hlanding, hv],
      fun hno => ?_, fun hwf hhalf hcommit a ha => ?_⟩
    · rw [State.beginCondition_entry, if_pos rfl, FaultEntry.judged_present]
    · rw [State.beginCondition_mem, hmem]; exact State.silentMemory_of_not_marks hjob hno
    · subst hhalf hcommit
      have hm : (w.beginCondition .memSilent).mem = s.mem.writeBlock a s.port.data := by
        rw [State.beginCondition_mem, hmem]; exact State.silentMemory_of_marks hjob ha
      rw [hm]
      exact ⟨Memory.readBlock_writeBlock _ _ _ hwf, fun b hb => Memory.read_writeBlock_of_outside _ _ _ _ hwf hb⟩

end Sys2Proof.Machine
end

section
/-! PROOF. The end of a write-back, and FLUSH (O56). -/
namespace Sys2Proof.Machine
set_option Elab.async false
variable {s t u : State} {i : Fin 128} {k : RecKey} {w : WriteResult}

/-! ## How many notices a report queues -/

theorem NoticeQueue.length_push_le (q : NoticeQueue) (now : Nat) (b : NoticeBody) :
    (q.push now b).items.length ≤ q.items.length + 1 := by
  unfold NoticeQueue.push
  dsimp only
  split
  · simp
  · exact Nat.le_succ _

theorem NoticeQueue.length_ofBegun_le (q : NoticeQueue) (now : Nat) (b : Begun) (plan : FaultPlan) (standalone : Bool) :
    (q.ofBegun now b plan standalone).items.length ≤ q.items.length + 2 := by
  unfold NoticeQueue.ofBegun
  extract_lets r
  have hr : r.items.length ≤ q.items.length + 1 := by
    unfold r; split
    · exact q.length_push_le _ _
    · exact Nat.le_succ _
  split
  · exact (r.length_push_le _ _).trans (Nat.succ_le_succ hr)
  · exact hr.trans (Nat.le_succ _)

/-- FAULT_RAISED and STANDALONE_ENTERED at most (R176, R184). -/
theorem State.beginCondition_notices_length {src : FaultSource} (hline : src.asksNoLine) :
    (s.beginCondition src).notices.items.length ≤ s.notices.items.length + 2 := by
  by_cases hp : (s.router.entry src).present = true
  · rw [State.beginCondition_of_present hp]; exact Nat.le_add_right _ _
  by_cases hread : s.startUp.phase = .readingConfig
  · rw [State.beginCondition_of_readingConfig hread rfl (Bool.eq_false_iff.mpr hp)]; exact Nat.le_add_right _ _
  · rw [(State.began_beginCondition hread (Bool.eq_false_iff.mpr hp) hline).acted.notices]
    exact NoticeQueue.length_ofBegun_le _ _ _ _ _

theorem State.report_notices_length (s : State) (ok : Bool) : (s.report ok).notices.items.length ≤ s.notices.items.length + 2 := by
  cases h : s.port.silent with
  | true => rw [State.report_of_silent h]; exact Nat.le_add_right _ _
  | false =>
    rw [State.report_eq h]
    cases ok with
    | true => exact Nat.le_add_right _ _
    | false => exact State.beginCondition_notices_length (by simp [FaultSource.asksNoLine])

/-- A notice queued while fewer than 64 wait. -/
theorem State.noticed_notify {b : NoticeBody} (h : s.notices.items.length < 64) : (s.notify b).noticed b := by
  refine ⟨{ number := s.notices.next, time := s.clock.seconds, body := b }, ?_, rfl⟩
  rw [State.notify_notices, NoticeQueue.push, if_pos h]
  exact List.mem_append_right _ List.mem_cons_self

/-! ## FLUSH's members -/

theorem FlushRun.find_member {run : FlushRun} {b : Bool} (hnodup : (run.members.map (·.1)).Nodup) (hm : (i, b) ∈ run.members) :
    run.members.find? (fun m => decide (m.1 = i)) = some (i, b) := by
  have hpair := List.pairwise_map.mp hnodup
  generalize run.members = ms at hm hpair
  induction ms with
  | nil => cases hm
  | cons m ms ih =>
    obtain ⟨hhead, htail⟩ := List.pairwise_cons.mp hpair
    rcases List.mem_cons.mp hm with rfl | hm
    · simp
    · have hne : m.1 ≠ i := hhead _ hm
      rw [List.find?_cons_of_neg (by simpa using hne)]
      exact ih hm htail

/-- The members left once slot i's is finished. -/
def FlushRun.without (run : FlushRun) (i : Fin 128) : List (Fin 128 × Bool) := run.members.filter fun m => decide (m.1 ≠ i)

theorem FlushRun.completed_last {run : FlushRun} (hnodup : (run.members.map (·.1)).Nodup) (hm : (i, false) ∈ run.members) (ok : Bool) :
    run.completed i ok = ⟨run.without i, run.ok + ok.toNat, run.failed + (!ok).toNat⟩ := by
  simp only [FlushRun.completed, FlushRun.find_member hnodup hm, FlushRun.without]

theorem FlushRun.completed_first {run : FlushRun} (hnodup : (run.members.map (·.1)).Nodup) (hm : (i, true) ∈ run.members) (ok : Bool) :
    run.completed i ok = { run with members := run.members.map fun m => if m.1 = i then (i, false) else m } := by
  simp only [FlushRun.completed, FlushRun.find_member hnodup hm]

theorem FlushRun.completed_other {run : FlushRun} (hm : ∀ m ∈ run.members, m.1 ≠ i) (ok : Bool) : run.completed i ok = run := by
  have hnone : run.members.find? (fun m => decide (m.1 = i)) = none := by simpa using hm
  simp only [FlushRun.completed, hnone]

theorem State.flushCompleted_of_none (h : s.cache.flush = none) (ok : Bool) : (s.flushCompleted i ok).cache.flush = none := by
  simp [State.flushCompleted, State.flushReview, h]

theorem State.flushCompleted_of_members {run : FlushRun} (h : s.cache.flush = some run) (ok : Bool)
    (hm : (run.completed i ok).members ≠ []) : (s.flushCompleted i ok).cache.flush = some (run.completed i ok) := by
  simp [State.flushCompleted, State.flushReview, h, hm]

/-- FLUSH_DONE when the last member is finished. -/
theorem State.flushCompleted_of_done {run : FlushRun} (h : s.cache.flush = some run) (ok : Bool)
    (hm : (run.completed i ok).members = []) :
    s.flushCompleted i ok = { s with cache := { s.cache with flush := none } }.notify
      (.flushDone (run.completed i ok).ok (run.completed i ok).failed) := by
  simp [State.flushCompleted, State.flushReview, h, hm]

/-! ## The end of a write-back -/

theorem exec_writeBack (h : s.inReset = false) (hj : s.port.job = some (.writeBack i)) :
    exec (.writeBack w) s = .next (s.writeBackDone i w).jobOver := by
  show execWriteBack w s = _
  refine (State.awake_of_awake h _).trans (congrArg _ ?_)
  rw [hj]

/-- The state in which a write-back's slot is judged. -/
def State.writtenBack (s : State) (i : Fin 128) (m : Memory) (ok : Bool) : State :=
  ({ s with mem := m }.report ok).setSlot i ((s.slot i).written ok s.clock.seconds)

theorem State.writeBackDone_eq (hstate : (s.slot i).state = .writing) :
    s.writeBackDone i w = (s.writtenBack i (s.writeBlocked w).1 (s.writeBlocked w).2).flushCompleted i (s.writeBlocked w).2 := by
  unfold State.writeBackDone State.writtenBack
  rcases s.writeBlocked w with ⟨m, ok⟩
  have hslot : (({ s with mem := m }.report ok).slot i).state = .writing := by
    rw [State.report_slot]; exact hstate
  have hnow : ({ s with mem := m }.report ok).now = s.clock.seconds := by simp [State.now]
  simp only [hslot, if_true, hnow]
  rw [State.report_slot]
  rfl

/-- The job's end, once slot i's write has been judged. -/
theorem State.writtenBack_jobOver {m : Memory} {ok : Bool} (hwait : s.port.waiting = []) (hpower : s.power.state = .normal)
    (hqueue : .writeBack i ∉ s.port.queue) :
    let u := (s.writtenBack i m ok).flushCompleted i ok
    let t := u.jobOver
    t.mem = m ∧ t.router = ({ s with mem := m }.report ok).router ∧ t.cache.flush = u.cache.flush
    ∧ (∀ b, u.noticed b → t.noticed b)
    ∧ (u.cache.flush = none → t.slot i = (s.slot i).written ok s.clock.seconds) := by
  intro u t
  have hport : u.port = s.port := by simp [u, State.writtenBack]
  have hrest : u.resting := State.resting_of_nil (by rw [hport]; exact hwait)
  have htends : u.idle.Tends t := State.idle_tends_jobOver hrest
  refine ⟨?_, ?_, htends.flush, fun b hb => htends.noticed hb, fun hflush => ?_⟩
  · exact htends.mem.trans (by simp [State.idle, u, State.writtenBack])
  · exact htends.router.trans (by simp [State.idle, u, State.writtenBack])
  · have hspared := (htends.spared i ⟨by show _ ∉ u.port.queue; rw [hport]; exact hqueue, hflush, ?_⟩).1
    · refine hspared.trans ((State.flushCompleted_slot _ i i ok).trans ?_)
      exact State.slot_setSlot_same _ _ _
    · show u.power.state ≠ _
      rw [show u.power = s.power by simp [u, State.writtenBack], hpower]; nofun

theorem State.writtenBack_flush (s : State) (i : Fin 128) (m : Memory) (ok : Bool) :
    (s.writtenBack i m ok).cache.flush = s.cache.flush := by
  show ({ s with mem := m }.report ok).cache.flush = _
  simp

theorem State.writtenBack_notices (s : State) (i : Fin 128) (m : Memory) (ok : Bool) :
    (s.writtenBack i m ok).notices.items.length ≤ s.notices.items.length + 2 :=
  State.report_notices_length { s with mem := m } ok

/-- How FLUSH goes on after a write of slot i has completed (R43). -/
theorem State.flushCompleted_run {run : FlushRun} {ok : Bool} (hflush : u.cache.flush = some run)
    (hnodup : (run.members.map (·.1)).Nodup) :
    let t := u.flushCompleted i ok
    ((i, false) ∈ run.members → run.without i = [] → t.cache.flush = none ∧
        (u.notices.items.length < 64 → t.noticed (.flushDone (run.ok + ok.toNat) (run.failed + (!ok).toNat))))
    ∧ ((i, false) ∈ run.members → run.without i ≠ [] →
        t.cache.flush = some ⟨run.without i, run.ok + ok.toNat, run.failed + (!ok).toNat⟩)
    ∧ ((i, true) ∈ run.members → t.cache.flush = some
        { run with members := run.members.map fun m => if m.1 = i then (i, false) else m })
    ∧ (run.members ≠ [] → (∀ m ∈ run.members, m.1 ≠ i) → t.cache.flush = some run) := by
  intro t
  refine ⟨fun hm hlast => ?_, fun hm hmore => ?_, fun hm => ?_, fun hne hm => ?_⟩
  · have hcompleted := FlushRun.completed_last hnodup hm ok
    have hdone := State.flushCompleted_of_done hflush ok (i := i) (by rw [hcompleted]; exact hlast)
    rw [hcompleted] at hdone
    rw [show t = _ from hdone]
    exact ⟨rfl, fun hn => State.noticed_notify hn⟩
  · have hcompleted := FlushRun.completed_last hnodup hm ok
    exact (State.flushCompleted_of_members hflush ok (by rw [hcompleted]; exact hmore)).trans (congrArg some hcompleted)
  · have hcompleted := FlushRun.completed_first hnodup hm ok
    refine (State.flushCompleted_of_members hflush ok ?_).trans (congrArg some hcompleted)
    rw [hcompleted]
    simpa using List.ne_nil_of_mem hm
  · have hcompleted := FlushRun.completed_other hm ok
    refine (State.flushCompleted_of_members hflush ok ?_).trans (congrArg some hcompleted)
    rw [hcompleted]
    exact hne

/-- What the end of a write-back leaves, by what its write came to. -/
structure State.WroteBack (s t : State) (i : Fin 128) (m : Memory) (ok : Bool) : Prop where
  mem : t.mem = m
  memCheck : s.port.silent = false → (t.router.entry .memCheck).present = !ok
  memSilent : s.port.silent = false → (t.router.entry .memSilent).present = false
  alone : s.cache.flush = none → t.cache.flush = none ∧ t.slot i = (s.slot i).written ok s.clock.seconds
  flushing : ∀ run : FlushRun, s.cache.flush = some run → (run.members.map (·.1)).Nodup →
    ((i, false) ∈ run.members → run.without i = [] → t.cache.flush = none ∧
        (s.notices.items.length < 56 → t.noticed (.flushDone (run.ok + ok.toNat) (run.failed + (!ok).toNat))))
    ∧ ((i, false) ∈ run.members → run.without i ≠ [] →
        t.cache.flush = some ⟨run.without i, run.ok + ok.toNat, run.failed + (!ok).toNat⟩)
    ∧ ((i, true) ∈ run.members → t.cache.flush = some
        { run with members := run.members.map fun m => if m.1 = i then (i, false) else m })
    ∧ (run.members ≠ [] → (∀ m ∈ run.members, m.1 ≠ i) → t.cache.flush = some run)

theorem State.wroteBack {m : Memory} {ok : Bool} (hwait : s.port.waiting = []) (hpower : s.power.state = .normal)
    (hqueue : .writeBack i ∉ s.port.queue) :
    s.WroteBack ((s.writtenBack i m ok).flushCompleted i ok).jobOver i m ok := by
  obtain ⟨hmem, hrouter, hflush, hnoticed, hslot⟩ := State.writtenBack_jobOver (m := m) (ok := ok) hwait hpower hqueue
  have hbefore := s.writtenBack_flush i m ok
  refine ⟨hmem, fun hs => ?_, fun hs => ?_, fun hnone => ?_, fun run hrun hnodup => ?_⟩
  · rw [hrouter]; exact State.report_memCheck (s := { s with mem := m }) hs ok
  · rw [hrouter]; exact State.report_memSilent (s := { s with mem := m }) hs ok
  · have hnone := State.flushCompleted_of_none (i := i) (hbefore.trans hnone) ok
    exact ⟨hflush.trans hnone, hslot hnone⟩
  · obtain ⟨hlast, hmore, hfirst, hother⟩ := State.flushCompleted_run (i := i) (ok := ok) (hbefore.trans hrun) hnodup
    have hcount := s.writtenBack_notices i m ok
    refine ⟨fun hm hnil => ⟨hflush.trans (hlast hm hnil).1, fun hn => hnoticed _ ((hlast hm hnil).2 (by omega))⟩,
      fun hm hne => hflush.trans (hmore hm hne), fun hm => hflush.trans (hfirst hm), fun hne hm => hflush.trans (hother hne hm)⟩

/-- What the port writes and how it ends. -/
theorem State.writeBlocked_cases {a : Nat} (ha : s.jobAddress = some a) (w : WriteResult) :
    (w = .good ∧ s.port.silent = false) ∧ s.writeBlocked w = (s.mem.writeBlock a s.port.data, true)
    ∨ ¬(w = .good ∧ s.port.silent = false) ∧ s.writeBlocked w = (s.mem, false) := by
  by_cases h : w = .good ∧ s.port.silent = false
  · exact .inl ⟨h, by rw [h.1]; exact State.writeBlocked_of_good h.2 ha⟩
  · exact .inr ⟨h, State.writeBlocked_of_fails (WriteResult.fails_of_not_passes h)⟩

/-! ## FLUSH -/

theorem State.servesRequest.request_eq {α : Type} {tag : Tag} {kind : Byte} {a : α} {owner : State → α → State}
    (h : s.servesRequest) : s.request tag kind (some a) owner = .next (owner (s.heard.holding tag kind .judging) a) := by
  have hp : (s.heard.holding tag kind .judging).power.state = .normal := h.2
  refine (State.awake_of_awake h.1.1 _).trans (congrArg _ ?_)
  rw [State.receive_taken h.1]
  simp only [State.inNormal, hp, if_true, State.withFields]

theorem State.exec_flush {tag : Tag} (h : s.servesRequest) : exec (.flush tag true) s =
    .next (if s.cache.flush.isSome then s.heard.answered tag 0x78 .state .empty
      else (s.heard.answered tag 0x78 .started .empty).beginFlush) := by
  show execFlush tag true s = _
  refine h.request_eq.trans (congrArg _ ?_)
  have htx : s.heard.link.tx.length < 8 := h.1.2.2.2
  rw [State.finish_holding _ _ _ _ _ _ htx, State.finish_holding _ _ _ _ _ _ htx]
  rfl

/-- The slots a FLUSH takes into its set. -/
def State.flushSet (s : State) : List (Fin 128 × Bool) :=
  (List.finRange 128).filterMap fun i => (s.slot i).flushMember.map fun b => (i, b)

theorem State.mem_flushSet (s : State) (i : Fin 128) :
    (∃ b, (i, b) ∈ s.flushSet) ↔ (s.slot i).state = .dirty ∨ (s.slot i).state = .writing := by
  have hmember : (∃ b, (i, b) ∈ s.flushSet) ↔ (s.slot i).flushMember.isSome = true := by
    simp [State.flushSet, Option.isSome_iff_exists]
  rw [hmember]
  unfold Slot.flushMember
  cases (s.slot i).state <;> simp

theorem State.sweepFlush_of_nil {run : FlushRun} (hflush : s.cache.flush = some run) (h : run.members = []) :
    s.sweepFlush = s := by
  have hwants (i : Fin 128) : s.flushWants i = false := by simp [State.flushWants, hflush, h]
  have hsweep (is : List (Fin 128)) : State.sweepFrom State.flushWants .flush is s = s := by
    induction is with
    | nil => rfl
    | cons i is ih => unfold State.sweepFrom; rw [hwants, ih]; rfl
  exact hsweep _

/-- FLUSH under way with a set, none of it finished. -/
def State.flushing (s : State) : State :=
  { s with cache := { s.cache with flush := some { members := s.flushSet, ok := 0, failed := 0 } } }

theorem State.beginFlush_eq (s : State) : s.beginFlush = s.flushing.sweepFlush.flushReview := rfl

theorem State.beginFlush_of_nil (hflush : s.cache.flush = none) (h : s.flushSet = []) : s.beginFlush = s.notify (.flushDone 0 0) := by
  rw [State.beginFlush_eq, State.sweepFlush_of_nil (run := ⟨s.flushSet, 0, 0⟩) rfl h]
  have hback : { s.cache with flush := none } = s.cache := by rw [← hflush]
  show s.flushing.flushReview = _
  simp only [State.flushReview, State.flushing, h, List.isEmpty_nil, if_true, hback]

theorem State.beginFlush_of_members (h : s.flushSet ≠ []) :
    s.flushing.Arranges s.beginFlush ∧ s.beginFlush.cache.flush = some { members := s.flushSet, ok := 0, failed := 0 } := by
  have harranges : s.flushing.Arranges s.flushing.sweepFlush := (State.Arranges.refl _).sweepFlush
  have hflush : s.flushing.sweepFlush.cache.flush = some { members := s.flushSet, ok := 0, failed := 0 } := harranges.flush
  have hsame : s.flushing.sweepFlush.flushReview = s.flushing.sweepFlush := by
    simp [State.flushReview, hflush, h]
  rw [State.beginFlush_eq, hsame]
  exact ⟨harranges, hflush⟩

/-- Settles O56. -/
theorem writeBacksEndAsTheirWriteDoes : Obligations.WriteBacksEndAsTheirWriteDoes := by
  refine ⟨fun s i k w hreset hwf hpower hwait hjob hrec hstate hqueue => ?_, fun s tag h => ⟨fun hflush => ?_, fun hflush => ⟨fun hno => ?_, fun hyes => ?_⟩⟩⟩
  · intro a n passes
    have ha : s.jobAddress = some a := by simp [State.jobAddress, hjob, hrec, a]
    refine ⟨_, exec_writeBack hreset hjob, ?_⟩
    rw [State.writeBackDone_eq hstate]
    rcases State.writeBlocked_cases ha w with ⟨hp, e⟩ | ⟨hp, e⟩
    · rw [e]
      obtain ⟨hmem, hcheck, hsilent, halone, hflushing⟩ := State.wroteBack (m := s.mem.writeBlock a s.port.data) (ok := true) hwait hpower hqueue
      refine ⟨fun _ => ⟨?_, ?_, hcheck hp.2, hsilent hp.2⟩, fun hno => absurd hp hno, fun hnone => ?_, fun run hrun hnodup => ?_⟩
      · rw [hmem]; exact Memory.readBlock_writeBlock _ _ _ hwf
      · rw [hmem]; exact fun b hb => Memory.read_writeBlock_of_outside _ _ _ _ hwf hb
      · rw [if_pos hp]; exact halone hnone
      · dsimp only; rw [if_pos hp, if_pos hp]; exact hflushing run hrun hnodup
    · rw [e]
      obtain ⟨hmem, hcheck, -, halone, hflushing⟩ := State.wroteBack (m := s.mem) (ok := false) hwait hpower hqueue
      refine ⟨fun hyes => absurd hyes hp, fun _ => ⟨hmem, hcheck⟩, fun hnone => ?_, fun run hrun hnodup => ?_⟩
      · rw [if_neg hp]; exact halone hnone
      · dsimp only; rw [if_neg hp, if_neg hp]; exact hflushing run hrun hnodup
  · rw [State.exec_flush h, if_pos (Option.isSome_iff_ne_none.mpr hflush)]
  · have hset : s.flushSet = [] := by
      rw [List.eq_nil_iff_forall_not_mem]
      rintro ⟨i, b⟩ hm
      exact ((s.mem_flushSet i).mp ⟨b, hm⟩).elim (hno i).1 (hno i).2
    rw [State.exec_flush h, if_neg (by rw [hflush]; nofun)]
    exact congrArg _ (State.beginFlush_of_nil hflush hset)
  · obtain ⟨i, hi⟩ := hyes
    have hset : (s.heard.answered tag 0x78 .started .empty).flushSet ≠ [] := by
      obtain ⟨b, hb⟩ := (s.mem_flushSet i).mpr hi
      exact List.ne_nil_of_mem hb
    obtain ⟨harranges, hrun⟩ := State.beginFlush_of_members hset
    refine ⟨_, _, by rw [State.exec_flush h, if_neg (by rw [hflush]; nofun)], ?_, hrun, rfl, rfl, fun j => ?_, fun j => ?_, ?_, ?_⟩
    · rw [harranges.frame]; rfl
    · exact (s.mem_flushSet j).symm
    · exact (harranges.slots j).kept.2.1
    · rw [harranges.frame]; rfl
    · rw [harranges.frame]; rfl

end Sys2Proof.Machine
end

section
/-! PROOF. The end of a pair's write half (O57). -/
namespace Sys2Proof.Machine
set_option Elab.async false
variable {s t u : State} {i j : Fin 128} {k v : RecKey} {w : WriteResult}

/-- A pair whose write half ends: slot i holds the victim v and waits for record k, and no flush runs (R33, R35). -/
structure State.EndsPair (s : State) (i : Fin 128) (v k : RecKey) : Prop where
  awake : s.inReset = false
  wf : s.mem.wf = true
  normal : s.power.state = .normal
  waiting : s.port.waiting = []
  flush : s.cache.flush = none
  job : s.port.job = some (.pair i)
  record : s.port.record = some v
  writing : (s.slot i).state = .writing
  key : (s.slot i).key = some v
  incoming : (s.slot i).incoming = some k
  queue : .writeBack i ∉ s.port.queue
  other : v ≠ k

theorem State.EndsPair.exec (h : s.EndsPair i v k) : exec (.dirtyMissPair w) s = .next (s.pairDone i k w) := by
  show execDirtyMissPair w s = _
  refine (State.awake_of_awake h.awake _).trans (congrArg _ ?_)
  rw [h.job]
  dsimp only
  rw [h.incoming]

theorem State.EndsPair.jobAddress (h : s.EndsPair i v k) : s.jobAddress = some (recordAddress v) := by
  simp [State.jobAddress, h.job, h.record]

theorem State.EndsPair.writeBlocked_good (h : s.EndsPair i v k) (hs : s.port.silent = false) :
    s.writeBlocked .good = (s.mem.writeBlock (recordAddress v) s.port.data, true) :=
  State.writeBlocked_of_good hs h.jobAddress

theorem State.flushCompleted_eq_of_none (h : s.cache.flush = none) (ok : Bool) : s.flushCompleted i ok = s := by
  have hcache : { s.cache with flush := none } = s.cache := by rw [← h]
  simp [State.flushCompleted, State.flushReview, h, hcache]

/-- The victim stays where something of it is new, or still needed (R35). -/
theorem Slot.mayGo_iff {x : Slot} (hkey : x.key = some v) :
    x.mayGo = true ↔ ¬(x.dirtyAgain ≠ none ∨ 0 < x.commitPending ∨ ∃ h ∈ x.holds, h.key = v) := by
  have hholds : (x.holds.any fun h => decide (x.key = some h.key)) = true ↔ ∃ h ∈ x.holds, h.key = v := by
    simp only [List.any_eq_true, decide_eq_true_iff, hkey, Option.some.injEq, eq_comm (a := v)]
  unfold Slot.mayGo
  rw [Bool.and_eq_true, Bool.and_eq_true, Bool.not_eq_true', ← Bool.not_eq_true, hholds, decide_eq_true_iff,
    Option.isNone_iff_eq_none, not_or, not_or, not_not, Nat.not_lt, Nat.le_zero, and_assoc]

/-- The slot that a pair leaves to its victim. -/
def State.victimKept (s : State) (i : Fin 128) (m : Memory) (ok : Bool) : State :=
  ({ s with mem := m }.report ok).setSlot i ((s.slot i).keepVictim ok s.clock.seconds)

theorem State.victimKept_flush {m : Memory} {ok : Bool} : (s.victimKept i m ok).cache.flush = s.cache.flush := by
  show ({ s with mem := m }.report ok).cache.flush = _
  simp

theorem State.EndsPair.pairDone_of_mayGo (h : s.EndsPair i v k) (hs : s.port.silent = false) (hgo : (s.slot i).mayGo = true) :
    s.pairDone i k .good = { s with mem := s.mem.writeBlock (recordAddress v) s.port.data }.pairSecond i k := by
  unfold State.pairDone
  rw [h.writeBlocked_good hs]
  exact if_pos ⟨rfl, hgo⟩

theorem State.EndsPair.pairDone_of_not_mayGo (h : s.EndsPair i v k) (hs : s.port.silent = false) (hgo : (s.slot i).mayGo ≠ true) :
    s.pairDone i k .good = ((s.victimKept i (s.mem.writeBlock (recordAddress v) s.port.data) true).restartMiss k
      (s.slot i).waiters ((s.slot i).holdsFor k)).jobOver := by
  unfold State.pairDone
  rw [h.writeBlocked_good hs]
  exact (if_neg fun hc => hgo hc.2).trans (congrArg (fun u : State => (u.restartMiss k _ _).jobOver)
    (State.flushCompleted_eq_of_none (s.victimKept_flush.trans h.flush) true))

theorem State.EndsPair.pairDone_of_fails (h : s.EndsPair i v k) (hw : w = .differs ∨ s.port.silent = true) :
    s.pairDone i k w = ((s.slot i).waiters.foldl State.failWaiter (s.victimKept i s.mem false)).jobOver := by
  unfold State.pairDone
  rw [State.writeBlocked_of_fails hw]
  exact (if_neg fun hc => by cases hc.1).trans
    (congrArg (fun u : State => ((s.slot i).waiters.foldl State.failWaiter u).jobOver)
      (State.flushCompleted_eq_of_none (s.victimKept_flush.trans h.flush) false))

/-! ## What the slot kept for its victim leaves -/

section
variable {m : Memory} {ok : Bool}

theorem State.victimKept_slot (s : State) (i j : Fin 128) (m : Memory) (ok : Bool) : (s.victimKept i m ok).slot j =
    if j = i then (s.slot i).keepVictim ok s.clock.seconds else s.slot j := by
  refine (State.slot_setSlot _ i j _).trans ?_
  rw [State.report_slot]
  rfl

@[simp] theorem State.victimKept_port : (s.victimKept i m ok).port = s.port := by simp [State.victimKept]
@[simp] theorem State.victimKept_link : (s.victimKept i m ok).link = s.link := by simp [State.victimKept]
@[simp] theorem State.victimKept_entries : (s.victimKept i m ok).entries = s.entries := by simp [State.victimKept]
@[simp] theorem State.victimKept_power : (s.victimKept i m ok).power = s.power := by simp [State.victimKept]
@[simp] theorem State.victimKept_landing : (s.victimKept i m ok).landing = s.landing := by simp [State.victimKept]
@[simp] theorem State.victimKept_mem : (s.victimKept i m ok).mem = m := by simp [State.victimKept]

end

/-- The victim's slot after a good write. -/
theorem Slot.keepVictim_good {x : Slot} {now : Nat} (hkey : x.key = some v) :
    x.keepVictim true now = match x.dirtyAgain with
      | none => { x with
          state := .clean, dirtyAgain := none, incoming := none, waiters := [], emergencyFailed := false
          holds := x.holds.filter fun h => decide (h.key = v) }
      | some d => { x with
          state := .dirty, dirtySince := d, dirtyAgain := none, incoming := none, waiters := [], emergencyFailed := false
          holds := x.holds.filter fun h => decide (h.key = v) } := by
  have hholds : (fun h : Hold => decide (x.key = some h.key)) = fun h => decide (h.key = v) := by
    funext h; simp [hkey, eq_comm]
  unfold Slot.keepVictim Slot.written
  rw [if_pos rfl]
  cases hd : x.dirtyAgain with
  | none => simp only [hholds, ← hd]
  | some d => simp only [hholds]

theorem Slot.keepVictim_failed {x : Slot} {now : Nat} (hkey : x.key = some v) :
    x.keepVictim false now = { x with
      state := .dirty, dirtySince := now, dirtyAgain := none, incoming := none, waiters := []
      emergencyFailed := x.dirtyAgain.isNone, holds := x.holds.filter fun h => decide (h.key = v) } := by
  have hholds : (fun h : Hold => decide (x.key = some h.key)) = fun h => decide (h.key = v) := by
    funext h; simp [hkey, eq_comm]
  unfold Slot.keepVictim Slot.written
  simp only [hholds, Bool.false_eq_true, if_false]

/-- A slot whose write-back nothing queues stays as it is when the job is over. -/
theorem State.jobOver_slot_of_spares (hr : u.resting) (h : u.spares i) : u.jobOver.slot i = u.slot i :=
  ((State.idle_tends_jobOver hr).spared i h).1

theorem State.claimable_of_lowest (hj : (s.slot j).state = .empty) (hlow : ∀ l : Fin 128, l < j → (s.slot l).state ≠ .empty) :
    s.claimable = some j := by
  have hfind : (List.finRange 128).find? (fun i => decide ((s.slot i).state = .empty)) = some j := by
    rw [List.find?_eq_some_iff_getElem]
    refine ⟨decide_eq_true hj, j.val, by simp, by simp, fun l hl => ?_⟩
    have := hlow ⟨l, by omega⟩ hl
    simpa using this
  simp [State.claimable, hfind]

/-! ## The victim goes -/

theorem State.EndsPair.gives (h : s.EndsPair i v k) (hs : s.port.silent = false) (hgo : (s.slot i).mayGo = true) :
    ∃ t, Machine.exec (.dirtyMissPair .good) s = .next t
      ∧ t.slot i = { Slot.blank with state := .filling, key := some k, waiters := (s.slot i).waiters, holds := (s.slot i).holds }
      ∧ t.port.job = some (.pairRead i) ∧ t.port.record = some k ∧ t.port.queue = s.port.queue
      ∧ t.mem = s.mem.writeBlock (recordAddress v) s.port.data ∧ t.link = s.link := by
  refine ⟨_, h.exec, ?_⟩
  rw [h.pairDone_of_mayGo hs hgo]
  have hsecond (u : State) (hu : u.cache.flush = none) : u.pairSecond i k =
      { (u.setSlot i { Slot.blank with
            state := .filling, key := some k, waiters := (u.slot i).waiters, holds := (u.slot i).holds }).endCondition .memSilent with
        port := { u.port with job := some (.pairRead i), record := some k, data := [] } } := by
    refine State.flushCompleted_eq_of_none ?_ true
    exact hu
  rw [hsecond { s with mem := s.mem.writeBlock (recordAddress v) s.port.data } h.flush]
  exact ⟨State.slot_setSlot_same _ _ _, rfl, rfl, rfl, rfl, rfl⟩

/-! ## The victim stays, and the incoming record's miss starts again -/

/-- An EMPTY slot claimed by a miss that starts again, its holds with it. -/
def State.refilled (u : State) (j : Fin 128) (k : RecKey) (ws : List Waiter) (hs : List Hold) : State :=
  (((u.setSlot j { Slot.blank with state := .filling, key := some k, waiters := ws }).touch j).missStarted.setQueue
    (u.port.queue ++ [.fill j])).setSlot j { Slot.blank with state := .filling, key := some k, waiters := ws, holds := hs }

theorem State.restartMiss_of_lowest {ws : List Waiter} {hs : List Hold} (hpower : u.power.state = .normal)
    (hj : (u.slot j).state = .empty) (hlow : ∀ l : Fin 128, l < j → (u.slot l).state ≠ .empty) (hplace : u.port.queue.length < 16)
    (hjob : u.port.job = some (.pair i)) : u.restartMiss k ws hs = u.refilled j k ws hs := by
  have hclaimable := State.claimable_of_lowest hj hlow
  have hhas : u.hasPlace = true := by simp [State.hasPlace, hplace, hpower]
  have hclaim : u.claim k ws = some (u.claimFill j k ws) := by
    simp [State.claim, hclaimable, hj, hhas]
  have hpump (q : State) (hq : q.port.job = some (.pair i)) : q.pump = q := by
    unfold State.pump; rw [hq]
  have hfill : u.claimFill j k ws = (((u.setSlot j { Slot.blank with state := .filling, key := some k, waiters := ws }).touch
      j).missStarted).setQueue (u.port.queue ++ [.fill j]) := hpump _ hjob
  have hslot : (u.claimFill j k ws).slot j = { Slot.blank with state := .filling, key := some k, waiters := ws } := by
    rw [hfill]; exact State.slot_setSlot_same u j _
  unfold State.restartMiss
  rw [if_neg (by rw [hpower]; exact fun e => e rfl), hclaim, hclaimable]
  dsimp only
  rw [hslot, hfill]
  rfl

theorem State.refilled_slot (u : State) (j l : Fin 128) (k : RecKey) (ws : List Waiter) (hs : List Hold) :
    (u.refilled j k ws hs).slot l =
      if l = j then { Slot.blank with state := .filling, key := some k, waiters := ws, holds := hs } else u.slot l := by
  refine (State.slot_setSlot _ j l _).trans ?_
  split
  · rfl
  · next hl => exact (State.slot_setSlot u j l _).trans (if_neg hl)

theorem State.refilled_same (u : State) (j : Fin 128) (k : RecKey) (ws : List Waiter) (hs : List Hold) :
    let r := u.refilled j k ws hs
    r.mem = u.mem ∧ r.link = u.link ∧ r.power = u.power ∧ r.cache.flush = u.cache.flush ∧ r.cache.stalling = false
    ∧ r.port.queue = u.port.queue ++ [.fill j] ∧ r.port.waiting = u.port.waiting := by
  intro r
  have hflush (x : State) (y : Slot) : (x.setSlot j y).cache.flush = x.cache.flush := rfl
  have hstalling (x : State) (y : Slot) : (x.setSlot j y).cache.stalling = x.cache.stalling := rfl
  simp only [r, State.refilled, hflush, hstalling, State.setSlot_mem, State.setSlot_link, State.setSlot_power, State.setSlot_port,
    State.setQueue_mem, State.setQueue_link, State.setQueue_power, State.setQueue_cache, State.setQueue_queue,
    State.setQueue_waiting]
  exact ⟨rfl, rfl, rfl, rfl, rfl, trivial, rfl⟩

theorem State.refilled_cacheStall (u : State) (j : Fin 128) (k : RecKey) (ws : List Waiter) (hs : List Hold) :
    ((u.refilled j k ws hs).router.entry .cacheStall).present = false :=
  (congrArg FaultEntry.present (State.endCondition_entry u .cacheStall .cacheStall)).trans (by rw [if_pos rfl])

theorem State.EndsPair.restarts (h : s.EndsPair i v k) (hs : s.port.silent = false) (hgo : (s.slot i).mayGo ≠ true)
    (hj : (s.slot j).state = .empty) (hlow : ∀ l : Fin 128, l < j → (s.slot l).state ≠ .empty) (hplace : s.port.queue.length < 16) :
    ∃ t, Machine.exec (.dirtyMissPair .good) s = .next t ∧ t.mem = s.mem.writeBlock (recordAddress v) s.port.data
      ∧ t.slot i = (s.slot i).keepVictim true s.clock.seconds
      ∧ t.slot j = { Slot.blank with
          state := .filling, key := some k, waiters := (s.slot i).waiters, holds := (s.slot i).holdsFor k }
      ∧ (.fill j ∈ t.port.queue ∨ t.port.job = some (.fill j)) ∧ t.link = s.link
      ∧ (t.router.entry .cacheStall).present = false ∧ t.cache.stalling = false := by
  refine ⟨_, h.exec, ?_⟩
  rw [h.pairDone_of_not_mayGo hs hgo]
  set u := s.victimKept i (s.mem.writeBlock (recordAddress v) s.port.data) true with hu
  have hij : i ≠ j := by rintro rfl; rw [h.writing] at hj; cases hj
  have hslot (l : Fin 128) : u.slot l = if l = i then (s.slot i).keepVictim true s.clock.seconds else s.slot l :=
    State.victimKept_slot s i l _ true
  have hkept : ((s.slot i).keepVictim true s.clock.seconds).state ≠ .empty := by
    rw [Slot.keepVictim_good h.key]; split <;> nofun
  have hempty (l : Fin 128) (hl : (s.slot l).state ≠ .empty) : (u.slot l).state ≠ .empty := by
    rw [hslot]; split
    · exact hkept
    · exact hl
  have hrestart := State.restartMiss_of_lowest (u := u) (i := i) (j := j) (k := k) (ws := (s.slot i).waiters)
    (hs := (s.slot i).holdsFor k) (by simpa [hu] using h.normal) (by rw [hslot, if_neg hij.symm]; exact hj)
    (fun l hl => hempty l (hlow l hl)) (by simpa [hu] using hplace) (by simpa [hu] using h.job)
  rw [hrestart]
  set r := u.refilled j k (s.slot i).waiters ((s.slot i).holdsFor k) with hr
  have hslots (l : Fin 128) := u.refilled_slot j l k (s.slot i).waiters ((s.slot i).holdsFor k)
  obtain ⟨hmem, hlink, hpower, hflush, hstalling, hqueue, hwaiting⟩ :=
    u.refilled_same j k (s.slot i).waiters ((s.slot i).holdsFor k)
  rw [← hr] at hmem hlink hpower hflush hstalling hqueue hwaiting
  have hstall : (r.router.entry .cacheStall).present = false := State.refilled_cacheStall u j k _ _
  clear_value r
  have hqueue : r.port.queue = s.port.queue ++ [.fill j] := by simpa [hu] using hqueue
  have hrest : r.resting := State.resting_of_nil (by rw [hwaiting]; simpa [hu] using h.waiting)
  have htends := State.idle_tends_jobOver hrest
  refine ⟨?_, ?_, ?_, ?_, ?_, ?_, ?_⟩
  · exact htends.mem.trans (hmem.trans (by simp [hu]))
  · have hspares : r.spares i := by
      refine ⟨by rw [hqueue]; simpa using h.queue, hflush.trans (State.victimKept_flush.trans h.flush), ?_⟩
      rw [hpower, hu, State.victimKept_power, h.normal]; nofun
    rw [State.jobOver_slot_of_spares hrest hspares, hr, hslots, if_neg hij, hslot, if_pos rfl]
  · have hrj : r.slot j = _ := (congrArg (State.slot · j) hr).trans ((hslots j).trans (if_pos rfl))
    rw [State.jobOver_slot_of_not_dirty hrest (by rw [hrj]; nofun), hrj]
  · refine htends.queue (.fill j) ?_ (by simp)
    show _ ∈ r.port.queue
    rw [hqueue]; simp
  · exact htends.link.trans (hlink.trans (by simp [hu]))
  · rw [htends.router]; exact hstall
  · exact htends.stalling.trans hstalling

/-! ## The victim stays, and the incoming record's miss cannot start -/

/-- No slot can be claimed. -/
def State.allClaimed (s : State) : Prop := ∀ l, (s.slot l).state ≠ .empty ∧ (s.slot l).isVictim = false

theorem State.restartMiss_of_allClaimed {ws : List Waiter} {hs : List Hold} (hpower : u.power.state = .normal)
    (hall : u.allClaimed) :
    u.restartMiss k ws hs = if .host ∈ ws then u.missStuck.awaitPlace .handMiss else u.missStuck := by
  have hclaimable := State.claimable_eq_none hall
  have hclaim : u.claim k ws = none := by simp [State.claim, hclaimable]
  unfold State.restartMiss
  rw [if_neg (by rw [hpower]; exact fun e => e rfl), hclaim]

/-- A slot that is being filled or written, or one with a sale pending (R33). -/
def Slot.busy (x : Slot) : Prop := x.state = .filling ∨ x.state = .writing ∨ x.state ≠ .empty ∧ 0 < x.commitPending

theorem Slot.busy.claimed {x : Slot} (h : x.busy) : x.state ≠ .empty ∧ x.isVictim = false := by
  rcases h with h | h | ⟨h, hp⟩
  · simp [h, Slot.isVictim]
  · simp [h, Slot.isVictim]
  · exact ⟨h, by simp [Slot.isVictim, Nat.ne_of_gt hp]⟩

theorem Slot.keepVictim_claimed {x : Slot} {now : Nat} (hkey : x.key = some v)
    (hstands : 0 < x.commitPending ∨ ∃ h ∈ x.holds, h.key = v) :
    (x.keepVictim true now).state ≠ .empty ∧ (x.keepVictim true now).isVictim = false := by
  have hvictim : x.holds.filter (fun h => decide (h.key = v)) ≠ [] ∨ x.commitPending ≠ 0 := by
    rcases hstands with hp | ⟨h, hm, e⟩
    · exact .inr (Nat.ne_of_gt hp)
    · exact .inl (List.ne_nil_of_mem (List.mem_filter.mpr ⟨hm, decide_eq_true e⟩))
  have hfalse (y : Slot) (hh : y.holds = x.holds.filter fun h => decide (h.key = v)) (hp : y.commitPending = x.commitPending) :
      y.isVictim = false := by
    unfold Slot.isVictim
    rw [hh, hp]
    rcases hvictim with hv | hv
    · rw [List.isEmpty_eq_false_iff.mpr hv, Bool.and_false, Bool.false_and]
    · rw [decide_eq_false hv, Bool.and_false]
  rw [Slot.keepVictim_good hkey]
  split
  · exact ⟨nofun, hfalse _ rfl rfl⟩
  · exact ⟨nofun, hfalse _ rfl rfl⟩

theorem State.EndsPair.allClaimed (h : s.EndsPair i v k) {m : Memory}
    (hstands : 0 < (s.slot i).commitPending ∨ ∃ x ∈ (s.slot i).holds, x.key = v) (hbusy : ∀ l : Fin 128, l ≠ i → (s.slot l).busy) :
    (s.victimKept i m true).allClaimed := by
  intro l
  rw [State.victimKept_slot]
  split
  · exact Slot.keepVictim_claimed h.key hstands
  · next hl => exact (hbusy l hl).claimed

theorem State.EndsPair.spares (h : s.EndsPair i v k) {m : Memory} {ok : Bool} : (s.victimKept i m ok).spares i := by
  refine ⟨by simpa using h.queue, State.victimKept_flush.trans h.flush, ?_⟩
  rw [State.victimKept_power, h.normal]; nofun

/-- A job's end after a miss that cannot start. -/
theorem State.missStuck_jobOver (hwait : u.port.waiting = []) (hi : u.spares i) :
    let t := u.missStuck.jobOver
    t.mem = u.mem ∧ t.slot i = u.slot i ∧ t.cache.stalling = true ∧ t.link = u.link ∧ t.entries = u.entries := by
  have hrest : u.missStuck.resting := State.resting_of_nil hwait
  have htends := State.idle_tends_jobOver hrest
  exact ⟨htends.mem, State.jobOver_slot_of_spares hrest hi, htends.stalling, htends.link, htends.entries⟩

theorem State.find_of_not_names (h : ∀ l : Fin 128, ¬(u.slot l).names k) : u.find k = .miss := by
  have hhas (l : Fin 128) : (u.slot l).has k = false := by
    have hkey : (u.slot l).key ≠ some k := fun e => h l (.inl e)
    simp [Slot.has, hkey]
  have hbrings (l : Fin 128) : (u.slot l).brings k = false := by
    have hkey : (u.slot l).key ≠ some k := fun e => h l (.inl e)
    have hincoming : (u.slot l).incoming ≠ some k := fun e => h l (.inr e)
    simp [Slot.brings, hkey, hincoming]
  have hnone : (List.finRange 128).find? (fun _ => false) = none := List.find?_eq_none.mpr fun _ _ => Bool.false_ne_true
  simp only [State.find, State.holder, hhas, hbrings, hnone]

/-- A job's end while the request in hand waits, its miss unable to start. -/
theorem State.handMiss_jobOver (hwait : u.port.waiting = []) (hi : u.spares i) (hall : u.allClaimed) {tag : Tag} {kind : Byte}
    {req : RecordReq} (hhand : u.link.inHand = some { tag := tag, kind := kind, work := .record req })
    (hearly : u.refusedEarly req = false) (hnames : ∀ l : Fin 128, ¬(u.slot l).names req.key) :
    let t := (u.missStuck.awaitPlace .handMiss).jobOver
    t.mem = u.mem ∧ t.slot i = u.slot i ∧ t.cache.stalling = true ∧ t.link = u.link ∧ .handMiss ∈ t.port.waiting := by
  have hwaits : u.missStuck.awaitPlace .handMiss = u.missStuck.setWaiting [.handMiss] := by
    have hnil : u.missStuck.port.waiting = [] := hwait
    rw [State.awaitPlace, hnil]
    rfl
  rw [hwaits]
  have hstuck : (u.missStuck.setWaiting [.handMiss]).stuckMiss :=
    ⟨⟨_, req, hhand, rfl, hearly, State.find_of_not_names hnames⟩, hall, rfl⟩
  have hrest : (u.missStuck.setWaiting [.handMiss]).resting := fun w hw => .inr ⟨List.mem_singleton.mp hw, hstuck⟩
  have htends := State.idle_tends_jobOver hrest
  exact ⟨htends.mem, State.jobOver_slot_of_spares hrest hi, htends.stalling, htends.link, htends.handMiss List.mem_cons_self⟩

/-- The miss of a pair whose waiters are offers alone waits for their repeats (R34; log 22). -/
theorem State.EndsPair.stalls (h : s.EndsPair i v k) (hs : s.port.silent = false)
    (hstands : 0 < (s.slot i).commitPending ∨ ∃ x ∈ (s.slot i).holds, x.key = v) (hgo : (s.slot i).mayGo ≠ true)
    (hbusy : ∀ l : Fin 128, l ≠ i → (s.slot l).busy) (hhost : .host ∉ (s.slot i).waiters) :
    ∃ t, Machine.exec (.dirtyMissPair .good) s = .next t ∧ t.mem = s.mem.writeBlock (recordAddress v) s.port.data
      ∧ t.slot i = (s.slot i).keepVictim true s.clock.seconds ∧ t.cache.stalling = true ∧ t.link = s.link
      ∧ t.entries = s.entries := by
  refine ⟨_, h.exec, ?_⟩
  rw [h.pairDone_of_not_mayGo hs hgo, State.restartMiss_of_allClaimed (by simpa using h.normal)
    (h.allClaimed hstands hbusy), if_neg hhost]
  obtain ⟨hmem, hslot, hstall, hlink, hentries⟩ := State.missStuck_jobOver (i := i)
    (u := s.victimKept i (s.mem.writeBlock (recordAddress v) s.port.data) true) (by simpa using h.waiting) h.spares
  exact ⟨hmem.trans State.victimKept_mem, hslot.trans ((State.victimKept_slot s i i _ true).trans (if_pos rfl)), hstall,
    hlink.trans State.victimKept_link, hentries.trans State.victimKept_entries⟩

/-- The slots name the incoming record no more. -/
theorem State.EndsPair.not_names (h : s.EndsPair i v k) {m : Memory} (hnames : ∀ l : Fin 128, l ≠ i → ¬(s.slot l).names k)
    (l : Fin 128) : ¬((s.victimKept i m true).slot l).names k := by
  rw [State.victimKept_slot]
  split
  · rw [Slot.keepVictim_good h.key]
    split <;> simpa [Slot.names, h.key] using h.other
  · next hl => exact hnames l hl

/-- The miss of a pair whose waiter is the request in hand asks again, as often as a job ends (R34; log 21). -/
theorem State.EndsPair.asksAgain (h : s.EndsPair i v k) (hs : s.port.silent = false)
    (hstands : 0 < (s.slot i).commitPending ∨ ∃ x ∈ (s.slot i).holds, x.key = v) (hgo : (s.slot i).mayGo ≠ true)
    (hbusy : ∀ l : Fin 128, l ≠ i → (s.slot l).busy) {tag : Tag} {kind : Byte} {req : RecordReq}
    (hhost : (s.slot i).waiters = [.host]) (hkey : req.key = k) (hearly : s.refusedEarly req = false)
    (hnames : ∀ l : Fin 128, l ≠ i → ¬(s.slot l).names k)
    (hhand : s.link.inHand = some { tag := tag, kind := kind, work := .record req }) :
    ∃ t, Machine.exec (.dirtyMissPair .good) s = .next t ∧ t.mem = s.mem.writeBlock (recordAddress v) s.port.data
      ∧ t.slot i = (s.slot i).keepVictim true s.clock.seconds ∧ t.cache.stalling = true ∧ t.link = s.link
      ∧ .handMiss ∈ t.port.waiting := by
  refine ⟨_, h.exec, ?_⟩
  rw [h.pairDone_of_not_mayGo hs hgo, State.restartMiss_of_allClaimed (by simpa using h.normal)
    (h.allClaimed hstands hbusy), if_pos (by rw [hhost]; exact List.mem_cons_self)]
  have hearly' (m : Memory) : (s.victimKept i m true).refusedEarly req = false := by
    unfold State.refusedEarly at hearly ⊢
    rw [State.victimKept_landing]
    exact hearly
  obtain ⟨hmem, hslot, hstall, hlink, hwaits⟩ := State.handMiss_jobOver (i := i)
    (u := s.victimKept i (s.mem.writeBlock (recordAddress v) s.port.data) true) (by simpa using h.waiting) h.spares
    (h.allClaimed hstands hbusy) (by rw [State.victimKept_link]; exact hhand) (hearly' _)
    (fun l => by rw [hkey]; exact h.not_names hnames l)
  exact ⟨hmem.trans State.victimKept_mem, hslot.trans ((State.victimKept_slot s i i _ true).trans (if_pos rfl)), hstall,
    hlink.trans State.victimKept_link, hwaits⟩

/-! ## The write fails -/

theorem State.EndsPair.fails (h : s.EndsPair i v k) (hw : w = .differs ∨ s.port.silent = true)
    {tag : Tag} {kind : Byte} {work : Work} (hhost : (s.slot i).waiters = [.host]) (htx : s.link.tx.length < 8)
    (hhand : s.link.inHand = some { tag := tag, kind := kind, work := work }) :
    ∃ t, Machine.exec (.dirtyMissPair w) s = .next t ∧ t.mem = s.mem
      ∧ t.slot i = (s.slot i).keepVictim false s.clock.seconds
      ∧ (s.port.silent = false → (t.router.entry .memCheck).present = true)
      ∧ (s.port.silent = true → s.memoryConditionsStay t) ∧ t.link = (s.answered tag kind .memoryFault .empty).link := by
  refine ⟨_, h.exec, ?_⟩
  rw [h.pairDone_of_fails hw, hhost, List.foldl_cons, List.foldl_nil]
  set u := (s.victimKept i s.mem false).failWaiter .host with hu
  have hfinish : u = (s.victimKept i s.mem false).finish .memoryFault := rfl
  have hrest : u.resting := State.resting_of_nil (by rw [hfinish]; simpa using h.waiting)
  have htends := State.idle_tends_jobOver hrest
  have hcache : u.cache = (s.victimKept i s.mem false).cache := by rw [hfinish, State.finish_cache]
  have hspares : u.spares i := by
    refine ⟨?_, by rw [hcache]; exact h.spares.2.1, ?_⟩
    · rw [hfinish, State.finish_port]; exact h.spares.1
    · rw [hfinish, State.finish_power]; exact h.spares.2.2
  have hrouter : u.jobOver.router = (s.report false).router := by
    refine htends.router.trans ?_
    show u.router = _
    rw [hfinish, State.finish_router]
    rfl
  refine ⟨?_, ?_, fun hs => ?_, fun hs => State.memoryConditionsStay_of_router ?_, ?_⟩
  · exact htends.mem.trans (by rw [hfinish]; exact (State.finish_mem _ _ _).trans State.victimKept_mem)
  · rw [State.jobOver_slot_of_spares hrest hspares, State.slot, hcache]
    exact (State.victimKept_slot s i i s.mem false).trans (if_pos rfl)
  · rw [hrouter, State.report_memCheck hs]; rfl
  · rw [hrouter, State.report_of_silent hs]
  · refine htends.link.trans ?_
    have hlink := State.finish_link (s := s.victimKept i s.mem false) (by simpa using hhand) (by simpa using htx) .memoryFault .empty
    exact hlink.trans (by simp [State.answered])

/-- Settles O57. -/
theorem pairsGiveTheSlotOver : Obligations.PairsGiveTheSlotOver := by
  intro s i v k hreset hwf hpower hwait hflush hjob hrec hstate hkey hincoming hqueue hvk x obstacle stands written kept mine busy givesUp
  have h : s.EndsPair i v k := ⟨hreset, hwf, hpower, hwait, hflush, hjob, hrec, hstate, hkey, hincoming, hqueue, hvk⟩
  have hmayGo : x.mayGo = true ↔ ¬obstacle := Slot.mayGo_iff hkey
  have hwritten (t : State) (ht : t.mem = s.mem.writeBlock (recordAddress v) s.port.data) : written t := by
    constructor <;> rw [ht]
    · exact Memory.readBlock_writeBlock _ _ _ hwf
    · exact fun b hb => Memory.read_writeBlock_of_outside _ _ _ _ hwf hb
  have hgives (t : State) (ht : t.mem = s.mem.writeBlock (recordAddress v) s.port.data)
      (hi : t.slot i = x.keepVictim true s.clock.seconds) : givesUp t :=
    ⟨hwritten t ht, hi.trans (Slot.keepVictim_good hkey)⟩
  have hobstacle (hs : stands) : x.mayGo ≠ true := fun hgo => hmayGo.mp hgo (.inr hs)
  refine ⟨fun hno hs => ?_, fun j hyes hs hj hlow hplace => ?_, fun hstands hs hbusy => ⟨fun hhost => ?_, ?_⟩, ?_⟩
  · obtain ⟨t, ht, hslot, hjob, hrecord, hq, hmem, hlink⟩ := h.gives hs (hmayGo.mpr hno)
    exact ⟨t, ht, hslot, hjob, hrecord, hq, hwritten t hmem, hlink⟩
  · obtain ⟨t, ht, hmem, hslot, hslotj, hfill, hlink, hstall, hstalling⟩ :=
      h.restarts hs (fun hgo => hmayGo.mp hgo hyes) hj hlow hplace
    exact ⟨t, ht, hgives t hmem hslot, hslotj, hfill, hlink, hstall, hstalling⟩
  · obtain ⟨t, ht, hmem, hslot, hrest⟩ := h.stalls hs hstands (hobstacle hstands) hbusy hhost
    exact ⟨t, ht, hgives t hmem hslot, hrest⟩
  · intro tag kind req hhost hreq hearly hnames hhand
    obtain ⟨t, ht, hmem, hslot, hrest⟩ := h.asksAgain hs hstands (hobstacle hstands) hbusy hhost hreq hearly hnames hhand
    exact ⟨t, ht, hgives t hmem hslot, hrest⟩
  · intro tag kind req w hw hhost htx hhand
    obtain ⟨t, ht, hmem, hslot, hrest⟩ := h.fails hw hhost htx hhand
    exact ⟨t, ht, hmem, hslot.trans (Slot.keepVictim_failed hkey), hrest⟩

end Sys2Proof.Machine
end

section
/-! PROOF. FORMAT's blocks, its acceptance and the ends of its writes (O23). -/
namespace Sys2Proof.Machine
set_option Elab.async false
variable {s t u : State}

/-! ## The blocks in their order (R195) -/

theorem formatTarget_conf (b : Fin 49) : formatTarget b.val = some (.conf (ConfBlock.ofNumber b)) := by
  simp [formatTarget, b.isLt]

theorem formatTarget_guest (n : Fin 2048) : formatTarget (49 + n.val) = some (.record (.guest n)) := by
  have := n.isLt
  simp [formatTarget, show ¬(49 + n.val < 49) by omega, show 49 + n.val < 2097 by omega]

theorem formatTarget_folio (n : Fin 1024) : formatTarget (2097 + n.val) = some (.record (.folio n)) := by
  have := n.isLt
  simp [formatTarget, show ¬(2097 + n.val < 49) by omega, show ¬(2097 + n.val < 2097) by omega, show 2097 + n.val < 3121 by omega]

theorem formatTarget_eq_none {i : Nat} (h : 3121 ≤ i) : formatTarget i = none := by
  simp [formatTarget, show ¬(i < 49) by omega, show ¬(i < 2097) by omega, show ¬(i < 3121) by omega]

theorem formatTarget_isSome {i : Nat} (h : i < 3121) : ∃ t, formatTarget i = some t := by
  unfold formatTarget
  split
  · exact ⟨_, rfl⟩
  · split
    · exact ⟨_, rfl⟩
    · exact ⟨_, rfl⟩

theorem ConfBlock.address_ofNumber (b : Fin 49) : (ConfBlock.ofNumber b).address = 256 * b.val := by
  revert b; decide

/-! ## FORMAT's writes are queued while places last -/

theorem State.queueFormat_step {run : FormatRun} {v : WriteTarget} {fuel : Nat} (hwork : u.work = some (.format run))
    (hstopped : run.stopped = false) (hv : formatTarget run.next = some v) (hplace : u.hasPlace = true) :
    State.queueFormat (fuel + 1) u = State.queueFormat fuel
      ((u.setWork (.format { run with next := run.next + 1, outstanding := run.outstanding + 1 })).enqueue (.confWrite v .format)) := by
  rw [State.queueFormat, hwork]
  dsimp only
  rw [hstopped, hv, hplace]
  rfl

theorem State.queueFormat_full {run : FormatRun} {v : WriteTarget} {fuel : Nat} (hwork : u.work = some (.format run))
    (hstopped : run.stopped = false) (hv : formatTarget run.next = some v) (hplace : u.hasPlace = false) :
    State.queueFormat (fuel + 1) u = u.awaitPlace .format := by
  rw [State.queueFormat, hwork]
  dsimp only
  rw [hstopped, hv, hplace]
  rfl

theorem State.pump_of_busy {j : Job} (h : u.port.job = some j) : u.pump = u := by
  unfold State.pump; rw [h]

theorem State.setWork_eq_self {w : Work} (h : u.work = some w) : u.setWork w = u := by
  obtain ⟨x, hx, rfl⟩ := Option.map_eq_some_iff.mp h
  unfold State.setWork
  rw [hx, Option.map_some, ← hx]

theorem State.work_setWork {w : Work} (w' : Work) (h : u.work = some w) : (u.setWork w').work = some w' := by
  obtain ⟨x, hx, -⟩ := Option.map_eq_some_iff.mp h
  simp [State.work, State.setWork, hx]

theorem State.setWork_setWork (u : State) (w w' : Work) : (u.setWork w).setWork w' = u.setWork w' := by
  cases h : u.link.inHand <;> simp [State.setWork, h]

/-- FORMAT's run once m more writes are queued. -/
def FormatRun.queuedMore (run : FormatRun) (m : Nat) : FormatRun :=
  { run with next := run.next + m, outstanding := run.outstanding + m }

/-- FORMAT's writes of the m blocks from place a of its order. -/
def formatJobs (a m : Nat) : List (Option Job) :=
  (List.range m).map fun i => (formatTarget (a + i)).map fun x => .confWrite x .format

theorem formatJobs_succ {a m : Nat} {v : WriteTarget} (hv : formatTarget a = some v) :
    formatJobs a (m + 1) = some (.confWrite v .format) :: formatJobs (a + 1) m := by
  have hnext (i : Nat) : a + 1 + i = a + (i + 1) := by omega
  unfold formatJobs
  rw [List.range_succ_eq_map, List.map_cons, List.map_map, Nat.add_zero, hv]
  simp [Function.comp_def, hnext]

/-- What queueing m of FORMAT's writes at a busy port leaves. -/
structure State.FormatFills (u t : State) (run : FormatRun) (m : Nat) : Prop where
  frame : t = { u with port := t.port, link := t.link }
  job : t.port.job = u.port.job
  data : t.port.data = u.port.data
  queue : t.port.queue.map some = u.port.queue.map some ++ formatJobs run.next m
  waiting : .format ∈ t.port.waiting
  link : t.link = (u.setWork (.format (run.queuedMore m))).link

/-- A busy port takes FORMAT's writes in the order of their blocks until no place is left. -/
theorem State.queueFormat_fills {j : Job} {m : Nat} {run : FormatRun} (hjob : u.port.job = some j) (hpower : u.power.state = .normal)
    (hwork : u.work = some (.format run)) (hstopped : run.stopped = false) (hlen : u.port.queue.length + m = 16)
    (hnext : run.next + m < 3121) (fuel : Nat) : u.FormatFills (State.queueFormat (m + fuel + 1) u) run m := by
  induction m generalizing u run with
  | zero =>
    obtain ⟨v, hv⟩ := formatTarget_isSome hnext
    have hfull : u.hasPlace = false := by
      have : u.port.queue.length = 16 := hlen
      simp [State.hasPlace, this]
    rw [State.queueFormat_full hwork hstopped hv hfull]
    have hwait : u.awaitPlace .format = u.setWaiting (u.awaitPlace .format).port.waiting
        ∧ .format ∈ (u.awaitPlace .format).port.waiting := by
      unfold State.awaitPlace
      split
      · next h => exact ⟨rfl, h⟩
      · exact ⟨rfl, List.mem_append_right _ List.mem_cons_self⟩
    obtain ⟨e, hmem⟩ := hwait
    have hsame : (u.setWork (.format (run.queuedMore 0))).link = u.link := congrArg State.link (State.setWork_eq_self hwork)
    refine ⟨by rw [e]; rfl, by rw [e]; rfl, by rw [e]; rfl, ?_, hmem, by rw [e, hsame]; rfl⟩
    rw [e]; simp [formatJobs]
  | succ m ih =>
    obtain ⟨v, hv⟩ := formatTarget_isSome (show run.next < 3121 by omega)
    have hplace : u.hasPlace = true := by
      have : u.port.queue.length < 16 := by omega
      simp [State.hasPlace, this, hpower]
    have hstep := State.queueFormat_step (fuel := m + fuel + 1) hwork hstopped hv hplace
    set u' := (u.setWork (.format (run.queuedMore 1))).setQueue (u.port.queue ++ [.confWrite v .format]) with hu'
    have hbusy : (u.setWork (.format (run.queuedMore 1))).enqueue (.confWrite v .format) = u' := State.pump_of_busy hjob
    have hfills := ih (u := u') (run := run.queuedMore 1) hjob hpower (State.work_setWork _ hwork) hstopped
      (by simp [hu']; omega) (show run.next + 1 + m < 3121 by omega)
    have hrun : (run.queuedMore 1).queuedMore m = run.queuedMore (m + 1) := by
      simp [FormatRun.queuedMore, Nat.add_assoc, Nat.add_comm 1 m]
    have hfuel : m + 1 + fuel + 1 = m + fuel + 1 + 1 := by omega
    rw [hfuel, hstep]
    refine (congrArg (fun x : State => u.FormatFills (State.queueFormat (m + fuel + 1) x) run (m + 1)) hbusy).mpr ?_
    obtain ⟨hframe, hjob', hdata, hqueue, hwaiting, hlink⟩ := hfills
    refine ⟨?_, hjob', hdata, ?_, hwaiting, ?_⟩
    · exact hframe
    · rw [hqueue, formatJobs_succ hv]
      simp [hu', FormatRun.queuedMore]
    · rw [hlink, hrun]
      exact (congrArg State.link (State.setWork_setWork u (.format (run.queuedMore 1)) (.format (run.queuedMore (m + 1)))) :)

/-! ## FORMAT is accepted -/

/-- The state in which FORMAT's writes begin (R195). -/
structure State.FormatBegins (u : State) : Prop where
  work : u.work = some (.format { next := 0, outstanding := 0, written := 0, failed := 0, first := none, stopped := false })
  job : u.port.job = none
  queue : u.port.queue = []
  power : u.power.state = .normal
  settings : u.settings = Settings.blank

theorem State.FormatBegins.fills (h : u.FormatBegins) :
    let t := State.queueFormat 18 u
    t.port.job = some (.confWrite (.conf .settings) .format) ∧ t.port.data = sealBlock (settingsBytes Settings.blank)
    ∧ t.port.queue.map some = formatJobs 1 16 ∧ .format ∈ t.port.waiting
    ∧ t.work = some (.format { next := 17, outstanding := 17, written := 0, failed := 0, first := none, stopped := false }) := by
  have hplace : u.hasPlace = true := by simp [State.hasPlace, h.queue, h.power]
  have hfirst : formatTarget 0 = some (.conf .settings) := formatTarget_conf 0
  have hstep := State.queueFormat_step (fuel := 17) h.work rfl hfirst hplace
  set run : FormatRun := { next := 1, outstanding := 1, written := 0, failed := 0, first := none, stopped := false } with hrun
  have henqueue : (u.setWork (.format run)).enqueue (.confWrite (.conf .settings) .format) =
      (u.setWork (.format run)).withJob (.confWrite (.conf .settings) .format) :=
    State.enqueue_withJob (s := u.setWork (.format run)) (fun _ => h.queue) h.power _ rfl rfl
  set v := (u.setWork (.format run)).withJob (.confWrite (.conf .settings) .format) with hv
  have hport : v = { u.setWork (.format run) with port := { u.port with
      job := some (.confWrite (.conf .settings) .format), record := none, data := sealBlock (settingsBytes u.settings)
      silent := false } } := by
    have hidle : (u.setWork (.format run)).port.job = none := h.job
    rw [hv, State.withJob, hidle]
    rfl
  have hwork : v.work = some (.format run) := by rw [hport]; exact State.work_setWork _ h.work
  have hfills := State.queueFormat_fills (u := v) (m := 16) (run := run) (j := .confWrite (.conf .settings) .format)
    (by rw [hport]) (by rw [hport]; exact h.power) hwork rfl (by rw [hport]; exact congrArg (·.length + 16) h.queue) (by decide) 0
  intro t
  have ht : t = State.queueFormat (16 + 0 + 1) v := hstep.trans (congrArg (State.queueFormat 17) henqueue)
  rw [ht]
  refine ⟨hfills.job.trans (by rw [hport]), hfills.data.trans (by rw [hport, h.settings]), hfills.queue.trans ?_, hfills.waiting, ?_⟩
  · rw [hport]
    show u.port.queue.map some ++ _ = _
    rw [h.queue]; rfl
  · unfold State.work
    rw [hfills.link]
    exact State.work_setWork _ hwork

theorem State.exec_format {tag : Tag} (h : s.servesRequest) (hservice : s.service = false) (hflush : s.cache.flush = none) :
    exec (.format tag true) s = .next (s.heard.holding tag 0x04 .judging).startFormat := by
  show execFormat tag true s = _
  refine (State.awake_of_awake h.1.1 _).trans (congrArg _ ?_)
  rw [State.receive_taken h.1]
  generalize hu : s.heard.holding tag 0x04 .judging = u
  have hpower : u.power.state = .normal := hu ▸ h.2
  have hserves : u.service = false := hu ▸ hservice
  have hno : u.cache.flush = none := hu ▸ hflush
  simp only [State.inNormal, hpower, hserves, State.withForm, hno, if_true, Bool.false_eq_true, if_false, Option.isSome_none]

/-- The request in hand at a stage of its work, whatever else is changed. -/
theorem State.work_of_holding {tag : Tag} {kind : Byte} {w : Work} (h : u.link.inHand = some ⟨tag, kind, w⟩) : u.work = some w := by
  simp [State.work, h]

theorem State.startFormat_begins {tag : Tag} {kind : Byte} (hpower : s.power.state = .normal) (hjob : s.port.job = none)
    (hqueue : s.port.queue = []) : ∃ u, u.FormatBegins ∧ (s.holding tag kind .judging).startFormat = State.queueFormat 18 u := by
  refine ⟨_, ?_, rfl⟩
  have hport : (s.holding tag kind .judging).port = s.port := rfl
  constructor
  · exact State.work_setWork (w := .judging) _ (State.work_of_holding (tag := tag) (kind := kind) (by simp [State.holding]))
  · simp [hport, hjob]
  · simp [hport, hqueue]
  · simp [hpower]
  · simp

/-! ## One of FORMAT's writes ends -/

/-- FORMAT's run once a write of block v has ended. -/
def FormatRun.ended (run : FormatRun) (v : WriteTarget) (ok : Bool) : FormatRun :=
  { run with
    outstanding := run.outstanding - 1, written := run.written + ok.toNat, failed := run.failed + (!ok).toNat
    first := run.first.or (if ok then none else some v) }

/-- FORMAT's request in hand, and one of its writes in progress. -/
structure State.EndsFormatWrite (s : State) (tag : Tag) (run : FormatRun) (v : WriteTarget) : Prop where
  awake : s.inReset = false
  hand : s.link.inHand = some { tag := tag, kind := 0x04, work := .format run }
  tx : s.link.tx.length < 8
  job : s.port.job = some (.confWrite v .format)

/-- The port has reported the write, and FORMAT's run counts it. -/
def State.formatCounts (s : State) (m : Memory) (ok : Bool) (run : FormatRun) : State :=
  ({ s with mem := m }.report ok).setWork (.format run)

variable {tag : Tag} {run : FormatRun} {v : WriteTarget} {w : WriteResult} {m : Memory} {ok : Bool}

theorem State.EndsFormatWrite.exec (h : s.EndsFormatWrite tag run v) : exec (.configurationWrite w) s =
    .next ((s.formatCounts (s.writeBlocked w).1 (s.writeBlocked w).2 (run.ended v (s.writeBlocked w).2)).formatReview).jobOver := by
  show execConfigurationWrite w s = _
  refine (State.awake_of_awake h.awake _).trans (congrArg _ ?_)
  rw [h.job]
  dsimp only
  rcases s.writeBlocked w with ⟨m, ok⟩
  have hwork : ({ s with mem := m }.report ok).work = some (.format run) := by simp [State.work, h.hand]
  simp only [State.confWritten, State.formatWritten, hwork]
  rfl

@[simp] theorem State.formatCounts_port : (s.formatCounts m ok run).port = s.port := by simp [State.formatCounts, State.setWork]
@[simp] theorem State.formatCounts_power : (s.formatCounts m ok run).power = s.power := by simp [State.formatCounts]
@[simp] theorem State.formatCounts_journal : (s.formatCounts m ok run).journal = s.journal := by simp [State.formatCounts]
@[simp] theorem State.formatCounts_cache : (s.formatCounts m ok run).cache = s.cache := by simp [State.formatCounts, State.setWork]

theorem State.formatCounts_router : (s.formatCounts m ok run).router = ({ s with mem := m }.report ok).router := rfl

theorem State.EndsFormatWrite.link {run' : FormatRun} (h : s.EndsFormatWrite tag run v) :
    (s.formatCounts m ok run').link = { s.link with inHand := some { tag := tag, kind := 0x04, work := .format run' } } := by
  simp [State.formatCounts, State.setWork, h.hand]

theorem State.EndsFormatWrite.work {run' : FormatRun} (h : s.EndsFormatWrite tag run v) :
    (s.formatCounts m ok run').work = some (.format run') := by simp [State.work, h.link]

/-- What is reported of the write. -/
theorem State.formatCounts_reported (hok : ok = true ↔ w = .good ∧ s.port.silent = false)
    (ht : t.router = (s.formatCounts m ok run).router) :
    (s.port.silent = false → ((t.router.entry .memCheck).present = true ↔ w = .differs))
    ∧ (s.port.silent = true → s.memoryConditionsStay t) := by
  rw [State.formatCounts_router] at ht
  refine ⟨fun hs => ?_, fun hs => State.memoryConditionsStay_of_router ?_⟩
  · rw [ht, State.report_memCheck (s := { s with mem := m }) hs, Bool.not_eq_true', ← Bool.not_eq_true, hok]
    cases w <;> simp [hs]
  · rw [ht, State.report_of_silent (s := { s with mem := m }) hs]

theorem State.EndsFormatWrite.writeBlocked_iff (h : s.EndsFormatWrite tag run v) :
    (s.writeBlocked w).2 = true ↔ w = .good ∧ s.port.silent = false := by
  have ha : s.jobAddress = some v.address := by simp [State.jobAddress, h.job]
  rcases State.writeBlocked_cases ha w with ⟨hp, e⟩ | ⟨hp, e⟩
  · rw [e]; exact ⟨fun _ => hp, fun _ => rfl⟩
  · rw [e]; exact ⟨nofun, fun hyes => absurd hyes hp⟩

/-! ### With more to write -/

theorem State.formatReview_of_more (hwork : u.work = some (.format run)) (hstopped : run.stopped = false) (hnext : run.next < 3121) :
    u.formatReview = u := by
  unfold State.formatReview
  rw [hwork]
  dsimp only
  rw [hstopped, if_pos hnext]
  split <;> rfl

theorem State.nextJob_of_format {j : Job} {q : List Job} (hq : u.port.queue = j :: q)
    (hformat : ∀ k ∈ u.port.queue, ∃ x, k = .confWrite x .format) (hpower : u.power.state = .normal) : u.nextJob = some j := by
  have hnone (p : Job → Bool) (hp : ∀ x, p (.confWrite x .format) = false) : u.port.queue.find? p = none := by
    refine List.find?_eq_none.mpr fun k hk => ?_
    obtain ⟨x, rfl⟩ := hformat k hk
    simp [hp]
  obtain ⟨x, rfl⟩ := hformat j (by rw [hq]; exact List.mem_cons_self)
  have hbest : u.bestJob = some (.confWrite x .format) := by
    unfold State.bestJob
    rw [if_neg (by rw [hpower]; nofun)]
    dsimp only
    rw [hnone _ fun _ => rfl, hnone _ fun _ => rfl, hq]
    rfl
  simp [State.nextJob, hbest, State.isInstant]

theorem State.sweepFrom_of_idle {wants : State → Fin 128 → Bool} {p : PlaceWaiter} (h : ∀ i, wants u i = false)
    (is : List (Fin 128)) : State.sweepFrom wants p is u = u := by
  induction is with
  | nil => rfl
  | cons i is ih => unfold State.sweepFrom; rw [h, ih]; rfl

theorem State.sweepFlush_of_none (h : u.cache.flush = none) : u.sweepFlush = u :=
  State.sweepFrom_of_idle (fun i => by simp [State.flushWants, h]) _

theorem State.sweepEmergency_of_normal (h : u.power.state = .normal) : u.sweepEmergency = u :=
  State.sweepFrom_of_idle (fun i => by simp [State.emergencyWants, h]) _

theorem State.censusRun_of_busy {j : Job} (h : u.port.job = some j) (fuel : Nat) : State.censusRun fuel u = u := by
  cases fuel with
  | zero => rfl
  | succ fuel => unfold State.censusRun; rw [h]

/-- What one more of FORMAT's writes leaves at a busy port with its last place free. -/
structure State.FormatRefills (u t : State) (run : FormatRun) (v : WriteTarget) : Prop where
  frame : t = { u with port := t.port, link := t.link }
  job : t.port.job = u.port.job
  queue : t.port.queue = u.port.queue ++ [.confWrite v .format]
  link : t.link = (u.setWork (.format (run.queuedMore 1))).link

theorem State.queueFormat_refills {j : Job} (hjob : u.port.job = some j) (hpower : u.power.state = .normal)
    (hwork : u.work = some (.format run)) (hstopped : run.stopped = false) (hlen : u.port.queue.length = 15)
    (hv : formatTarget run.next = some v) (fuel : Nat) : u.FormatRefills (State.queueFormat (fuel + 2) u) run v := by
  by_cases hnext : run.next + 1 < 3121
  · have hfills := State.queueFormat_fills (m := 1) hjob hpower hwork hstopped (by rw [hlen]) hnext fuel
    rw [show fuel + 2 = 1 + fuel + 1 by omega]
    refine ⟨hfills.frame, hfills.job, ?_, hfills.link⟩
    have hqueue := hfills.queue
    rw [formatJobs_succ hv] at hqueue
    refine List.map_injective_iff.mpr (Option.some_injective _) (hqueue.trans ?_)
    simp [formatJobs]
  · have hplace : u.hasPlace = true := by simp [State.hasPlace, hpower, hlen]
    have hbusy : (u.setWork (.format (run.queuedMore 1))).enqueue (.confWrite v .format)
        = (u.setWork (.format (run.queuedMore 1))).setQueue (u.port.queue ++ [.confWrite v .format]) :=
      State.pump_of_busy hjob
    have hlast : State.queueFormat (fuel + 2) u
        = (u.setWork (.format (run.queuedMore 1))).setQueue (u.port.queue ++ [.confWrite v .format]) := by
      refine (State.queueFormat_step hwork hstopped hv hplace).trans ((congrArg (State.queueFormat (fuel + 1)) hbusy).trans ?_)
      have hwork' : ((u.setWork (.format (run.queuedMore 1))).setQueue (u.port.queue ++ [.confWrite v .format])).work
          = some (.format (run.queuedMore 1)) := State.work_setWork _ hwork
      have hnone : formatTarget (run.queuedMore 1).next = none := formatTarget_eq_none (Nat.le_of_not_lt hnext)
      have hstopped' : (run.queuedMore 1).stopped = false := hstopped
      rw [State.queueFormat, hwork']
      dsimp only
      rw [hstopped', hnone]
      rfl
    rw [hlast]
    exact ⟨rfl, rfl, rfl, rfl⟩

/-- The end of one of FORMAT's writes, with FORMAT waiting for the place it frees. -/
theorem State.jobOver_of_format {j : Job} {q : List Job} (hpower : u.power.state = .normal) (hcommits : u.journal.commits = [])
    (hflush : u.cache.flush = none) (hwait : u.port.waiting = [.format]) (hq : u.port.queue = j :: q)
    (hformat : ∀ k ∈ u.port.queue, ∃ x, k = .confWrite x .format) (hwork : u.work = some (.format run))
    (hstopped : run.stopped = false) (hlen : q.length = 15) (hv : formatTarget run.next = some v) :
    let t := u.jobOver
    t.port.job = some j ∧ t.port.queue = q ++ [.confWrite v .format] ∧ t.router = u.router
    ∧ t.link = (u.setWork (.format (run.queuedMore 1))).link := by
  intro t
  have hpump : u.idle.pump = u.idle.startJob j := by
    unfold State.pump
    rw [State.nextJob_of_format (u := u.idle) hq hformat hpower]
    rfl
  obtain ⟨x, rfl⟩ := hformat j (by rw [hq]; exact List.mem_cons_self)
  set p := u.idle.startJob (.confWrite x .format) with hp
  have hframe : p = { u with port := p.port } := by rw [hp]; rfl
  have hport := State.startJob_port u.idle (.confWrite x .format)
  rw [← hp] at hport
  have hqueue : p.port.queue = q := by
    rw [hport]
    show u.port.queue.erase _ = q
    rw [hq, List.erase_cons_head]
  have hjob : p.port.job = some (.confWrite x .format) := by rw [hport]
  have hwaiting : p.port.waiting = [.format] := by rw [hport]; exact hwait
  clear_value p
  have hplaces : p.servePlaces true = State.queueFormat 18 (p.setWaiting []) := by
    unfold State.servePlaces
    rw [hwaiting, List.foldl_cons, List.foldl_nil, hwaiting, if_neg (by nofun)]
    rfl
  have hrefills := State.queueFormat_refills (u := p.setWaiting []) hjob (by rw [hframe]; exact hpower)
    (by rw [hframe]; exact hwork) hstopped (by show p.port.queue.length = 15; rw [hqueue, hlen]) hv 16
  rw [← hplaces] at hrefills
  obtain ⟨hsame, hjob', hqueue', hlink⟩ := hrefills
  have hcommits' : State.queueCommits p.journal.commits.length p = p := by
    have : p.journal.commits = [] := by rw [hframe]; exact hcommits
    rw [this]; rfl
  have hsettle : p.settle true = p.servePlaces true := by
    unfold State.settle
    rw [hcommits', State.sweepEmergency_of_normal (by rw [hsame, hframe]; exact hpower),
      State.sweepFlush_of_none (by rw [hsame, hframe]; exact hflush), State.pump_of_busy (hjob'.trans hjob)]
  have ht : t = p.servePlaces true := by
    show State.censusRun 2048 (u.idle.pump.settle true) = _
    rw [hpump, hsettle, State.censusRun_of_busy (hjob'.trans hjob)]
  rw [ht]
  refine ⟨hjob'.trans hjob, hqueue'.trans (congrArg (· ++ _) hqueue), ?_, hlink.trans ?_⟩
  · rw [hsame, hframe]; rfl
  · rw [hframe]; rfl

/-! ### With none left -/

theorem State.formatReview_of_last (hwork : u.work = some (.format run)) (hout : run.outstanding = 0)
    (hstopped : run.stopped = false) (hnext : run.next = 3121) :
    (run.first = none → u.formatReview = u.finish .done)
    ∧ ∀ v, run.first = some v → u.formatReview = u.finish .memoryFault (.formatFailed run.failed v) := by
  unfold State.formatReview
  rw [hwork]
  dsimp only
  rw [if_pos hout, hstopped, if_neg Bool.false_ne_true, if_neg (by omega)]
  exact ⟨fun h => by rw [h], fun v h => by rw [h]⟩

theorem State.formatReview_of_stopped (hwork : u.work = some (.format run)) (hstopped : run.stopped = true) : u.formatReview =
    if run.outstanding = 0 then u.finish .memoryFault (.formatIncomplete run.written) else u := by
  unfold State.formatReview
  rw [hwork]
  dsimp only
  rw [hstopped]
  rfl

/-- The job's end after FORMAT's reply. -/
theorem State.EndsFormatWrite.replies (h : s.EndsFormatWrite tag run v) (hwait : s.port.waiting = []) {run' : FormatRun}
    (res : Result) (b : ReplyBody) :
    let t := ((s.formatCounts m ok run').finish res b).jobOver
    t.link = (s.answered tag 0x04 res b).link ∧ t.router = (s.formatCounts m ok run').router ∧ t.power = s.power := by
  set u := s.formatCounts m ok run' with hu
  have hrest : (u.finish res b).resting := State.resting_of_nil (by simpa [hu] using hwait)
  have htends := State.idle_tends_jobOver hrest
  refine ⟨?_, ?_, ?_⟩
  · have hlink : u.link = { s.link with inHand := some { tag := tag, kind := 0x04, work := .format run' } } := h.link
    have hfinish := State.finish_link (s := u) (by rw [hlink]) (by rw [hlink]; exact h.tx) res b
    refine htends.link.trans (hfinish.trans ?_)
    simp [State.answered, hlink]
  · exact htends.router.trans (State.finish_router u res b)
  · exact htends.power.trans ((State.finish_power u res b).trans (by simp [hu]))

/-! ## The obligation -/

theorem FormatRun.ended_eq {c : Prop} [Decidable c] (hc : ok = true ↔ c) : run.ended v ok =
    { run with
      outstanding := run.outstanding - 1, written := if c then run.written + 1 else run.written
      failed := if c then run.failed else run.failed + 1
      first := if c ∨ run.first.isSome = true then run.first else some v } := by
  unfold FormatRun.ended
  by_cases h : c
  · rw [hc.mpr h]; simp [h]
  · rw [Bool.eq_false_iff.mpr fun e => h (hc.mp e)]
    cases hf : run.first <;> simp [h]

/-- Settles O23. -/
theorem formatWritesItsBlocks : Obligations.FormatWritesItsBlocks := by
  refine ⟨⟨fun b => ⟨formatTarget_conf b, ConfBlock.address_ofNumber b⟩, formatTarget_guest, formatTarget_folio,
    fun _ => formatTarget_eq_none⟩, fun s tag hserves hservice hflush hjob hqueue => ?_, ?_⟩
  · obtain ⟨u, hu, e⟩ := State.startFormat_begins (tag := tag) (kind := 0x04) (s := s.heard) hserves.2 hjob hqueue
    obtain ⟨hjob', hdata, hqueue', hwaiting, hwork⟩ := hu.fills
    have hjobs : formatJobs 1 16 = (List.range 16).map fun i => (formatTarget (i + 1)).map fun x => .confWrite x .format :=
      List.map_congr_left fun i _ => by rw [Nat.add_comm]
    exact ⟨_, (State.exec_format hserves hservice hflush).trans (congrArg _ e), hjob', hdata, hqueue'.trans hjobs, hwaiting, hwork⟩
  · intro s tag run v w hreset hcommits hflush hhand htx hjob hout hcensus ok reported run' replied
    have h : s.EndsFormatWrite tag run v := ⟨hreset, hhand, htx, hjob⟩
    have hok : (s.writeBlocked w).2 = true ↔ ok := h.writeBlocked_iff
    have hrun : run.ended v (s.writeBlocked w).2 = run' := FormatRun.ended_eq hok
    have hexec := h.exec (w := w)
    rw [hrun] at hexec
    clear_value run'
    generalize s.writeBlocked w = p at hok hexec hrun
    obtain ⟨m, b⟩ := p
    set u := s.formatCounts m b run' with hu
    have hwork : u.work = some (.format run') := h.work
    have hreported (t : State) (ht : t.router = u.router) : reported t := State.formatCounts_reported hok ht
    have hstopped : run'.stopped = run.stopped := by rw [← hrun]; rfl
    have hnext : run'.next = run.next := by rw [← hrun]; rfl
    have houtstanding : run'.outstanding = run.outstanding - 1 := by rw [← hrun]; rfl
    refine ⟨fun x hpower hx hgoes hwait hlen hformat => ?_, fun hpower hall hgoes hlast hwait => ?_, fun hpower hstop hwait => ?_⟩
    · have hmore : u.formatReview = u := by
        refine State.formatReview_of_more hwork (hstopped.trans hgoes) ?_
        rw [hnext]
        by_contra hge
        rw [formatTarget_eq_none (Nat.le_of_not_lt hge)] at hx
        cases hx
      rw [hmore] at hexec
      obtain ⟨j, q, hq⟩ : ∃ j q, s.port.queue = j :: q := List.exists_cons_of_length_pos (by rw [hlen]; decide)
      rw [hq, List.length_cons] at hlen
      obtain ⟨hjob', hqueue', hrouter, hlink⟩ := State.jobOver_of_format (u := u) (run := run') (v := x) (j := j) (q := q)
        (by simpa [hu] using hpower) (by simpa [hu] using hcommits) (by simpa [hu] using hflush) (by simpa [hu] using hwait)
        (by simpa [hu] using hq) (by simpa [hu] using hformat) hwork (hstopped.trans hgoes) (by omega) (by rw [hnext]; exact hx)
      refine ⟨_, hexec, ?_, ?_, ?_, hreported _ hrouter, ?_⟩
      · rw [hjob', hq]; rfl
      · rw [hqueue', hq]; rfl
      · unfold State.work
        rw [hlink]
        refine (State.work_setWork _ hwork).trans ?_
        simp only [FormatRun.queuedMore, hnext, houtstanding, Nat.sub_add_cancel hout]
      · rw [hlink]
        show u.link.tx = _
        rw [show u.link = _ from h.link]
    · have hreview := State.formatReview_of_last hwork (by rw [houtstanding, hlast]) (hstopped.trans hgoes) (hnext.trans hall)
      cases hfirst : run'.first with
      | none =>
        obtain ⟨hlink, hrouter, -⟩ := h.replies (m := m) (ok := b) (run' := run') hwait .done .empty
        rw [hreview.1 hfirst] at hexec
        exact ⟨_, hexec, hreported _ hrouter, fun _ => hlink, nofun⟩
      | some x =>
        obtain ⟨hlink, hrouter, -⟩ := h.replies (m := m) (ok := b) (run' := run') hwait .memoryFault (.formatFailed run'.failed x)
        rw [hreview.2 x hfirst] at hexec
        refine ⟨_, hexec, hreported _ hrouter, nofun, fun y hy => ?_⟩
        cases hy
        exact hlink
    · have hreview := State.formatReview_of_stopped hwork (hstopped.trans hstop)
      by_cases hlast : run.outstanding = 1
      · rw [if_pos (by rw [houtstanding, hlast])] at hreview
        obtain ⟨hlink, hrouter, hpower'⟩ :=
          h.replies (m := m) (ok := b) (run' := run') hwait .memoryFault (.formatIncomplete run'.written)
        rw [hreview] at hexec
        exact ⟨_, hexec, hreported _ hrouter, hpower', fun _ => hlink, fun hmore => by omega⟩
      · rw [if_neg (by omega)] at hreview
        rw [hreview] at hexec
        have htends := State.idle_tends_jobOver (t := u) (State.resting_of_nil (by simpa [hu] using hwait))
        have hlink : u.jobOver.link = u.link := htends.link
        refine ⟨_, hexec, hreported _ htends.router, ?_, fun h1 => absurd h1 hlast, fun _ => ⟨?_, ?_⟩⟩
        · exact htends.power.trans (by simp [hu, State.idle])
        · unfold State.work; rw [hlink]; exact hwork
        · rw [hlink, show u.link = _ from h.link]

end Sys2Proof.Machine
end

section
/-! PROOF. What a record change, a pending count, a hold and an entry's update leave (R37, R38, R40, R61): one rule for each. -/
namespace Sys2Proof.Machine
set_option Elab.async false
variable {s t u : State} {i j : Fin 128} {k : RecKey} {l : Fin 4} {d : Nat} {seq : Byte} {v : Verdict} {e : Entry}

/-! ## Slots and lookups -/

/-- What a lookup looks at of a slot. -/
def Slot.place (x : Slot) := (x.key, x.incoming, (x.state = .clean ∨ x.state = .dirty ∨ x.state = .writing), (x.state = .filling))

theorem Slot.has_congr {x y : Slot} (h : y.place = x.place) (k : RecKey) : y.has k = x.has k := by
  simp only [Slot.place, Prod.mk.injEq] at h
  obtain ⟨hkey, -, hstate, -⟩ := h
  unfold Slot.has
  rw [hkey, Bool.eq_iff_iff]
  simp only [Bool.and_eq_true, decide_eq_true_eq, Bool.or_eq_true, or_assoc, hstate]

theorem Slot.brings_congr {x y : Slot} (h : y.place = x.place) (k : RecKey) : y.brings k = x.brings k := by
  simp only [Slot.place, Prod.mk.injEq] at h
  obtain ⟨hkey, hincoming, -, hstate⟩ := h
  unfold Slot.brings
  rw [hkey, hincoming, Bool.eq_iff_iff]
  simp only [Bool.and_eq_true, decide_eq_true_eq, Bool.or_eq_true, hstate]

theorem State.find_of_place (h : ∀ i, (t.slot i).place = (s.slot i).place) (k : RecKey) : t.find k = s.find k :=
  State.find_congr (fun i => Slot.has_congr (h i)) (fun i => Slot.brings_congr (h i)) k

theorem State.find_hit (h : s.find k = .hit i) : (s.slot i).has k = true := by
  unfold State.find at h
  split at h
  · next j hj =>
    cases h
    exact List.find?_some (p := fun i => (s.slot i).has k) hj
  · split at h <;> cases h

/-- A record found is in a CLEAN, DIRTY or WRITING slot. -/
theorem State.state_of_hit (h : s.find k = .hit i) :
    (s.slot i).state = .clean ∨ (s.slot i).state = .dirty ∨ (s.slot i).state = .writing := by
  have hhas := State.find_hit h
  simp only [Slot.has, Bool.and_eq_true, Bool.or_eq_true, decide_eq_true_eq, or_assoc] at hhas
  exact hhas.2

/-! ## A record changed -/

/-- A slot whose record is changed at a time (R38). -/
def Slot.changed (x : Slot) (now : Nat) (r : Rec) : Slot :=
  { x with
    content := some r
    state := if x.state = .clean then .dirty else x.state
    dirtySince := if x.state = .clean then now else x.dirtySince
    emergencyFailed := if x.state = .clean then false else x.emergencyFailed
    dirtyAgain := if x.state = .writing then some (x.dirtyAgain.getD now) else x.dirtyAgain }

theorem State.slot_change (s : State) (i j : Fin 128) (r : Rec) :
    (s.change i r).slot j = if j = i then (s.slot i).changed s.clock.seconds r else s.slot j := by
  split
  · next h =>
    subst h
    rw [State.change_slot]
    unfold Slot.changed
    cases hx : (s.slot j).state <;> simp [State.now]
    all_goals rw [← hx]
  · next h => exact State.change_other s i j r h

theorem Slot.place_changed (x : Slot) (now : Nat) (r : Rec) : (x.changed now r).place = x.place := by
  unfold Slot.changed Slot.place
  cases x.state <;> simp

theorem State.find_change (s : State) (i : Fin 128) (r : Rec) (k : RecKey) : (s.change i r).find k = s.find k := by
  refine State.find_of_place (fun j => ?_) k
  rw [State.slot_change]
  split
  · next h => rw [h, Slot.place_changed]
  · rfl

/-- What `Slot.dirtied` looks at. -/
def Slot.record (x : Slot) := (x.content, x.state, x.dirtySince, x.dirtyAgain)

theorem Slot.dirtied_changed {x : Slot} (h : x.state = .clean ∨ x.state = .dirty ∨ x.state = .writing) (now : Nat) (r : Rec)
    (taken : Prop) : x.dirtied (x.changed now r) now taken r := by
  unfold Slot.changed
  rcases h with h | h | h <;> simp [Slot.dirtied, h]

theorem Slot.dirtied_congr {x x' y y' : Slot} {now : Nat} {p : Prop} {r : Rec} (h : x.dirtied y now p r)
    (hx : x'.record = x.record) (hy : y'.record = y.record) : x'.dirtied y' now p r := by
  simp only [Slot.record, Prod.mk.injEq] at hx hy
  obtain ⟨-, hxstate, hxsince, hxagain⟩ := hx
  obtain ⟨hycontent, hystate, hysince, hyagain⟩ := hy
  simpa only [Slot.dirtied, hxstate, hxsince, hxagain, hycontent, hystate, hysince, hyagain] using h

/-- A changed slot stays so when its write-back is queued or taken. -/
theorem Slot.dirtied_tended {x y z : Slot} {now : Nat} {p q : Prop} {r : Rec} (h : x.dirtied y now p r) (k : y.Tended z q)
    (hpq : p → q) : x.dirtied z now q r := by
  obtain ⟨hcontent, hwriting, hother⟩ := h
  obtain ⟨-, hcontent', -, -, hagain', hsince', -⟩ := k.kept
  refine ⟨hcontent'.trans hcontent, fun hx => ?_, fun hx => ?_⟩
  · obtain ⟨hstate, hsince, hagain⟩ := hwriting hx
    rw [k.eq_of_not_dirty (by rw [hstate]; nofun)]
    exact ⟨hstate, hsince, hagain⟩
  · obtain ⟨hstate, hagain, hsince⟩ := hother hx
    refine ⟨?_, hagain'.trans hagain, hsince'.trans hsince⟩
    rcases k.state with e | ⟨-, hq, e⟩
    · rw [e]; exact hstate.imp_right (And.imp_right hpq)
    · exact .inr ⟨e, hq⟩

/-! ## Pending commits -/

theorem State.modPending_of_hit {f : Nat → Nat} (h : s.find k = .hit i) :
    s.modPending k f = s.setSlot i { s.slot i with commitPending := f (s.slot i).commitPending } := by
  unfold State.modPending; rw [h]

theorem State.find_modPending (s : State) (k k' : RecKey) (f : Nat → Nat) : (s.modPending k f).find k' = s.find k' := by
  refine State.find_of_place (fun j => ?_) k'
  unfold State.modPending
  split
  · rw [State.slot_setSlot]
    split
    · next h => rw [h]; rfl
    · rfl
  · rfl

theorem State.slot_modPending {f : Nat → Nat} (h : s.find k = .hit i) (j : Fin 128) : (s.modPending k f).slot j =
    if j = i then { s.slot i with commitPending := f (s.slot i).commitPending } else s.slot j := by
  rw [State.modPending_of_hit h, State.slot_setSlot]

/-! ## Holds -/

theorem State.slot_prune (s : State) (l : Fin 4) (d : Nat) (keep : List RecKey) (i : Fin 128) :
    (s.prune l d keep).slot i = (s.slot i).prune l d keep := by
  simp [State.slot, State.prune]

theorem State.prune_holdsOnly (s : State) (l : Fin 4) (d : Nat) (keep : List RecKey) : (s.prune l d keep).holdsOnly l d keep := by
  intro i h hm hl hd
  rw [State.slot_prune] at hm
  have := (List.mem_filter.mp hm).2
  simpa [hl, hd] using this

theorem State.holdsOnly_congr {keys : List RecKey} (h : s.holdsOnly l d keys) (e : ∀ i, (t.slot i).holds = (s.slot i).holds) :
    t.holdsOnly l d keys := fun i x hx => h i x (by rw [← e]; exact hx)

theorem State.Tends.holds (h : s.Tends t) (i : Fin 128) : (t.slot i).holds = (s.slot i).holds := by
  obtain ⟨-, -, -, -, -, -, hholds, -⟩ := (h.slots i).kept
  exact hholds

/-! ## Entries -/

theorem State.isAt_of_entryAt (h : s.entryAt l d = some e) : e.line = l ∧ e.drop = d := by
  have := List.find?_some h
  simpa [Entry.isAt] using this

theorem State.entryAt_congr (h : t.entries = s.entries) (l : Fin 4) (d : Nat) : t.entryAt l d = s.entryAt l d := by
  unfold State.entryAt; rw [h]

theorem State.entryAt_modEntry {f : Entry → Entry} (hf : ∀ e, (f e).line = e.line ∧ (f e).drop = e.drop)
    (s : State) (l : Fin 4) (d : Nat) : (s.modEntry l d f).entryAt l d = (s.entryAt l d).map f := by
  have hat (e : Entry) : (f e).isAt l d = e.isAt l d := by simp [Entry.isAt, hf]
  unfold State.entryAt State.modEntry
  rw [List.find?_map]
  have hsame : (fun e => e.isAt l d) ∘ (fun e => if e.isAt l d = true then f e else e) = fun e : Entry => e.isAt l d := by
    funext e
    by_cases h : e.isAt l d = true <;> simp [h, hat]
  rw [hsame]
  cases h : s.entries.find? fun e => e.isAt l d with
  | none => rfl
  | some e =>
    have := List.find?_some h
    simp only [Option.map_some, this, if_true]

/-- An entry with a verdict become outgoing at a time (R61). -/
def Entry.told (e : Entry) (now : Nat) (seq : Byte) (v : Verdict) : Entry :=
  { e with outgoing := some { seq := seq, verdict := v, deliveries := 0, expiry := laterBy now (verdictLife e.kind) } }

theorem Entry.told_outgoingSince (e : Entry) (now : Nat) (seq : Byte) (v : Verdict) : (e.told now seq v).outgoingSince now seq v := by
  unfold Entry.outgoingSince Entry.told
  cases e.kind <;> rfl

theorem State.entryAt_makeOutgoing (h : s.entryAt l d = some e) (seq : Byte) (v : Verdict) :
    (s.makeOutgoing l d seq v).entryAt l d = some (e.told s.clock.seconds seq v) := by
  unfold State.makeOutgoing
  rw [h]
  refine (State.entryAt_congr rfl l d).trans ((State.entryAt_modEntry (by simp) s l d).trans ?_)
  rw [h]; rfl

/-- An entry whose offer is DECIDED with a verdict (R56, R61). -/
def Entry.decided (e : Entry) (now : Nat) (seq : Byte) (v : Verdict) : Entry :=
  { e with disposition := .decided, remembered := some v }.told now seq v

theorem Entry.decided_decidedAs (e : Entry) (now : Nat) (seq : Byte) (v : Verdict) : (e.decided now seq v).decidedAs now seq v :=
  ⟨rfl, rfl, Entry.told_outgoingSince _ now seq v⟩

theorem State.entryAt_giveFinal (h : s.entryAt l d = some e) (seq : Byte) (v : Verdict) :
    (s.giveFinal l d seq v).entryAt l d = some (e.decided s.clock.seconds seq v) := by
  refine State.entryAt_makeOutgoing (s := (s.modEntry l d _).prune l d []) ?_ seq v
  exact (State.entryAt_congr rfl l d).trans ((State.entryAt_modEntry (by simp) s l d).trans (by rw [h]; rfl))

theorem State.giveFinal_cache (s : State) (l : Fin 4) (d : Nat) (seq : Byte) (v : Verdict) :
    (s.giveFinal l d seq v).cache = (s.prune l d []).cache := by
  unfold State.giveFinal; rw [State.makeOutgoing_cache]; rfl

theorem State.slot_giveFinal (s : State) (l : Fin 4) (d : Nat) (seq : Byte) (v : Verdict) (i : Fin 128) :
    (s.giveFinal l d seq v).slot i = (s.slot i).prune l d [] := by
  rw [State.slot, State.giveFinal_cache]; exact s.slot_prune l d [] i

theorem State.giveFinal_holdsOnly (s : State) (l : Fin 4) (d : Nat) (seq : Byte) (v : Verdict) :
    (s.giveFinal l d seq v).holdsOnly l d [] :=
  State.holdsOnly_congr (s.prune_holdsOnly l d []) fun i => by rw [State.slot_giveFinal, State.slot_prune]

/-! ## Notices -/

theorem NoticeQueue.mem_push {q : NoticeQueue} {now : Nat} {b : NoticeBody} {x : Notice} (h : x ∈ (q.push now b).items) :
    x ∈ q.items ∨ x.body = b := by
  unfold NoticeQueue.push at h
  split at h
  · exact (List.mem_append.mp h).imp_right fun hx => by rw [List.mem_singleton.mp hx]
  · exact .inl h

/-- A notice that the router gives when a condition begins (R176, R184). -/
def NoticeBody.ofRouter : NoticeBody → Bool
  | .faultRaised .. | .standaloneEntered .. => true
  | _ => false

theorem NoticeQueue.mem_ofBegun {q : NoticeQueue} {now : Nat} {b : Begun} {plan : FaultPlan} {standalone : Bool} {x : Notice}
    (h : x ∈ (q.ofBegun now b plan standalone).items) : x ∈ q.items ∨ x.body.ofRouter = true := by
  have hpush {q : NoticeQueue} {b : NoticeBody} (hb : b.ofRouter = true) (h : x ∈ (q.push now b).items) :
      x ∈ q.items ∨ x.body.ofRouter = true := (NoticeQueue.mem_push h).imp_right fun e => by rw [e]; exact hb
  unfold NoticeQueue.ofBegun at h
  extract_lets r at h
  have hr (h : x ∈ r.items) : x ∈ q.items ∨ x.body.ofRouter = true := by
    unfold r at h
    split at h
    · exact hpush rfl h
    · exact .inl h
  clear_value r
  split at h
  · exact (hpush rfl h).elim hr .inr
  · exact hr h

theorem State.noticed_of_beginCondition {src : FaultSource} {b : NoticeBody} (hline : src.asksNoLine) (hb : b.ofRouter = false)
    (h : (s.beginCondition src).noticed b) : s.noticed b := by
  by_cases hp : (s.router.entry src).present = true
  · rwa [State.beginCondition_of_present hp] at h
  obtain ⟨x, hx, rfl⟩ := h
  by_cases hread : s.startUp.phase = .readingConfig
  · rw [State.beginCondition_of_readingConfig hread rfl (Bool.eq_false_iff.mpr hp)] at hx
    exact ⟨x, hx, rfl⟩
  · rw [(State.began_beginCondition hread (Bool.eq_false_iff.mpr hp) hline).acted.notices] at hx
    refine ⟨x, (NoticeQueue.mem_ofBegun hx).resolve_right ?_, rfl⟩
    rw [hb]; nofun

theorem State.noticed_of_setCondition {src : FaultSource} {b : NoticeBody} {p : Bool} (hline : src.asksNoLine)
    (hb : b.ofRouter = false) (h : (s.setCondition src p).noticed b) : s.noticed b := by
  cases p with
  | true => exact State.noticed_of_beginCondition hline hb h
  | false => exact h

theorem State.noticed_of_report {ok : Bool} {b : NoticeBody} (hb : b.ofRouter = false) (h : (s.report ok).noticed b) : s.noticed b := by
  cases hs : s.port.silent with
  | true => rwa [State.report_of_silent hs] at h
  | false =>
    rw [State.report_eq hs] at h
    exact State.noticed_of_setCondition (s := s.endCondition .memSilent) (by simp [FaultSource.asksNoLine]) hb h

theorem State.noticed_of_journalReview {b : NoticeBody} (hb : b.ofRouter = false) (h : s.journalReview.noticed b) : s.noticed b :=
  State.noticed_of_setCondition (by simp [FaultSource.asksNoLine]) hb
    (State.noticed_of_setCondition (by simp [FaultSource.asksNoLine]) hb h)

/-! ## The untaken count judged -/

theorem State.journalReview_entry (s : State) {src : FaultSource} (hhigh : src ≠ .journalHigh) (hfull : src ≠ .journalFull) :
    s.journalReview.router.entry src = s.router.entry src := by
  unfold State.journalReview
  rw [State.setCondition_entry, if_neg hfull, State.setCondition_entry, if_neg hhigh]

theorem State.journalReview_judges (s : State) : s.journalJudged s.journalReview s.journal.untaken := by
  unfold State.journalReview
  constructor
  · rw [State.setCondition_entry, if_neg (by decide), State.setCondition_entry, if_pos rfl]
  · rw [State.setCondition_entry, if_pos rfl, State.setCondition_entry, if_neg (by decide)]

/-! ## A job's end -/

/-- With no census read waiting, a job's end leaves the order of the slots' use. -/
theorem State.jobOver_recency (hwait : t.port.waiting = []) (hno : ∀ k, .censusRead k ∉ t.port.queue) :
    t.jobOver.cache.recency = t.cache.recency := by
  have harranges : t.idle.Arranges (t.idle.pump.settle true) :=
    (State.Arranges.refl t.idle).pump.settle ((State.pump_waiting _).trans hwait)
  have hrun : State.censusRun 2048 (t.idle.pump.settle true) = t.idle.pump.settle true := by
    rw [State.censusRun]
    split
    · next k _ hbest =>
      rcases harranges.new _ (State.bestJob_mem hbest) with h | h | ⟨i, h⟩
      · exact absurd h (hno k)
      · cases h
      · cases h
    · rfl
  refine (congrArg (·.cache.recency) hrun).trans ?_
  exact harranges.recency

end Sys2Proof.Machine
end

section
/-! PROOF. The end of a commit (O47). -/
namespace Sys2Proof.Machine
set_option Elab.async false
variable {s t u w : State} {c : CommitEntry} {rest : List CommitEntry} {i j : Fin 128} {g : Guest} {f : Folio}
  {posting marks : WriteResult} {m : Memory} {ok : Bool}

/-! ## What telling the till changes -/

/-- What stays when a till is told how its sale ended (R130). -/
def State.untold (s : State) :=
  (s.mem, s.router, s.clock, s.port, s.power, s.journal, s.cache.recency)

/-- The till has been told: records, their slots' states and the counts of pending commits are as they were. -/
structure State.Tells (w u : State) : Prop where
  same : u.untold = w.untold
  slots : ∀ i, (u.slot i).record = (w.slot i).record ∧ (u.slot i).commitPending = (w.slot i).commitPending

theorem State.Tells.refl (w : State) : w.Tells w := ⟨rfl, fun _ => ⟨rfl, rfl⟩⟩

theorem State.tells_giveFinal (w : State) (l : Fin 4) (d : Nat) (seq : Byte) (v : Verdict) : w.Tells (w.giveFinal l d seq v) := by
  refine ⟨?_, fun i => ?_⟩
  · simp [State.untold, State.giveFinal_cache, State.prune]
  · rw [State.slot_giveFinal]; exact ⟨rfl, rfl⟩

theorem State.tells_settleAccepted (w : State) (c : CommitEntry) : w.Tells (w.settleAccepted c) := by
  unfold State.settleAccepted
  split
  · exact ⟨rfl, fun _ => ⟨rfl, rfl⟩⟩
  · exact ⟨rfl, fun _ => ⟨rfl, rfl⟩⟩
  · split
    · exact .refl w
    · split
      · refine ⟨by simp [State.untold, State.rememberAs], fun i => ?_⟩
        rw [State.slot, State.makeOutgoing_cache]
        exact ⟨rfl, rfl⟩
      · exact w.tells_giveFinal _ _ _ _

theorem State.tells_settleFailed (w : State) (c : CommitEntry) : w.Tells (w.settleFailed c) := by
  unfold State.settleFailed
  split
  · exact .refl w
  · exact .refl w
  · split
    · exact .refl w
    · split <;> exact w.tells_giveFinal _ _ _ _

/-! ## What the till is told -/

theorem CommitEntry.accepted_eq (c : CommitEntry) : c.accepted =
    { kind := .accept, reason := .none, result := .accept c.total c.covered c.remaining c.flags c.serial } := rfl

/-- The entry after an accepted sale (R60, R130). -/
theorem State.settleAccepted_current {e : Entry} (hc : c.reader = .current) (he : w.entryAt c.line c.drop = some e) :
    (w.settleAccepted c).entryAt c.line c.drop = some
        (if e.disposition = .cancelAsked then
          ({ e with disposition := .decided, remembered := some c.accepted } : Entry).told w.clock.seconds c.seq
            { kind := .tooLate, reason := .none, result := .late (some c.serial) }
        else e.decided w.clock.seconds c.seq c.accepted)
    ∧ (e.disposition ≠ .cancelAsked → (w.settleAccepted c).holdsOnly c.line c.drop []) := by
  simp only [State.settleAccepted, hc, he]
  split
  · next h =>
    refine ⟨State.entryAt_makeOutgoing (s := w.rememberAs c.line c.drop c.accepted) ?_ _ _, fun hno => absurd h hno⟩
    exact (State.entryAt_modEntry (by simp) w c.line c.drop).trans (by rw [he]; rfl)
  · exact ⟨State.entryAt_giveFinal he _ _, fun _ => w.giveFinal_holdsOnly _ _ _ _⟩

/-- The entry after a failed sale (R60, R130). -/
theorem State.settleFailed_current {e : Entry} (hc : c.reader = .current) (he : w.entryAt c.line c.drop = some e) :
    (w.settleFailed c).entryAt c.line c.drop = some (e.decided w.clock.seconds c.seq
        (if e.disposition = .cancelAsked then { kind := .cancelled, reason := .none, result := .none }
        else { kind := .refuse, reason := .recordFault, result := .lineIndex 0 }))
    ∧ (w.settleFailed c).holdsOnly c.line c.drop [] := by
  simp only [State.settleFailed, hc, he]
  split
  · exact ⟨State.entryAt_giveFinal he _ _, w.giveFinal_holdsOnly _ _ _ _⟩
  · exact ⟨State.entryAt_giveFinal he _ _, w.giveFinal_holdsOnly _ _ _ _⟩

/-- No entry is told of a sale whose offer is no longer its reader's (R57, R65). -/
theorem State.settleAccepted_entries (hc : c.reader ≠ .current) : (w.settleAccepted c).entries = w.entries := by
  unfold State.settleAccepted
  split
  · rfl
  · rfl
  · next h => exact absurd h hc

theorem State.settleFailed_of_not_current (hc : c.reader ≠ .current) : w.settleFailed c = w := by
  unfold State.settleFailed
  split
  · rfl
  · rfl
  · next h => exact absurd h hc

/-! ## The two blocks (R127) -/

/-- A commit in progress, both its records cached, and nothing that waits for a place. -/
structure State.EndsCommit (s : State) (c : CommitEntry) (rest : List CommitEntry) (i j : Fin 128) (g : Guest) (f : Folio) : Prop where
  awake : s.inReset = false
  wf : s.mem.wf = true
  waiting : s.port.waiting = []
  queued : rest.all (·.queued) = true
  job : s.port.job = some .commit
  commits : s.journal.commits = c :: rest
  guest : s.find (.guest c.guest) = .hit i
  guestContent : (s.slot i).content = some (.guest g)
  folio : s.find (.folio c.folio) = .hit j
  folioContent : (s.slot j).content = some (.folio f)

theorem State.EndsCommit.ne (h : s.EndsCommit c rest i j g f) : j ≠ i := by
  rintro rfl
  have := h.guestContent.symm.trans h.folioContent
  cases this

theorem State.EndsCommit.exec (h : s.EndsCommit c rest i j g f) (posting marks : WriteResult) : exec (.commit posting marks) s =
    let u := { s with mem := (s.commitBlocks posting marks).1 }.report (s.commitBlocks posting marks).2
    .next (if (s.commitBlocks posting marks).2 = true then u.commitDone c rest else u.commitFailed c rest).jobOver := by
  show execCommit posting marks s = _
  refine (State.awake_of_awake h.awake _).trans (congrArg _ ?_)
  rw [h.job, h.commits]

theorem Memory.readBlock_congr {m m' : Memory} {a n : Nat} (h : ∀ b, a ≤ b → b < a + n → m.read b = m'.read b) :
    m.readBlock a n = m'.readBlock a n :=
  List.map_congr_left fun _ hx => h _ (Nat.le_add_right _ _) (Nat.add_lt_add_left (List.mem_range.mp hx) _)

/-- What memory is left by the two halves of a commit. -/
structure State.Commits (s : State) (c : CommitEntry) (posting marks : WriteResult) (m : Memory) (ok : Bool) : Prop where
  passes : ok = true ↔ posting = .good ∧ marks = .good ∧ s.port.silent = false
  posted : posting = .good → s.port.silent = false →
    m.readBlock (journalAddress c.serial) s.port.data.length = s.port.data
  kept : posting = .differs ∨ s.port.silent = true → m = s.mem
  marked : ok = true → m.readBlock ConfBlock.journalMarks.address 10 = sealBlock (marksBytes s.journal.head (c.serial + 1))
  unmarked : ok ≠ true → m.readBlock ConfBlock.journalMarks.address 10 = s.mem.readBlock ConfBlock.journalMarks.address 10
  other : ∀ a, ¬(journalAddress c.serial ≤ a ∧ a < journalAddress c.serial + s.port.data.length) →
    ¬(ConfBlock.journalMarks.address ≤ a ∧ a < ConfBlock.journalMarks.address + 10) → m.read a = s.mem.read a

theorem State.EndsCommit.commits_commitBlocks (h : s.EndsCommit c rest i j g f) (posting marks : WriteResult) :
    s.Commits c posting marks (s.commitBlocks posting marks).1 (s.commitBlocks posting marks).2 := by
  have haddress : s.jobAddress = some (journalAddress c.serial) := by simp [State.jobAddress, h.job, h.commits]
  have hmarks : s.commitMarks = sealBlock (marksBytes s.journal.head (c.serial + 1)) := by simp [State.commitMarks, h.commits]
  have hlength : s.commitMarks.length = 10 := by rw [hmarks, sealBlock_length]; simp [marksBytes, be_length]
  have hbelow : ConfBlock.journalMarks.address + 10 ≤ journalAddress c.serial :=
    Nat.le_trans (by decide : ConfBlock.journalMarks.address + 10 ≤ 180224) (Nat.le_add_right _ _)
  unfold State.commitBlocks
  rcases State.writeBlocked_cases haddress posting with ⟨⟨hgood, hs⟩, e⟩ | ⟨hno, e⟩
  · rw [e]
    dsimp only
    set m := s.mem.writeBlock (journalAddress c.serial) s.port.data with hm
    have hwf : m.wf = true := Memory.wf_writeBlock _ _ _ h.wf
    have hout (b : Nat) (hb : b < journalAddress c.serial ∨ journalAddress c.serial + s.port.data.length ≤ b) :
        m.read b = s.mem.read b := Memory.read_writeBlock_of_outside _ _ _ _ h.wf hb
    obtain ⟨-, hother, hpass, hfail, hiff⟩ := Memory.writeChecked_spec m ConfBlock.journalMarks.address s.commitMarks marks hwf
    rw [hlength] at hother hpass
    refine ⟨?_, fun _ _ => ?_, fun hbad => ?_, fun hok => (hpass hok).trans hmarks, fun hok => ?_, fun a ha hb => ?_⟩
    · rw [hiff]; exact ⟨fun hg => ⟨hgood, hg, hs⟩, fun hp => hp.2.1⟩
    · refine (Memory.readBlock_congr fun b hb _ => hother b (.inr (hbelow.trans hb))).trans ?_
      exact Memory.readBlock_writeBlock _ _ _ h.wf
    · rcases hbad with hbad | hbad
      · rw [hgood] at hbad; cases hbad
      · rw [hs] at hbad; cases hbad
    · rw [hfail (Bool.eq_false_iff.mpr hok)]
      exact Memory.readBlock_congr fun b _ hb => hout b (.inl (Nat.lt_of_lt_of_le hb hbelow))
    · exact (hother a (by omega)).trans (hout a (by omega))
  · rw [e]
    refine ⟨⟨nofun, fun hp => absurd ⟨hp.1, hp.2.2⟩ hno⟩, fun hg hs => absurd ⟨hg, hs⟩ hno, fun _ => rfl, nofun, fun _ => rfl,
      fun _ _ _ => rfl⟩

/-! ## The slots of the sale's records -/

/-- The records of a commit stand in their slots, whatever else is changed. -/
structure State.HasSale (s : State) (c : CommitEntry) (i j : Fin 128) (g : Guest) (f : Folio) : Prop where
  guest : s.find (.guest c.guest) = .hit i
  guestContent : (s.slot i).content = some (.guest g)
  folio : s.find (.folio c.folio) = .hit j
  folioContent : (s.slot j).content = some (.folio f)
  ne : j ≠ i

/-- A slot with one pending commit fewer. -/
def Slot.released (x : Slot) : Slot := { x with commitPending := x.commitPending - 1 }

theorem State.HasSale.releasePending_eq (h : s.HasSale c i j g f) : s.releasePending c =
    (s.setSlot i (s.slot i).released).setSlot j (s.slot j).released := by
  unfold State.releasePending
  rw [State.modPending_of_hit (i := j) (by rw [State.find_modPending]; exact h.folio), State.slot_modPending h.guest, if_neg h.ne,
    State.modPending_of_hit h.guest]
  rfl

theorem State.HasSale.slot_releasePending (h : s.HasSale c i j g f) (l : Fin 128) : (s.releasePending c).slot l =
    if l = j then (s.slot j).released else if l = i then (s.slot i).released else s.slot l := by
  rw [h.releasePending_eq, State.slot_setSlot, State.slot_setSlot]

theorem State.HasSale.changeFolio_eq (h : s.HasSale c i j g f) (z : Folio → Folio) :
    s.changeFolio c.folio z = s.change j (.folio (z f)) := by
  simp only [State.changeFolio, h.folio, h.folioContent]

theorem State.HasSale.changeGuest_eq (h : s.HasSale c i j g f) (z : Guest → Guest) :
    s.changeGuest c.guest z = s.change i (.guest (z g)) := by
  simp only [State.changeGuest, h.guest, h.guestContent]

theorem State.HasSale.congr (h : s.HasSale c i j g f) (hfind : ∀ k, t.find k = s.find k) {g' : Guest} {f' : Folio}
    (hg : (t.slot i).content = some (.guest g')) (hf : (t.slot j).content = some (.folio f')) : t.HasSale c i j g' f' :=
  ⟨by rw [hfind]; exact h.guest, hg, by rw [hfind]; exact h.folio, hf, h.ne⟩

theorem State.HasSale.releasePending (h : s.HasSale c i j g f) : (s.releasePending c).HasSale c i j g f := by
  refine h.congr (fun k => ?_) ?_ ?_
  · unfold State.releasePending; rw [State.find_modPending, State.find_modPending]
  · rw [h.slot_releasePending, if_neg h.ne.symm, if_pos rfl]; exact h.guestContent
  · rw [h.slot_releasePending, if_pos rfl]; exact h.folioContent

theorem State.HasSale.change_folio (h : s.HasSale c i j g f) (f' : Folio) : (s.change j (.folio f')).HasSale c i j g f' := by
  refine h.congr (fun k => State.find_change s j _ k) ?_ ?_
  · rw [State.slot_change, if_neg h.ne.symm]; exact h.guestContent
  · rw [State.slot_change, if_pos rfl]; rfl

theorem State.HasSale.change_guest (h : s.HasSale c i j g f) (g' : Guest) : (s.change i (.guest g')).HasSale c i j g' f := by
  refine h.congr (fun k => State.find_change s i _ k) ?_ ?_
  · rw [State.slot_change, if_pos rfl]; rfl
  · rw [State.slot_change, if_neg h.ne]; exact h.folioContent

/-! ## What a commit's end leaves of the slots -/

/-- The state in which a commit's outcome is acted on: the port has reported, and the journal is the one given. -/
def State.judged (s : State) (m : Memory) (ok : Bool) (journal : Journal) : State :=
  { { s with mem := m }.report ok with journal := journal }

variable {jr : Journal}

theorem State.judged_slot (s : State) (l : Fin 128) : (s.judged m ok jr).slot l = s.slot l :=
  ({ s with mem := m } : State).report_slot ok l

theorem State.EndsCommit.hasSale (h : s.EndsCommit c rest i j g f) : (s.judged m ok jr).HasSale c i j g f := by
  have hs : s.HasSale c i j g f := ⟨h.guest, h.guestContent, h.folio, h.folioContent, h.ne⟩
  refine hs.congr (State.find_of_place fun l => by rw [State.judged_slot]) ?_ ?_
  · rw [State.judged_slot]; exact h.guestContent
  · rw [State.judged_slot]; exact h.folioContent

/-- What the end of a commit leaves, whatever came of it, before the port takes its next job. -/
structure State.CommitLeaves (s u : State) (m : Memory) (ok : Bool) (jr : Journal) (i j : Fin 128) : Prop where
  mem : u.mem = m
  reported : ∀ src, src ≠ .journalHigh → src ≠ .journalFull →
    u.router.entry src = ({ s with mem := m }.report ok).router.entry src
  port : u.port = s.port
  clock : u.clock = s.clock
  journal : u.journal = jr
  pendingGuest : (u.slot i).commitPending = (s.slot i).commitPending - 1
  pendingFolio : (u.slot j).commitPending = (s.slot j).commitPending - 1

theorem State.CommitLeaves.tells (h : s.CommitLeaves w m ok jr i j) (k : w.Tells u) : s.CommitLeaves u m ok jr i j := by
  obtain ⟨hsame, hslots⟩ := k
  simp only [State.untold, Prod.mk.injEq] at hsame
  obtain ⟨hmem, hrouter, hclock, hport, -, hjournal, -⟩ := hsame
  exact ⟨hmem.trans h.mem, fun src hh hf => by rw [hrouter]; exact h.reported src hh hf, hport.trans h.port,
    hclock.trans h.clock, hjournal.trans h.journal, (hslots i).2.trans h.pendingGuest, (hslots j).2.trans h.pendingFolio⟩

/-- A slot whose record is changed keeps its count of pending commits, and one that loses a pending commit its record. -/
theorem Slot.commitPending_changed (x : Slot) (now : Nat) (r : Rec) : (x.changed now r).commitPending = x.commitPending := rfl
theorem Slot.record_released (x : Slot) : x.released.record = x.record := rfl

/-- An accepted sale's records and counts, before its till is told. -/
def State.accepting (s : State) (c : CommitEntry) (j : Fin 128) (f : Folio) (m : Memory) (ok : Bool) (jr : Journal) : State :=
  ((s.judged m ok jr).releasePending c).change j (.folio { f with lastSerial := some c.serial })

theorem State.EndsCommit.commitDone_eq (h : s.EndsCommit c rest i j g f) :
    ({ s with mem := m }.report ok).commitDone c rest =
      (s.accepting c j f m ok { s.journal with tail := c.serial + 1, commits := rest }).settleAccepted c := by
  have hjudged : { { s with mem := m }.report ok with
      journal := { ({ s with mem := m }.report ok).journal with tail := c.serial + 1, commits := rest } } =
      s.judged m ok { s.journal with tail := c.serial + 1, commits := rest } := by simp [State.judged]
  unfold State.commitDone
  dsimp only
  rw [hjudged, h.hasSale.releasePending.changeFolio_eq]
  rfl

theorem State.EndsCommit.slot_accepting (h : s.EndsCommit c rest i j g f) (l : Fin 128) : (s.accepting c j f m ok jr).slot l =
    if l = j then (s.slot j).released.changed s.clock.seconds (.folio { f with lastSerial := some c.serial })
    else if l = i then (s.slot i).released else s.slot l := by
  have hclock : ((s.judged m ok jr).releasePending c).clock = s.clock := by simp [State.releasePending, State.judged]
  unfold State.accepting
  rw [State.slot_change, h.hasSale.slot_releasePending, h.hasSale.slot_releasePending, hclock]
  simp only [State.judged_slot, if_true]
  split <;> rfl

theorem State.EndsCommit.leaves_accepting (h : s.EndsCommit c rest i j g f) :
    s.CommitLeaves (s.accepting c j f m ok jr) m ok jr i j where
  mem := by simp [State.accepting, State.releasePending, State.judged]
  reported _ _ _ := by simp [State.accepting, State.releasePending, State.judged]
  port := by simp [State.accepting, State.releasePending, State.judged]
  clock := by simp [State.accepting, State.releasePending, State.judged]
  journal := by simp [State.accepting, State.releasePending, State.judged]
  pendingGuest := by rw [h.slot_accepting, if_neg h.ne.symm, if_pos rfl]; rfl
  pendingFolio := by rw [h.slot_accepting, if_pos rfl]; rfl

/-- A reversed sale's records and counts, before its till is told (R129). -/
def State.reversing (s : State) (c : CommitEntry) (i j : Fin 128) (g : Guest) (f : Folio) (m : Memory) (ok : Bool) (jr : Journal) :
    State :=
  (((s.judged m ok jr).change j (.folio (f.reversed c.total))).change i (.guest (g.reversed c.day c.covered))).releasePending c

theorem State.EndsCommit.commitFailed_eq (h : s.EndsCommit c rest i j g f) :
    ({ s with mem := m }.report ok).commitFailed c rest =
      ((s.reversing c i j g f m ok
        { s.journal with
          next := s.journal.next - 1, commits := rest.map fun d => { d with serial := d.serial - 1 } }).settleFailed c).journalReview := by
  have hjudged : { { s with mem := m }.report ok with
      journal := { ({ s with mem := m }.report ok).journal with
        next := ({ s with mem := m }.report ok).journal.next - 1
        commits := rest.map fun (d : CommitEntry) => { d with serial := d.serial - 1 } } } =
      s.judged m ok { s.journal with
        next := s.journal.next - 1, commits := rest.map fun d => { d with serial := d.serial - 1 } } := by simp [State.judged]
  unfold State.commitFailed
  dsimp only
  rw [hjudged, h.hasSale.changeFolio_eq, (h.hasSale.change_folio _).changeGuest_eq]
  rfl

theorem State.EndsCommit.slot_reversing (h : s.EndsCommit c rest i j g f) (l : Fin 128) : (s.reversing c i j g f m ok jr).slot l =
    if l = j then ((s.slot j).changed s.clock.seconds (.folio (f.reversed c.total))).released
    else if l = i then ((s.slot i).changed s.clock.seconds (.guest (g.reversed c.day c.covered))).released
    else s.slot l := by
  have hclock : (s.judged m ok jr).clock = s.clock := by simp [State.judged]
  unfold State.reversing
  rw [((h.hasSale.change_folio _).change_guest _).slot_releasePending]
  simp only [State.slot_change, State.judged_slot, hclock, State.change_clock, h.ne, h.ne.symm, if_false, if_true]
  split
  · rfl
  · split <;> rfl

theorem State.EndsCommit.leaves_reversing (h : s.EndsCommit c rest i j g f) :
    s.CommitLeaves (s.reversing c i j g f m ok jr) m ok jr i j where
  mem := by simp [State.reversing, State.releasePending, State.judged]
  reported _ _ _ := by simp [State.reversing, State.releasePending, State.judged]
  port := by simp [State.reversing, State.releasePending, State.judged]
  clock := by simp [State.reversing, State.releasePending, State.judged]
  journal := by simp [State.reversing, State.releasePending, State.judged]
  pendingGuest := by rw [h.slot_reversing, if_neg h.ne.symm, if_pos rfl]; rfl
  pendingFolio := by rw [h.slot_reversing, if_pos rfl]; rfl

theorem State.CommitLeaves.journalReview (h : s.CommitLeaves u m ok jr i j) : s.CommitLeaves u.journalReview m ok jr i j where
  mem := by simpa using h.mem
  reported src hh hf := by rw [State.journalReview_entry _ hh hf]; exact h.reported src hh hf
  port := by simpa using h.port
  clock := by simpa using h.clock
  journal := by simpa using h.journal
  pendingGuest := by rw [State.slot, State.journalReview_cache]; exact h.pendingGuest
  pendingFolio := by rw [State.slot, State.journalReview_cache]; exact h.pendingFolio

/-! ## The job's end -/

/-- A changed slot is so when the job is over. -/
theorem State.dirtied_jobOver {l : Fin 128} {y : Slot} {r : Rec} (hrest : u.resting)
    (hstate : (s.slot l).state = .clean ∨ (s.slot l).state = .dirty ∨ (s.slot l).state = .writing)
    (hold : y.record = (s.slot l).record) (hnew : (u.slot l).record = (y.changed s.clock.seconds r).record) :
    s.dirtied u.jobOver l r := by
  have hy : y.state = (s.slot l).state := congrArg (·.2.1) hold
  have hdirtied := Slot.dirtied_changed (x := y) (by rw [hy]; exact hstate) s.clock.seconds r
    (u.jobOver.port.job = some (.writeBack l))
  exact Slot.dirtied_tended (Slot.dirtied_congr hdirtied hold.symm hnew) ((State.idle_tends_jobOver hrest).slots l) id

theorem State.EndsCommit.dirtied_folio (h : s.EndsCommit c rest i j g f) {y : Slot} {r : Rec} (hrest : u.resting)
    (hold : y.record = (s.slot j).record) (hnew : (u.slot j).record = (y.changed s.clock.seconds r).record) :
    s.dirtied u.jobOver j r := State.dirtied_jobOver hrest (State.state_of_hit h.folio) hold hnew

theorem State.EndsCommit.dirtied_guest (h : s.EndsCommit c rest i j g f) {y : Slot} {r : Rec} (hrest : u.resting)
    (hold : y.record = (s.slot i).record) (hnew : (u.slot i).record = (y.changed s.clock.seconds r).record) :
    s.dirtied u.jobOver i r := State.dirtied_jobOver hrest (State.state_of_hit h.guest) hold hnew

/-- What a commit's end leaves, whatever came of it. -/
structure State.CommitEnds (s t : State) (m : Memory) (ok : Bool) (i j : Fin 128) : Prop where
  mem : t.mem = m
  memCheck : s.port.silent = false → (t.router.entry .memCheck).present = !ok
  stay : s.port.silent = true → s.memoryConditionsStay t
  pendingGuest : (t.slot i).commitPending = (s.slot i).commitPending - 1
  pendingFolio : (t.slot j).commitPending = (s.slot j).commitPending - 1

theorem State.CommitLeaves.ends (h : s.CommitLeaves u m ok jr i j) (hrest : u.resting) : s.CommitEnds u.jobOver m ok i j := by
  have htends := State.idle_tends_jobOver hrest
  have hentry {src : FaultSource} (hh : src ≠ .journalHigh) (hf : src ≠ .journalFull) :
      u.jobOver.router.entry src = ({ s with mem := m }.report ok).router.entry src := by
    rw [htends.router]; exact h.reported src hh hf
  have hpending (l : Fin 128) : (u.jobOver.slot l).commitPending = (u.slot l).commitPending := by
    obtain ⟨-, -, -, -, -, -, -, hp, -⟩ := (htends.slots l).kept
    exact hp
  refine ⟨htends.mem.trans h.mem, fun hs => ?_, fun hs => ?_, (hpending i).trans h.pendingGuest, (hpending j).trans h.pendingFolio⟩
  · rw [hentry (by decide) (by decide)]; exact State.report_memCheck (s := { s with mem := m }) hs ok
  · have hsame := State.report_of_silent (s := { s with mem := m }) hs ok
    constructor
    · rw [hentry (by decide) (by decide), hsame]
    · rw [hentry (by decide) (by decide), hsame]

theorem State.CommitLeaves.resting (h : s.CommitLeaves u m ok jr i j) (hwait : s.port.waiting = []) : u.resting :=
  State.resting_of_nil (by rw [h.port]; exact hwait)

theorem State.CommitLeaves.recency (h : s.CommitLeaves u m ok jr i j) (hwait : s.port.waiting = [])
    (hno : ∀ k, .censusRead k ∉ s.port.queue) : u.jobOver.cache.recency = u.cache.recency :=
  State.jobOver_recency (by rw [h.port]; exact hwait) (by rw [h.port]; exact hno)

theorem State.Tells.recency (h : w.Tells u) : u.cache.recency = w.cache.recency := congrArg (·.2.2.2.2.2.2) h.same
theorem State.Tells.router (h : w.Tells u) : u.router = w.router := congrArg (·.2.1) h.same

/-- VERDICT_UNDELIVERED of an accepted sale (R57, R65, R130). -/
def CommitEntry.undelivered (c : CommitEntry) (cause : UndeliveredCause) : NoticeBody :=
  .verdictUndelivered c.line c.drop c.readerSerial c.seq .accept .none (some c.serial) 0 cause

/-! ### An accepted sale -/

/-- What the end of an accepted commit leaves. -/
structure State.SaleAccepted (s t : State) (c : CommitEntry) (rest : List CommitEntry) (i j : Fin 128) (g : Guest) (f : Folio) :
    Prop where
  journal : t.journal.head = s.journal.head ∧ t.journal.tail = c.serial + 1 ∧ t.journal.next = s.journal.next
    ∧ t.journal.commits = rest
  folio : s.dirtied t j (.folio { f with lastSerial := some c.serial })
  recency : (∀ k, .censusRead k ∉ s.port.queue) → t.cache.recency = j :: s.cache.recency.erase j
  guest : (t.slot i).content = some (.guest g)
  high : t.router.entry .journalHigh = s.router.entry .journalHigh
  full : t.router.entry .journalFull = s.router.entry .journalFull
  told : ∀ e : Entry, c.reader = .current → s.entryAt c.line c.drop = some e →
    t.entryAt c.line c.drop = some
        (if e.disposition = .cancelAsked then
          ({ e with disposition := .decided, remembered := some c.accepted } : Entry).told s.clock.seconds c.seq
            { kind := .tooLate, reason := .none, result := .late (some c.serial) }
        else e.decided s.clock.seconds c.seq c.accepted)
    ∧ (e.disposition ≠ .cancelAsked → t.holdsOnly c.line c.drop [])
  untold : c.reader ≠ .current → t.entries = s.entries
  undelivered : s.notices.items.length < 56 → (c.reader = .superseded → t.noticed (c.undelivered .superseded))
    ∧ (c.reader = .gone → t.noticed (c.undelivered .removed))

theorem State.EndsCommit.accepted (h : s.EndsCommit c rest i j g f) :
    let t := (({ s with mem := m }.report ok).commitDone c rest).jobOver
    s.CommitEnds t m ok i j ∧ s.SaleAccepted t c rest i j g f := by
  rw [h.commitDone_eq]
  set jr : Journal := { s.journal with tail := c.serial + 1, commits := rest } with hjr
  set w := s.accepting c j f m ok jr with hw
  have hslot (l : Fin 128) := h.slot_accepting (m := m) (ok := ok) (jr := jr) l
  rw [← hw] at hslot
  have htells := w.tells_settleAccepted c
  have hleaves := h.leaves_accepting (m := m) (ok := ok) (jr := jr)
  rw [← hw] at hleaves
  have hrouter : w.router = ({ s with mem := m }.report ok).router := by simp [hw, State.accepting, State.releasePending, State.judged]
  have hentries : w.entries = s.entries := by simp [hw, State.accepting, State.releasePending, State.judged]
  have hnotices : w.notices = ({ s with mem := m }.report ok).notices := by
    simp [hw, State.accepting, State.releasePending, State.judged]
  have hrecency : w.cache.recency = j :: s.cache.recency.erase j := by
    rw [hw, State.accepting, State.change_recency, h.hasSale.releasePending_eq]
    simp [State.setSlot, State.judged]
  have hclock : w.clock = s.clock := hleaves.clock
  clear_value w
  set u := w.settleAccepted c with hu
  have hleaves' := hleaves.tells htells
  have hrest := hleaves'.resting h.waiting
  have htends := State.idle_tends_jobOver hrest
  have hentry (src : FaultSource) (hc : src ≠ .memCheck) (hs : src ≠ .memSilent) :
      u.jobOver.router.entry src = s.router.entry src := by
    rw [htends.router]
    refine (congrArg (·.entry src) (htells.router.trans hrouter)).trans ?_
    exact State.report_entry (s := { s with mem := m }) ok hc hs
  have hat (e : Entry) (he : s.entryAt c.line c.drop = some e) : w.entryAt c.line c.drop = some e := by
    rw [State.entryAt_congr hentries]; exact he
  refine ⟨hleaves'.ends hrest, ⟨?_, ?_, fun hno => ?_, ?_, hentry _ (by decide) (by decide), hentry _ (by decide) (by decide),
    fun e hc he => ?_, fun hc => ?_, fun hn => ?_⟩⟩
  · have hjournal : u.journal = jr := hleaves'.journal
    refine ⟨?_, ?_, ?_, ?_⟩
    · exact htends.head.trans (by show u.journal.head = _; rw [hjournal])
    · exact htends.tail.trans (by show u.journal.tail = _; rw [hjournal])
    · exact htends.next.trans (by show u.journal.next = _; rw [hjournal])
    · refine (htends.queued ?_).trans ?_
      · show u.journal.commits.all _ = true
        rw [hjournal]; exact h.queued
      · show u.journal.commits = _
        rw [hjournal]
  · refine h.dirtied_folio hrest (Slot.record_released (s.slot j)) ((htells.slots j).1.trans ?_)
    rw [hslot, if_pos rfl]
  · rw [hleaves'.recency h.waiting hno, htells.recency, hrecency]
  · obtain ⟨-, hcontent, -⟩ := (htends.slots i).kept
    have hrecord := (htells.slots i).1
    rw [hslot, if_neg h.ne.symm, if_pos rfl] at hrecord
    exact hcontent.trans ((congrArg (·.1) hrecord).trans h.guestContent)
  · obtain ⟨hentryAt, hholds⟩ := State.settleAccepted_current hc (hat e he)
    rw [hclock] at hentryAt
    exact ⟨(State.entryAt_congr htends.entries _ _).trans hentryAt,
      fun hno => State.holdsOnly_congr (hholds hno) fun l => htends.holds l⟩
  · exact htends.entries.trans ((State.settleAccepted_entries hc).trans hentries)
  · have hlength : w.notices.items.length < 64 := by
      rw [hnotices]
      have := State.report_notices_length { s with mem := m } ok
      have hsame : ({ s with mem := m } : State).notices = s.notices := rfl
      rw [hsame] at this
      omega
    refine ⟨fun hc => htends.noticed ?_, fun hc => htends.noticed ?_⟩
    · have hu : u = w.saleUndelivered c .superseded := by rw [hu, State.settleAccepted, hc]
      exact hu ▸ State.noticed_notify hlength
    · have hu : u = w.saleUndelivered c .removed := by rw [hu, State.settleAccepted, hc]
      exact hu ▸ State.noticed_notify hlength

/-! ### A reversed sale -/

/-- What the end of a failed commit leaves. -/
structure State.SaleReversed (s t : State) (c : CommitEntry) (rest : List CommitEntry) (i j : Fin 128) (x y : Rec) : Prop where
  journal : t.journal.head = s.journal.head ∧ t.journal.tail = s.journal.tail ∧ t.journal.next = s.journal.next - 1
    ∧ t.journal.commits = rest.map fun d => { d with serial := d.serial - 1 }
  judged : s.journalJudged t (t.journal.next - t.journal.head).toNat
  guest : s.dirtied t i x
  folio : s.dirtied t j y
  recency : (∀ k, .censusRead k ∉ s.port.queue) → t.cache.recency = i :: j :: (s.cache.recency.erase i).erase j
  told : ∀ e : Entry, c.reader = .current → s.entryAt c.line c.drop = some e →
    t.entryAt c.line c.drop = some (e.decided s.clock.seconds c.seq
        (if e.disposition = .cancelAsked then { kind := .cancelled, reason := .none, result := .none }
        else { kind := .refuse, reason := .recordFault, result := .lineIndex 0 }))
    ∧ t.holdsOnly c.line c.drop []
  untold : c.reader ≠ .current → t.entries = s.entries
    ∧ ∀ cause, t.noticed (c.undelivered cause) → s.noticed (c.undelivered cause)

theorem State.EndsCommit.reversed (h : s.EndsCommit c rest i j g f) :
    let t := (({ s with mem := m }.report ok).commitFailed c rest).jobOver
    s.CommitEnds t m ok i j
    ∧ s.SaleReversed t c rest i j (.guest (g.reversed c.day c.covered)) (.folio (f.reversed c.total)) := by
  rw [h.commitFailed_eq]
  set jr : Journal := { s.journal with
    next := s.journal.next - 1, commits := rest.map fun d => { d with serial := d.serial - 1 } } with hjr
  set w := s.reversing c i j g f m ok jr with hw
  have hslot (l : Fin 128) := h.slot_reversing (m := m) (ok := ok) (jr := jr) l
  rw [← hw] at hslot
  have htells := w.tells_settleFailed c
  have hleaves := h.leaves_reversing (m := m) (ok := ok) (jr := jr)
  rw [← hw] at hleaves
  have hrouter : w.router = ({ s with mem := m }.report ok).router := by simp [hw, State.reversing, State.releasePending, State.judged]
  have hentries : w.entries = s.entries := by simp [hw, State.reversing, State.releasePending, State.judged]
  have hnotices : w.notices = ({ s with mem := m }.report ok).notices := by
    simp [hw, State.reversing, State.releasePending, State.judged]
  have hrecency : w.cache.recency = i :: j :: (s.cache.recency.erase i).erase j := by
    rw [hw, State.reversing, ((h.hasSale.change_folio _).change_guest _).releasePending_eq]
    have hjudged : (s.judged m ok jr).cache.recency = s.cache.recency := by simp [State.judged]
    show i :: (j :: (s.judged m ok jr).cache.recency.erase j).erase i = _
    rw [hjudged, List.erase_cons_tail (by simpa using h.ne), List.erase_comm]
  have hclock : w.clock = s.clock := hleaves.clock
  clear_value w
  set u := (w.settleFailed c).journalReview with hu
  have hleaves' : s.CommitLeaves u m ok jr i j := (hleaves.tells htells).journalReview
  have hrest := hleaves'.resting h.waiting
  have htends := State.idle_tends_jobOver hrest
  have hjournal : u.journal = jr := hleaves'.journal
  have hrecord (l : Fin 128) : (u.slot l).record = (w.slot l).record := by
    rw [hu, State.slot, State.journalReview_cache]; exact (htells.slots l).1
  have hhead : u.jobOver.journal.head = s.journal.head := htends.head.trans (by show u.journal.head = _; rw [hjournal])
  have hnext : u.jobOver.journal.next = s.journal.next - 1 := htends.next.trans (by show u.journal.next = _; rw [hjournal])
  refine ⟨hleaves'.ends hrest, ⟨⟨hhead, ?_, hnext, ?_⟩, ?_, ?_, ?_, fun hno => ?_, fun e hc he => ?_, fun hc => ⟨?_, fun cause hn => ?_⟩⟩⟩
  · exact htends.tail.trans (by show u.journal.tail = _; rw [hjournal])
  · refine (htends.queued ?_).trans ?_
    · show u.journal.commits.all _ = true
      rw [hjournal]; simpa [hjr] using h.queued
    · show u.journal.commits = _
      rw [hjournal]
  · have huntaken : (w.settleFailed c).journal.untaken = (u.jobOver.journal.next - u.jobOver.journal.head).toNat := by
      have : (w.settleFailed c).journal = jr := (hleaves.tells htells).journal
      rw [hhead, hnext, Journal.untaken, this]
    obtain ⟨hhigh, hfull⟩ := (w.settleFailed c).journalReview_judges
    have hentry (src : FaultSource) (hc : src ≠ .memCheck) (hs : src ≠ .memSilent) :
        (w.settleFailed c).router.entry src = s.router.entry src := by
      rw [htells.router, hrouter]
      exact State.report_entry (s := { s with mem := m }) ok hc hs
    rw [huntaken, hentry _ (by decide) (by decide)] at hhigh hfull
    exact ⟨(congrArg (·.entry .journalHigh) htends.router).trans hhigh, (congrArg (·.entry .journalFull) htends.router).trans hfull⟩
  · refine h.dirtied_guest hrest (y := s.slot i) rfl ((hrecord i).trans ?_)
    rw [hslot, if_neg h.ne.symm, if_pos rfl, Slot.record_released]
  · refine h.dirtied_folio hrest (y := s.slot j) rfl ((hrecord j).trans ?_)
    rw [hslot, if_pos rfl, Slot.record_released]
  · rw [hleaves'.recency h.waiting hno, hu, State.journalReview_cache, htells.recency, hrecency]
  · have hat : w.entryAt c.line c.drop = some e := by rw [State.entryAt_congr hentries]; exact he
    obtain ⟨hentryAt, hholds⟩ := State.settleFailed_current hc hat
    rw [hclock] at hentryAt
    refine ⟨(State.entryAt_congr (htends.entries.trans ?_) _ _).trans hentryAt,
      State.holdsOnly_congr hholds fun l => (htends.holds l).trans ?_⟩
    · show u.entries = _
      rw [hu, State.journalReview_entries]
    · show (u.slot l).holds = _
      rw [hu, State.slot, State.journalReview_cache]; rfl
  · refine htends.entries.trans ?_
    show u.entries = _
    rw [hu, State.journalReview_entries, State.settleFailed_of_not_current hc, hentries]
  · have hafter : (w.settleFailed c).noticed (c.undelivered cause) :=
      State.noticed_of_journalReview rfl (htends.noticed_of hn rfl)
    rw [State.settleFailed_of_not_current hc] at hafter
    have hreport : ({ s with mem := m }.report ok).noticed (c.undelivered cause) := by
      obtain ⟨x, hx, e⟩ := hafter
      exact ⟨x, by rw [← hnotices]; exact hx, e⟩
    exact State.noticed_of_report (s := { s with mem := m }) rfl hreport

/-! ## The obligation -/

theorem Guest.reversed_eq (g : Guest) (day covered : Nat) :
    g.reversed day covered = { g with allowUsed := if g.allowDay = day then g.allowUsed - covered else g.allowUsed } := by
  unfold Guest.reversed; split <;> rfl

/-- Settles O47. -/
theorem commitsEndAsTheirWritesDo : Obligations.CommitsEndAsTheirWritesDo := by
  intro s c rest i j g f posting marks hreset hwf hpower hwait hqueued hjob hcommits hdata hguest hg hfolio hf passes now accept
    undelivered
  have h : s.EndsCommit c rest i j g f := ⟨hreset, hwf, hwait, hqueued, hjob, hcommits, hguest, hg, hfolio, hf⟩
  have hm := h.commits_commitBlocks posting marks
  have hexec := h.exec posting marks
  generalize s.commitBlocks posting marks = p at hm hexec
  obtain ⟨m, ok⟩ := p
  have hpasses : ok = true ↔ passes := hm.passes
  have hmarked (hp : passes) := hm.marked (hpasses.mpr hp)
  have hunmarked (hp : ¬passes) := hm.unmarked fun hok => hp (hpasses.mp hok)
  have hchecked (t : State) (ht : s.CommitEnds t m ok i j) (hs : s.port.silent = false) :
      (t.router.entry .memCheck).present = true ↔ ¬passes := by
    rw [ht.memCheck hs, ← hpasses]; cases ok <;> simp
  by_cases hp : passes
  · dsimp only at hexec
    rw [if_pos (hpasses.mpr hp)] at hexec
    obtain ⟨hends, hsale⟩ := h.accepted (m := m) (ok := ok)
    refine ⟨_, hexec, ?_⟩
    generalize (({ s with mem := m }.report ok).commitDone c rest).jobOver = t at hends hsale
    obtain ⟨hhead, htail, hnext, hlist⟩ := hsale.journal
    rw [hends.mem]
    refine ⟨hm.posted, hm.kept, hmarked, hunmarked, hm.other, hchecked t hends, hends.stay, hhead,
      fun _ => ⟨htail, hnext, hlist, hsale.folio, hsale.recency, hsale.guest, hsale.high, hsale.full⟩, fun hno => absurd hp hno,
      hends.pendingGuest, hends.pendingFolio, fun e hc he => ?_, fun hc => ⟨hsale.untold hc, fun _ => hsale.undelivered,
        fun hno => absurd hp hno⟩⟩
    obtain ⟨hat, hholds⟩ := hsale.told e hc he
    refine ⟨_, hat, ?_, fun hd => ?_, fun hd => ?_⟩
    · split <;> rfl
    · have hother : e.disposition ≠ .cancelAsked := by rw [hd]; nofun
      rw [if_neg hother]
      exact ⟨hholds hother, fun _ => Entry.decided_decidedAs e now c.seq accept, fun hno => absurd hp hno⟩
    · rw [if_pos hd]
      exact ⟨fun _ => ⟨rfl, rfl, Entry.told_outgoingSince _ now c.seq _⟩, fun hno => absurd hp hno⟩
  · dsimp only at hexec
    rw [if_neg fun hok => hp (hpasses.mp hok)] at hexec
    obtain ⟨hends, hsale⟩ := h.reversed (m := m) (ok := ok)
    refine ⟨_, hexec, ?_⟩
    generalize (({ s with mem := m }.report ok).commitFailed c rest).jobOver = t at hends hsale
    obtain ⟨hhead, htail, hnext, hlist⟩ := hsale.journal
    rw [hends.mem]
    refine ⟨hm.posted, hm.kept, hmarked, hunmarked, hm.other, hchecked t hends, hends.stay, hhead, fun hyes => absurd hyes hp, fun _ => ?_,
      hends.pendingGuest, hends.pendingFolio, fun e hc he => ?_, fun hc => ⟨(hsale.untold hc).1, fun hyes => absurd hyes hp,
        fun _ => (hsale.untold hc).2⟩⟩
    · have hx := hsale.guest
      have hy : s.dirtied t j (.folio (f.reversed c.total)) := hsale.folio
      rw [Guest.reversed_eq] at hx
      exact ⟨htail, hnext, hlist, hsale.judged, hx, hy, fun hno => ⟨hx, hy, .inl (hsale.recency hno)⟩⟩
    · obtain ⟨hat, hholds⟩ := hsale.told e hc he
      refine ⟨_, hat, rfl, fun hd => ?_, fun hd => ?_⟩
      · have hother : e.disposition ≠ .cancelAsked := by rw [hd]; nofun
        rw [if_neg hother]
        exact ⟨hholds, fun hyes => absurd hyes hp, fun _ => Entry.decided_decidedAs e now c.seq _⟩
      · rw [if_pos hd]
        exact ⟨fun hyes => absurd hyes hp, fun _ => Entry.decided_decidedAs e now c.seq _⟩

end Sys2Proof.Machine
end

section
/-! PROOF. A round turn that draws an offer: what comes before the offer's decision, and what comes after it (R51 to R58). -/
namespace Sys2Proof.Machine
set_option Elab.async false
variable {s t u v p : State} {n : Fin 4} {e : Entry} {seq : Byte} {card : CardId} {lines : List SaleLine} {dur : Nat}

/-! ## Notices are kept -/

/-- Every notice of one queue is in another. -/
def State.keepsNotices (s t : State) : Prop := ∀ x ∈ s.notices.items, x ∈ t.notices.items

theorem State.keepsNotices.refl (s : State) : s.keepsNotices s := fun _ h => h

theorem State.keepsNotices.trans (h : s.keepsNotices t) (k : t.keepsNotices u) : s.keepsNotices u := fun x hx => k x (h x hx)

theorem State.keepsNotices.of_eq (h : s.keepsNotices t) (e : u.notices = t.notices) : s.keepsNotices u := fun x hx => by
  rw [e]; exact h x hx

theorem State.keepsNotices.notify {b : NoticeBody} (h : s.keepsNotices t) : s.keepsNotices (t.notify b) := fun x hx => by
  rw [State.notify_notices, NoticeQueue.push]
  dsimp only
  split
  · exact List.mem_append_left _ (h x hx)
  · exact h x hx

theorem State.keepsNotices.noticed {b : NoticeBody} (h : s.keepsNotices t) (hb : s.noticed b) : t.noticed b := by
  obtain ⟨x, hx, e⟩ := hb
  exact ⟨x, h x hx, e⟩

theorem State.keepsNotices.ite {c : Prop} [Decidable c] {a b : State} (ha : s.keepsNotices a) (hb : s.keepsNotices b) :
    s.keepsNotices (if c then a else b) := by
  split
  · exact ha
  · exact hb

theorem State.keepsNotices_actOn (s : State) (b : Begun) : s.keepsNotices (s.actOn b) := by
  unfold State.actOn
  extract_lets plan u v w
  have hu : s.keepsNotices u := .ite (.notify (.refl s)) (.refl s)
  have hv : s.keepsNotices v := by
    unfold v
    split
    · exact .ite (hu.of_eq rfl) hu
    · exact hu
  have hw : s.keepsNotices w := by
    refine .ite ?_ hv
    unfold State.enterStandalone
    exact .ite hv (.notify (hv.of_eq rfl))
  exact .ite (hw.of_eq rfl) hw

theorem State.keepsNotices_beginCondition (s : State) (src : FaultSource) : s.keepsNotices (s.beginCondition src) := by
  unfold State.beginCondition
  extract_lets e b u
  refine .ite (.refl s) (.ite (.refl s) ?_)
  exact ((State.keepsNotices.refl s).of_eq (u := u) rfl).trans ((u.keepsNotices_actOn b).of_eq (by simp))

theorem State.keepsNotices_setCondition (s : State) (src : FaultSource) (b : Bool) : s.keepsNotices (s.setCondition src b) := by
  cases b with
  | true => exact s.keepsNotices_beginCondition src
  | false => exact .refl s

/-! ## After the decision -/

/-- What the end of a round turn leaves, besides the slots and the port. -/
def State.unturned (s : State) :=
  (s.mem, s.clock, s.power, s.index, s.landing, s.muster, s.entries, (s.journal.head, s.journal.tail, s.journal.next),
    (s.cache.recency, s.cache.stalling, s.cache.flush))

/-- A turn has ended after an offer: the round goes on and the places are given out. -/
structure State.TurnEnds (t v : State) : Prop where
  same : v.unturned = t.unturned
  slots : ∀ i, (t.slot i).Tended (v.slot i) (v.port.job = some (.writeBack i))
  job : ∀ j, t.port.job = some j → v.port.job = some j
  queue : ∀ j ∈ t.port.queue, j ∈ v.port.queue ∨ v.port.job = some j
  commits : v.journal.commits.map CommitEntry.unmarked = t.journal.commits.map CommitEntry.unmarked
  conditions : ∀ src : FaultSource, src.asksNoLine → v.router.entry src = t.router.entry src
  notices : t.keepsNotices v

/-- What a round's review leaves (R51, R55). -/
structure State.RoundGoesOn (t u : State) : Prop where
  same : u.unturned = t.unturned
  port : u.port = t.port
  cache : u.cache = t.cache
  journal : u.journal = t.journal
  conditions : ∀ src : FaultSource, src.asksNoLine → u.router.entry src = t.router.entry src
  notices : t.keepsNotices u

theorem State.roundGoesOn_roundReview (t : State) (n : Fin 4) : t.RoundGoesOn (t.roundReview n) := by
  unfold State.roundReview
  split
  · unfold State.completeRound
    extract_lets capture
    refine ⟨by simp [State.unturned], by simp, by simp, by simp, fun src h => ?_, ?_⟩
    · rw [State.setCondition_entry, if_neg (h n)]
      rfl
    · exact fun x hx => State.keepsNotices_setCondition _ _ _ x hx
  · exact ⟨rfl, rfl, rfl, rfl, fun _ _ => rfl, .refl t⟩

theorem State.turnEnds (hwait : t.port.waiting = []) (n : Fin 4) (asks : Bool) : t.TurnEnds ((t.roundReview n).settle asks) := by
  obtain ⟨hsame, hport, hcache, hjournal, hconditions, hnotices⟩ := t.roundGoesOn_roundReview n
  generalize t.roundReview n = u at hsame hport hcache hjournal hconditions hnotices
  have h : u.Arranges (u.settle asks) := (State.Arranges.refl u).settle (by rw [hport]; exact hwait)
  generalize u.settle asks = v at h
  have hslot (i : Fin 128) : u.slot i = t.slot i := by rw [State.slot, hcache]; rfl
  refine ⟨?_, fun i => hslot i ▸ h.slots i, by rw [← hport]; exact h.job, by rw [← hport]; exact h.queue,
    by rw [← hjournal]; exact h.commits, fun src hs => ?_, ?_⟩
  · refine Eq.trans ?_ hsame
    rw [h.frame]; rfl
  · refine Eq.trans ?_ (hconditions src hs)
    rw [h.frame]; rfl
  · exact hnotices.of_eq (by rw [h.frame]; rfl)

namespace State.TurnEnds
variable (h : t.TurnEnds v)
include h

theorem mem : v.mem = t.mem := congrArg (·.1) h.same
theorem index : v.index = t.index := congrArg (·.2.2.2.1) h.same
theorem landing : v.landing = t.landing := congrArg (·.2.2.2.2.1) h.same
theorem muster : v.muster = t.muster := congrArg (·.2.2.2.2.2.1) h.same
theorem entries : v.entries = t.entries := congrArg (·.2.2.2.2.2.2.1) h.same
theorem head : v.journal.head = t.journal.head := congrArg (·.2.2.2.2.2.2.2.1.1) h.same
theorem tail : v.journal.tail = t.journal.tail := congrArg (·.2.2.2.2.2.2.2.1.2.1) h.same
theorem next : v.journal.next = t.journal.next := congrArg (·.2.2.2.2.2.2.2.1.2.2) h.same
theorem recency : v.cache.recency = t.cache.recency := congrArg (·.2.2.2.2.2.2.2.2.1) h.same
theorem stalling : v.cache.stalling = t.cache.stalling := congrArg (·.2.2.2.2.2.2.2.2.2.1) h.same

theorem content (i : Fin 128) : (v.slot i).content = (t.slot i).content := (h.slots i).kept.2.1

theorem entryAt (l : Fin 4) (d : Nat) : v.entryAt l d = t.entryAt l d := State.entryAt_congr h.entries l d

theorem holdsOnly {l : Fin 4} {d : Nat} {keys : List RecKey} (hk : t.holdsOnly l d keys) : v.holdsOnly l d keys :=
  State.holdsOnly_congr hk fun i => by
    obtain ⟨-, -, -, -, -, -, hholds, -⟩ := (h.slots i).kept
    exact hholds

theorem recordsKept : t.recordsKept v := by
  refine ⟨fun i => ?_, h.index, h.next, h.head, h.tail, h.mem⟩
  obtain ⟨hkey, hcontent, -⟩ := (h.slots i).kept
  exact ⟨hkey, hcontent⟩

end State.TurnEnds

theorem State.recordsKept.trans (h : s.recordsKept t) (k : t.recordsKept u) : s.recordsKept u := by
  obtain ⟨hslots, hindex, hnext, hhead, htail, hmem⟩ := h
  obtain ⟨hslots', hindex', hnext', hhead', htail', hmem'⟩ := k
  exact ⟨fun i => ⟨(hslots' i).1.trans (hslots i).1, (hslots' i).2.trans (hslots i).2⟩, hindex'.trans hindex,
    hnext'.trans hnext, hhead'.trans hhead, htail'.trans htail, hmem'.trans hmem⟩

/-! ## Before the decision -/

/-- What an offer's arrival leaves, besides the slots, the entries and the commit list. -/
def State.unoffered (s : State) :=
  (s.mem, s.clock, s.power, s.index, s.landing, s.muster, s.port, s.router, (s.bindings, s.profiles, s.plans, s.straps),
    (s.journal.head, s.journal.tail, s.journal.next), (s.cache.recency, s.cache.stalling, s.cache.flush))

/-- A commit without the mark whose offer it is. -/
def CommitEntry.unread (c : CommitEntry) : CommitEntry := { c with reader := .current }

/-- An offer has arrived, and is about to be decided: an offer before it has been superseded (R56 to R58). -/
structure State.Arrives (s p : State) (n : Fin 4) (e : Entry) (seq : Byte) : Prop where
  same : p.unoffered = s.unoffered
  slots : (∀ i, p.slot i = s.slot i) ∨ ∀ i, p.slot i = (s.slot i).prune n e.drop []
  commits : p.journal.commits.map CommitEntry.unread = s.journal.commits.map CommitEntry.unread
  entry : ∃ y, p.entryAt n e.drop = some y ∧ y.lastSeq = some seq ∧ y.disposition = .deferred ∧ y.trail = e.trail
    ∧ y.kind = e.kind
  notices : s.keepsNotices p
  noticesLength : p.notices.items.length ≤ s.notices.items.length + 2

namespace State.Arrives
variable (h : s.Arrives p n e seq)
include h

theorem mem : p.mem = s.mem := congrArg (·.1) h.same
theorem clock : p.clock = s.clock := congrArg (·.2.1) h.same
theorem power : p.power = s.power := congrArg (·.2.2.1) h.same
theorem index : p.index = s.index := congrArg (·.2.2.2.1) h.same
theorem landing : p.landing = s.landing := congrArg (·.2.2.2.2.1) h.same
theorem muster : p.muster = s.muster := congrArg (·.2.2.2.2.2.1) h.same
theorem port : p.port = s.port := congrArg (·.2.2.2.2.2.2.1) h.same
theorem router : p.router = s.router := congrArg (·.2.2.2.2.2.2.2.1) h.same
theorem bindings : p.bindings = s.bindings := congrArg (·.2.2.2.2.2.2.2.2.1.1) h.same
theorem profiles : p.profiles = s.profiles := congrArg (·.2.2.2.2.2.2.2.2.1.2.1) h.same
theorem plans : p.plans = s.plans := congrArg (·.2.2.2.2.2.2.2.2.1.2.2.1) h.same
theorem straps : p.straps = s.straps := congrArg (·.2.2.2.2.2.2.2.2.1.2.2.2) h.same
theorem head : p.journal.head = s.journal.head := congrArg (·.2.2.2.2.2.2.2.2.2.1.1) h.same
theorem tail : p.journal.tail = s.journal.tail := congrArg (·.2.2.2.2.2.2.2.2.2.1.2.1) h.same
theorem next : p.journal.next = s.journal.next := congrArg (·.2.2.2.2.2.2.2.2.2.1.2.2) h.same
theorem recency : p.cache.recency = s.cache.recency := congrArg (·.2.2.2.2.2.2.2.2.2.2.1) h.same
theorem stalling : p.cache.stalling = s.cache.stalling := congrArg (·.2.2.2.2.2.2.2.2.2.2.2.1) h.same

/-- A slot as it was, its holds and waiters apart. -/
theorem slot (i : Fin 128) : p.slot i = { s.slot i with holds := (p.slot i).holds, waiters := (p.slot i).waiters } := by
  rcases h.slots with hs | hs
  · rw [hs]
  · rw [hs]; rfl

theorem find (k : RecKey) : p.find k = s.find k := State.find_of_place (fun i => by rw [h.slot i]; rfl) k

theorem bindingOf {x : Entry} : p.bindingOf x = s.bindingOf x := by
  unfold State.bindingOf; rw [h.bindings]

theorem lookupCard : p.lookupCard card = s.lookupCard card := by
  unfold State.lookupCard; rw [h.index, h.landing]

theorem recordsKept : s.recordsKept p :=
  ⟨fun i => by rw [h.slot i]; exact ⟨rfl, rfl⟩, h.index, h.next, h.head, h.tail, h.mem⟩

end State.Arrives

/-! ### The entry's answer -/

theorem Entry.answered_presented (e : Entry) : e.answered .presented = { e with poll := .fast, quiet := 0, silent := 0 } := rfl

theorem State.entryAt_of_called (h : s.calledEntry n = some e) : s.entryAt n e.drop = some e := by
  unfold State.calledEntry at h
  obtain ⟨d, -, hd⟩ := Option.bind_eq_some_iff.mp h
  rw [(State.isAt_of_entryAt hd).2]
  exact hd

theorem State.line_of_called (h : s.calledEntry n = some e) : e.line = n := (State.isAt_of_entryAt (State.entryAt_of_called h)).1

/-- The state once the answer has been counted (R53). -/
def State.answering (s : State) (n : Fin 4) (dur : Nat) (e : Entry) : State := (s.closeTurn n dur).goodAnswer n e .presented

theorem State.unoffered_answering (s : State) (n : Fin 4) (dur : Nat) (e : Entry) :
    (s.answering n dur e).unoffered = s.unoffered ∧ (s.answering n dur e).cache = s.cache
    ∧ (s.answering n dur e).journal = s.journal := by
  unfold State.answering State.goodAnswer
  dsimp only
  split <;> simp [State.unoffered, State.closeTurn]

theorem State.entryAt_answering (h : s.calledEntry n = some e) (dur : Nat) :
    (s.answering n dur e).entryAt n e.drop = some (e.answered .presented) := by
  have hmod : (((s.closeTurn n dur).modLine n fun l => { l with garbleRun := 0 }).modEntry n e.drop fun x => x.answered .presented
      ).entryAt n e.drop = some (e.answered .presented) := by
    refine (State.entryAt_modEntry (fun x => ?_) _ n e.drop).trans ?_
    · exact ⟨rfl, rfl⟩
    · have : ((s.closeTurn n dur).modLine n fun l => { l with garbleRun := 0 }).entryAt n e.drop = some e :=
        (State.entryAt_congr (s := s) rfl n e.drop).trans (State.entryAt_of_called h)
      rw [this]; rfl
  unfold State.answering State.goodAnswer
  dsimp only
  split
  · exact (State.entryAt_congr rfl n e.drop).trans hmod
  · exact hmod

theorem NoticeQueue.length_push (s : State) (b : NoticeBody) : (s.notify b).notices.items.length ≤ s.notices.items.length + 1 := by
  rw [State.notify_notices]; exact NoticeQueue.length_push_le _ _ _

theorem State.notices_answering (s : State) (n : Fin 4) (dur : Nat) (e : Entry) : s.keepsNotices (s.answering n dur e)
    ∧ (s.answering n dur e).notices.items.length ≤ s.notices.items.length + 1 := by
  unfold State.answering State.goodAnswer
  dsimp only
  split
  · exact ⟨.notify ((State.keepsNotices.refl s).of_eq rfl), (NoticeQueue.length_push _ _).trans (Nat.le_refl _)⟩
  · exact ⟨(State.keepsNotices.refl s).of_eq rfl, Nat.le_succ _⟩

/-! ### A new offer supersedes the one before -/

theorem State.unoffered_supersede (s : State) (e : Entry) : (s.supersede e).unoffered = s.unoffered := by
  unfold State.supersede State.dropOutgoing State.reportUndelivered
  split
  · rfl
  · split <;> rfl

theorem State.slot_supersede (s : State) (e : Entry) (i : Fin 128) :
    (s.supersede e).slot i = (s.slot i).prune e.line e.drop [] := by
  unfold State.supersede
  rw [State.slot_prune]
  unfold State.dropOutgoing State.reportUndelivered
  split
  · rfl
  · split <;> rfl

theorem State.commits_supersede (s : State) (e : Entry) :
    (s.supersede e).journal.commits.map CommitEntry.unread = s.journal.commits.map CommitEntry.unread := by
  have hmark (u : State) : (u.markCommits e.line e.drop .superseded).journal.commits.map CommitEntry.unread =
      u.journal.commits.map CommitEntry.unread := by
    unfold State.markCommits
    rw [List.map_map]
    refine List.map_congr_left fun c _ => ?_
    dsimp only [Function.comp]
    split <;> rfl
  refine (hmark _).trans ?_
  unfold State.dropOutgoing State.reportUndelivered
  split
  · rfl
  · split <;> rfl

theorem State.notices_supersede (s : State) (e : Entry) : s.keepsNotices (s.supersede e)
    ∧ (s.supersede e).notices.items.length ≤ s.notices.items.length + 1 := by
  unfold State.supersede State.dropOutgoing State.reportUndelivered
  split
  · exact ⟨(State.keepsNotices.refl s).of_eq rfl, Nat.le_succ _⟩
  · split
    · exact ⟨(State.keepsNotices.refl s).notify.of_eq rfl, NoticeQueue.length_push s _⟩
    · exact ⟨(State.keepsNotices.refl s).of_eq rfl, Nat.le_succ _⟩

theorem State.entryAt_dropOutgoing {x y : Entry} {cause : UndeliveredCause} {l : Fin 4} {d : Nat} (hx : x.line = l ∧ x.drop = d)
    (h : s.entryAt l d = some y) : ∃ o, (s.dropOutgoing x cause).entryAt l d = some { y with outgoing := o } := by
  obtain ⟨rfl, rfl⟩ := hx
  unfold State.dropOutgoing
  split
  · exact ⟨y.outgoing, h⟩
  · next o _ =>
    have hreport : (s.reportUndelivered x o cause).entryAt x.line x.drop = some y := by
      refine (State.entryAt_congr ?_ _ _).trans h
      unfold State.reportUndelivered; split <;> rfl
    exact ⟨none, (State.entryAt_modEntry (by simp) _ _ _).trans (by rw [hreport]; rfl)⟩

/-- The state in which a new offer is decided (R56, R57). -/
def State.newlyOffered (s : State) (e : Entry) (seq : Byte) : State :=
  (s.supersede e).modEntry e.line e.drop fun e => { e with lastSeq := some seq, disposition := .deferred, remembered := none }

theorem State.entryAt_newlyOffered (h : s.entryAt e.line e.drop = some e) (seq : Byte) : ∃ o,
    (s.newlyOffered e seq).entryAt e.line e.drop =
      some { e with lastSeq := some seq, disposition := .deferred, remembered := none, outgoing := o } := by
  obtain ⟨o, ho⟩ := State.entryAt_dropOutgoing (cause := .superseded) ⟨rfl, rfl⟩ h
  have hs : (s.supersede e).entryAt e.line e.drop = some { e with outgoing := o } := (State.entryAt_congr rfl _ _).trans ho
  exact ⟨o, (State.entryAt_modEntry (by simp) _ _ _).trans (by rw [hs]; rfl)⟩

/-! ### The offer's arrival -/

theorem State.arrives_answering (h : s.calledEntry n = some e) (hseq : e.lastSeq = some seq) (hd : e.disposition = .deferred)
    (dur : Nat) : s.Arrives (s.answering n dur e) n e seq := by
  obtain ⟨hsame, hcache, hjournal⟩ := s.unoffered_answering n dur e
  obtain ⟨hnotices, hlength⟩ := s.notices_answering n dur e
  refine ⟨hsame, .inl fun i => by rw [State.slot, hcache]; rfl, by rw [hjournal], ?_, hnotices, by omega⟩
  exact ⟨_, State.entryAt_answering h dur, hseq, hd, rfl, rfl⟩

theorem State.arrives_newlyOffered (h : s.calledEntry n = some e) (dur : Nat) (seq : Byte) :
    s.Arrives ((s.answering n dur e).newlyOffered (e.answered .presented) seq) n e seq := by
  obtain rfl := State.line_of_called h
  obtain ⟨hsame, hcache, hjournal⟩ := s.unoffered_answering e.line dur e
  obtain ⟨hnotices, hlength⟩ := s.notices_answering e.line dur e
  have hentry := State.entryAt_answering h dur
  generalize s.answering e.line dur e = u at hsame hcache hjournal hnotices hlength hentry
  obtain ⟨hnotices', hlength'⟩ := u.notices_supersede (e.answered .presented)
  obtain ⟨o, ho⟩ := State.entryAt_newlyOffered (e := e.answered .presented) hentry seq
  refine ⟨(u.unoffered_supersede _).trans hsame, .inr fun i => ?_, ?_, ?_, hnotices.trans hnotices', ?_⟩
  · have hslot : u.slot i = s.slot i := by rw [State.slot, hcache]; rfl
    refine (u.slot_supersede (e.answered .presented) i).trans ?_
    rw [hslot]
    rfl
  · refine (u.commits_supersede (e.answered .presented)).trans ?_
    rw [hjournal]
  · exact ⟨_, ho, rfl, rfl, rfl, rfl⟩
  · exact hlength'.trans (by omega)

/-- An offer that is decided: one that is new, or one deferred before (R56, R58). -/
theorem State.exec_offer {ls : Option (List SaleLine)} (hreset : s.inReset = false) (h : s.calledEntry n = some e)
    (hform : ls.isSome = true ↔ e.kind = .bar) (hnew : e.lastSeq ≠ some seq ∨ e.disposition = .deferred)
    (hpower : s.power.state = .normal) (dur : Nat) (card : CardId) : ∃ p asks, s.Arrives p n e seq
      ∧ exec (.offer n dur seq card ls) s =
        .next (((p.ownerDecide (e.answered .presented) seq card (ls.getD [])).roundReview n).settle asks) := by
  have hoffer : offerForm e.kind ls = true := by
    unfold offerForm
    cases hs : ls.isSome <;> simp_all
  have hrun : ∃ asks, exec (.offer n dur seq card ls) s =
      .next ((((s.answering n dur e).offered (e.answered .presented) seq card (ls.getD [])).roundReview n).settle asks) := by
    set t := (s.answering n dur e).offered (e.answered .presented) seq card (ls.getD []) with ht
    refine ⟨s.holdEnded t e.line e.drop (t.newSeq e), ?_⟩
    show execOffer n dur seq card ls s = _
    refine (State.awake_of_awake hreset _).trans (congrArg _ ?_)
    rw [h]
    dsimp only
    rw [if_pos hoffer]
    unfold State.goodTurn
    have hat := State.entryAt_answering h dur
    rw [ht]
    unfold State.answering at hat ⊢
    dsimp only
    rw [hat]
  obtain ⟨asks, hexec⟩ := hrun
  have hhand (q : State) (hq : q.power.state = .normal) (x : Entry) :
      q.handOffer x seq card (ls.getD []) = q.ownerDecide x seq card (ls.getD []) := if_pos hq
  by_cases hseq : e.lastSeq = some seq
  · have hd : e.disposition = .deferred := hnew.resolve_left fun hne => hne hseq
    have harr := State.arrives_answering h hseq hd dur
    refine ⟨_, asks, harr, hexec.trans ?_⟩
    have hrepeat : (s.answering n dur e).offered (e.answered .presented) seq card (ls.getD []) =
        (s.answering n dur e).handOffer (e.answered .presented) seq card (ls.getD []) := by
      unfold State.offered State.repeatOffer
      rw [if_pos (show (e.answered .presented).lastSeq = some seq from hseq), show (e.answered .presented).disposition = .deferred from hd]
    rw [hrepeat, hhand _ (by rw [harr.power]; exact hpower)]
  · have harr := State.arrives_newlyOffered h dur seq
    refine ⟨_, asks, harr, hexec.trans ?_⟩
    have hnewly : (s.answering n dur e).offered (e.answered .presented) seq card (ls.getD []) =
        ((s.answering n dur e).newlyOffered (e.answered .presented) seq).handOffer (e.answered .presented) seq card (ls.getD []) :=
      if_neg hseq
    rw [hnewly, hhand _ (by rw [harr.power]; exact hpower)]

end Sys2Proof.Machine
end

section
/-! PROOF. What the decisions share: the records found, the changed slot and its urgent write-back, the final verdict (R37, R38, R42, R61). -/
namespace Sys2Proof.Machine
set_option Elab.async false
variable {s t u v w : State} {i : Fin 128} {r : Rec} {k : RecKey} {e : Entry} {seq : Byte} {card : CardId}

/-! ## After the last record change -/

/-- What the end of an offer leaves of a slot, but for its write-back. -/
def Slot.marks (x : Slot) := (x.record, x.wbQueued, x.urgent, x.key, x.commitPending)

/-- What stays once an offer's records have been changed. -/
def State.closing (s : State) :=
  (s.mem, s.index, s.landing, s.muster, (s.journal.head, s.journal.tail, s.journal.next), s.cache.recency)

/-- An offer's reader has been told, and its turn has ended. -/
structure State.Closes (u v : State) : Prop where
  same : v.closing = u.closing
  slots : ∀ k, ∃ z : Slot, z.marks = (u.slot k).marks ∧ z.Tended (v.slot k) (v.port.job = some (.writeBack k))
  job : ∀ j, u.port.job = some j → v.port.job = some j
  queue : ∀ j ∈ u.port.queue, j ∈ v.port.queue ∨ v.port.job = some j
  notices : u.keepsNotices v

namespace State.Closes
variable (h : u.Closes v)
include h

theorem mem : v.mem = u.mem := congrArg (·.1) h.same
theorem index : v.index = u.index := congrArg (·.2.1) h.same
theorem landing : v.landing = u.landing := congrArg (·.2.2.1) h.same
theorem muster : v.muster = u.muster := congrArg (·.2.2.2.1) h.same
theorem recency : v.cache.recency = u.cache.recency := congrArg (·.2.2.2.2.2) h.same

theorem content (k : Fin 128) : (v.slot k).content = (u.slot k).content := by
  obtain ⟨z, hz, htended⟩ := h.slots k
  exact htended.kept.2.1.trans (congrArg (·.1.1) hz)

theorem recordsKept : u.recordsKept v := by
  refine ⟨fun k => ?_, h.index, congrArg (·.2.2.2.2.1.2.2) h.same, congrArg (·.2.2.2.2.1.1) h.same,
    congrArg (·.2.2.2.2.1.2.1) h.same, h.mem⟩
  obtain ⟨z, hz, htended⟩ := h.slots k
  exact ⟨htended.kept.1.trans (congrArg (·.2.2.2.1) hz), h.content k⟩

end State.Closes

/-- A final verdict is given, and the turn ends (R56, R61). -/
theorem State.closes_giveFinal {l : Fin 4} {d : Nat} {y : Entry} (hwait : u.port.waiting = []) (he : u.entryAt l d = some y)
    (seq : Byte) (verdict : Verdict) (n : Fin 4) (asks : Bool) :
    let t := ((u.giveFinal l d seq verdict).roundReview n).settle asks
    u.Closes t ∧ t.entryAt l d = some (y.decided u.clock.seconds seq verdict) ∧ t.holdsOnly l d [] := by
  have hfinal := State.entryAt_giveFinal he seq verdict
  have hholds := u.giveFinal_holdsOnly l d seq verdict
  have hslot := u.slot_giveFinal l d seq verdict
  have hport : (u.giveFinal l d seq verdict).port = u.port := by simp
  have hturn := State.turnEnds (t := u.giveFinal l d seq verdict) (by rw [hport]; exact hwait) n asks
  have hsame : (u.giveFinal l d seq verdict).closing = u.closing := by
    simp [State.closing, State.giveFinal_cache, State.prune]
  have hnotices : (u.giveFinal l d seq verdict).notices = u.notices := by simp
  generalize u.giveFinal l d seq verdict = w at hfinal hholds hslot hport hturn hsame hnotices
  refine ⟨⟨?_, fun k => ⟨w.slot k, by rw [hslot]; rfl, hturn.slots k⟩, by rw [← hport]; exact hturn.job,
    by rw [← hport]; exact hturn.queue, ?_⟩, (hturn.entryAt l d).trans hfinal, hturn.holdsOnly hholds⟩
  · rw [← hsame]
    simp only [State.closing, hturn.mem, hturn.index, hturn.landing, hturn.muster, hturn.head, hturn.tail, hturn.next, hturn.recency]
  · exact fun x hx => hturn.notices x (by rw [hnotices]; exact hx)

/-! ## The urgent write-back (R42) -/

/-- A slot with its urgent mark set. -/
def Slot.urged (x : Slot) : Slot := { x with urgent := true }

theorem State.urgentWrite_of_writing (h : (u.slot i).state = .writing) :
    u.urgentWrite i = u.setSlot i (u.slot i).urged := by
  unfold State.urgentWrite
  dsimp only
  split
  · next h' => rw [h] at h'; cases h'
  · rfl
  · next h' => exact absurd h h'

theorem State.urgentWrite_of_queued (h : (u.slot i).state = .dirty) (hq : (u.slot i).wbQueued = true) : u.urgentWrite i = u := by
  simp only [State.urgentWrite, h, hq, if_true]

theorem State.urgentWrite_of_free (h : (u.slot i).state = .dirty) (hq : (u.slot i).wbQueued = false) (hp : u.hasPlace = true) :
    u.urgentWrite i =
      ((u.setSlot i { u.slot i with wbQueued := true }).setQueue (u.port.queue ++ [.writeBack i])).pump := by
  have hqueues : u.urgentWrite i = u.queueWriteBack i := by
    simp only [State.urgentWrite, h, hq, hp, if_true, Bool.false_eq_true, if_false]
  exact hqueues

theorem State.urgentWrite_of_full (h : (u.slot i).state = .dirty) (hq : (u.slot i).wbQueued = false) (hp : u.hasPlace = false) :
    u.urgentWrite i = u.setSlot i (u.slot i).urged := by
  unfold State.urgentWrite
  dsimp only
  split
  · rw [if_neg (by rw [hq]; nofun), if_neg (by rw [hp]; nofun)]; rfl
  · next h' => rw [h] at h'; cases h'
  · next h' _ => exact absurd h h'

/-- A slot's record has been changed, and its write-back is on its way; the port can have taken it only if it was idle. -/
structure State.ChangedIn (s v : State) (i : Fin 128) (r : Rec) : Prop where
  dirtied : s.dirtied v i r
  urgent : s.writesUrgently v.cache v.port i
  job : ∀ j, s.port.job = some j → v.port.job = some j
  started : (s.slot i).state ≠ .writing → (v.slot i).state = .writing → s.port.job = none ∧ v.port.job = some (.writeBack i)

theorem State.hasPlace_iff (s : State) : s.hasPlace = true ↔ s.placeFree := by
  simp [State.hasPlace, State.placeFree]

/-- What the urgent write-back of a DIRTY slot with none queued leaves while a place is free. -/
theorem State.urgentWrite_free_slot (h : (u.slot i).state = .dirty) (hq : (u.slot i).wbQueued = false) (hp : u.hasPlace = true) :
    let v := u.urgentWrite i
    ({ u.slot i with wbQueued := true } : Slot).Tended (v.slot i) (v.port.job = some (.writeBack i))
    ∧ (.writeBack i ∈ v.port.queue ∨ v.port.job = some (.writeBack i))
    ∧ (∀ j, u.port.job = some j → v.port.job = some j) ∧ ((v.slot i).state = .writing → u.port.job = none) := by
  rw [State.urgentWrite_of_free h hq hp]
  set x := (u.setSlot i { u.slot i with wbQueued := true }).setQueue (u.port.queue ++ [.writeBack i]) with hx
  have harr : x.Arranges x.pump := (State.Arranges.refl x).pump
  have hslot : x.slot i = { u.slot i with wbQueued := true } := State.slot_setSlot_same _ _ _
  refine ⟨hslot ▸ harr.slots i, harr.queue _ (List.mem_append_right _ List.mem_cons_self), harr.job, fun hw => ?_⟩
  cases hjob : u.port.job with
  | none => rfl
  | some j =>
    rw [State.pump_of_busy (u := x) hjob, hslot] at hw
    exact absurd (h.symm.trans hw) (by nofun)

theorem Slot.Tended.urgent_or {x y : Slot} {p : Prop} (h : x.Tended y p) (hx : x.urgent = true) : y.urgent = true ∨ p := by
  rcases h with rfl | ⟨-, rfl | ⟨hp, -⟩⟩
  · exact .inl hx
  · exact .inl hx
  · exact .inr hp

theorem Slot.Tended.wbQueued_or {x y : Slot} {p : Prop} (h : x.Tended y p) (hx : x.wbQueued = true) : y.wbQueued = true ∨ p := by
  rcases h with rfl | ⟨-, rfl | ⟨hp, -⟩⟩
  · exact .inl hx
  · exact .inl rfl
  · exact .inr hp

theorem Slot.Tended.state_or {x y : Slot} {p : Prop} (h : x.Tended y p) (hx : x.state = .dirty) :
    y.state = .dirty ∨ p ∧ y.state = .writing := by
  rcases h.state with e | ⟨-, hp, e⟩
  · exact .inl (e.trans hx)
  · exact .inr ⟨hp, e⟩

/-- A record changed, and its write-back asked for urgently. -/
theorem State.changedIn_urgentWrite
    (hstate : (s.slot i).state = .clean ∨ (s.slot i).state = .dirty ∨ (s.slot i).state = .writing)
    (hmarks : (u.slot i).marks = ((s.slot i).changed s.clock.seconds r).marks) (hport : u.port = s.port)
    (hpower : u.power = s.power) : s.ChangedIn (u.urgentWrite i) i r := by
  have hplace : u.hasPlace = true ↔ s.placeFree := by
    rw [State.hasPlace_iff]; simp only [State.placeFree, hport, hpower]
  have hchanged := Slot.dirtied_changed hstate s.clock.seconds r
  simp only [Slot.marks, Prod.mk.injEq] at hmarks
  obtain ⟨hrecord, hqueued, hurgent, -, -⟩ := hmarks
  have hdirtied (p : Prop) (y : Slot) (hy : y.record = (u.slot i).record) : (s.slot i).dirtied y s.clock.seconds p r :=
    Slot.dirtied_congr (hchanged p) rfl (hy.trans hrecord)
  have hustate : (u.slot i).state = ((s.slot i).changed s.clock.seconds r).state := congrArg (·.2.1) hrecord
  have huqueued : (u.slot i).wbQueued = (s.slot i).wbQueued := hqueued
  have hkeeps (v : State) (hv : v.port = u.port) (j : Job) (hj : s.port.job = some j) : v.port.job = some j := by
    rw [hv, hport]; exact hj
  by_cases hwriting : (s.slot i).state = .writing
  · have hu : (u.slot i).state = .writing := by rw [hustate]; simp [Slot.changed, hwriting]
    rw [State.urgentWrite_of_writing hu]
    have hslot : (u.setSlot i (u.slot i).urged).slot i = (u.slot i).urged := State.slot_setSlot_same _ _ _
    refine ⟨?_, ⟨fun _ => congrArg Slot.urgent hslot, fun hno => absurd hwriting hno⟩, hkeeps _ rfl,
      fun hno => absurd hwriting hno⟩
    exact hdirtied _ _ ((congrArg Slot.record hslot).trans rfl)
  · have hu : (u.slot i).state = .dirty := by
      rw [hustate]; rcases hstate with h | h | h <;> simp [Slot.changed, h] at hwriting ⊢
    by_cases hq : (u.slot i).wbQueued = true
    · rw [State.urgentWrite_of_queued hu hq]
      have hsq : (s.slot i).wbQueued = true := huqueued ▸ hq
      refine ⟨hdirtied _ _ rfl, ⟨fun hw => absurd hw hwriting, fun _ => ⟨fun _ => .inl hq, fun hno => ?_, fun hno => ?_⟩⟩,
        hkeeps _ rfl, fun _ hw => ?_⟩
      · rw [hsq] at hno; cases hno
      · rw [hsq] at hno; cases hno
      · rw [hu] at hw; cases hw
    · have hq : (u.slot i).wbQueued = false := Bool.eq_false_iff.mpr hq
      have hsq : (s.slot i).wbQueued = false := huqueued ▸ hq
      by_cases hp : u.hasPlace = true
      · obtain ⟨htended, hmem, hjob, hidle⟩ := State.urgentWrite_free_slot hu hq hp
        generalize u.urgentWrite i = v at htended hmem hjob hidle
        refine ⟨?_, ⟨fun hw => absurd hw hwriting, fun _ => ⟨fun hyes => ?_, fun _ _ => ?_, fun _ hno => ?_⟩⟩,
          fun j hj => hjob j (by rw [hport]; exact hj), fun _ hw => ?_⟩
        · exact Slot.dirtied_tended (hdirtied _ { u.slot i with wbQueued := true } rfl) htended id
        · rw [hsq] at hyes; cases hyes
        · by_cases htaken : v.port.job = some (.writeBack i)
          · exact .inr htaken
          · exact .inl ⟨(htended.wbQueued_or rfl).resolve_right htaken, hmem.resolve_right htaken⟩
        · exact absurd (hplace.mp hp) hno
        · obtain ⟨htaken, -⟩ := (htended.state_or hu).resolve_left (by rw [hw]; nofun)
          exact ⟨by rw [← hport]; exact hidle hw, htaken⟩
      · have hp : u.hasPlace = false := Bool.eq_false_iff.mpr hp
        rw [State.urgentWrite_of_full hu hq hp]
        have hslot : (u.setSlot i (u.slot i).urged).slot i = (u.slot i).urged := State.slot_setSlot_same _ _ _
        refine ⟨hdirtied _ _ ((congrArg Slot.record hslot).trans rfl), ⟨fun hw => absurd hw hwriting, fun _ => ⟨fun hyes => ?_,
          fun _ hfree => ?_, fun _ _ => .inl (congrArg Slot.urgent hslot)⟩⟩, hkeeps _ rfl, fun _ hw => ?_⟩
        · rw [hsq] at hyes; cases hyes
        · rw [← hplace, hp] at hfree; cases hfree
        · exact absurd ((congrArg Slot.state hslot).symm.trans hw) (by show (u.slot i).state ≠ _; rw [hu]; nofun)

/-- It stays so while the reader is told and the turn ends. -/
theorem State.ChangedIn.closes (h : s.ChangedIn v i r) (k : v.Closes t) :
    s.dirtied t i r ∧ s.writesUrgently t.cache t.port i := by
  obtain ⟨z, hz, htended⟩ := k.slots i
  simp only [Slot.marks, Prod.mk.injEq] at hz
  obtain ⟨hrecord, hqueued, hurgent, -, -⟩ := hz
  have htaken : v.port.job = some (.writeBack i) → t.port.job = some (.writeBack i) := k.job _
  have hdirtied : (s.slot i).dirtied z s.clock.seconds (v.port.job = some (.writeBack i)) r :=
    Slot.dirtied_congr h.dirtied rfl hrecord
  refine ⟨Slot.dirtied_tended hdirtied htended htaken, fun hw => ?_, fun hw => ⟨fun hq => ?_, fun hq hp => ?_, fun hq hp => ?_⟩⟩
  · have hzw : z.state = .writing := (hdirtied.2.1 hw).1
    show (t.slot i).urgent = true
    rw [htended.eq_of_not_dirty (by rw [hzw]; nofun)]
    exact hurgent.trans (h.urgent.1 hw)
  · rcases (h.urgent.2 hw).1 hq with hy | hy
    · exact htended.wbQueued_or (hqueued.trans hy)
    · exact .inr (htaken hy)
  · rcases (h.urgent.2 hw).2.1 hq hp with ⟨hy, hm⟩ | hy
    · rcases htended.wbQueued_or (hqueued.trans hy) with hyes | hyes
      · exact (k.queue _ hm).imp (fun hm => ⟨hyes, hm⟩) id
      · exact .inr hyes
    · exact .inr (htaken hy)
  · rcases (h.urgent.2 hw).2.2 hq hp with hy | hy
    · exact htended.urgent_or (hurgent.trans hy)
    · exact .inr (htaken hy)

/-- What a second change of the record leaves once the port has taken the write-back of the first (R38, R39, R42). -/
structure State.ChangedTwice (s v : State) (i : Fin 128) (r : Rec) : Prop where
  idle : s.port.job = none
  taken : v.port.job = some (.writeBack i)
  before : (s.slot i).state ≠ .writing
  after : (v.slot i).state = .writing
  content : (v.slot i).content = some r
  again : (v.slot i).dirtyAgain = some ((s.slot i).dirtyAgain.getD s.clock.seconds)
  since : (v.slot i).dirtySince = if (s.slot i).state = .clean then s.clock.seconds else (s.slot i).dirtySince
  urgent : (v.slot i).urgent = true

theorem State.ChangedTwice.closes (h : s.ChangedTwice v i r) (k : v.Closes t) : s.ChangedTwice t i r := by
  obtain ⟨z, hz, htended⟩ := k.slots i
  simp only [Slot.marks, Slot.record, Prod.mk.injEq] at hz
  obtain ⟨⟨hcontent, hstate, hsince, hagain⟩, -, hurgent, -, -⟩ := hz
  have hkept := htended.eq_of_not_dirty (by rw [hstate, h.after]; nofun)
  rw [← hkept] at hcontent hstate hsince hagain hurgent
  exact ⟨h.idle, k.job _ h.taken, h.before, hstate.trans h.after, hcontent.trans h.content, hagain.trans h.again,
    hsince.trans h.since, hurgent.trans h.urgent⟩

/-- A record changed a second time, its write-back asked for again. -/
theorem State.ChangedIn.again {r' : Rec} (h : s.ChangedIn v i r')
    (hmarks : (u.slot i).marks = ((v.slot i).changed s.clock.seconds r).marks) (hport : u.port = v.port) :
    s.ChangedIn (u.urgentWrite i) i r ∨ s.ChangedTwice (u.urgentWrite i) i r := by
  obtain ⟨⟨hcontent, hwasWriting, hwasOther⟩, ⟨hurgentW, hurgentO⟩, hkept, hstarted⟩ := h
  simp only [Slot.marks, Slot.record, Prod.mk.injEq] at hmarks
  obtain ⟨⟨hucontent, hustate, husince, huagain⟩, huqueued, huurgent, -, -⟩ := hmarks
  have hkeeps (w : State) (hw : w.port = u.port) (j : Job) (hj : s.port.job = some j) : w.port.job = some j := by
    rw [hw, hport]; exact hkept j hj
  have hcontent' : ((v.slot i).changed s.clock.seconds r).content = some r := rfl
  by_cases hwriting : (s.slot i).state = .writing
  · obtain ⟨hv, hsince, hagain⟩ := hwasWriting hwriting
    have hu : (u.slot i).state = .writing := by rw [hustate]; simp [Slot.changed, hv]
    rw [State.urgentWrite_of_writing hu]
    have hslot : (u.setSlot i (u.slot i).urged).slot i = (u.slot i).urged := State.slot_setSlot_same _ _ _
    refine .inl ⟨?_, ⟨fun _ => congrArg Slot.urgent hslot, fun hno => absurd hwriting hno⟩, hkeeps _ rfl,
      fun hno => absurd hwriting hno⟩
    unfold State.dirtied Slot.dirtied
    rw [hslot]
    refine ⟨hucontent.trans hcontent', fun _ => ⟨hu, husince.trans ?_, huagain.trans ?_⟩, fun hno => absurd hwriting hno⟩
    · simpa [Slot.changed, hv] using hsince
    · simp [Slot.changed, hv, hagain]
  · obtain ⟨hv, hagain, hsince⟩ := hwasOther hwriting
    obtain ⟨hcarried, hfree, hfull⟩ := hurgentO hwriting
    rcases hv with hv | ⟨hv, htaken⟩
    · -- the port has not begun to write the first change
      have hu : (u.slot i).state = .dirty := by rw [hustate]; simp [Slot.changed, hv]
      have husince : (u.slot i).dirtySince = (v.slot i).dirtySince := husince.trans (by simp [Slot.changed, hv])
      have huagain : (u.slot i).dirtyAgain = (v.slot i).dirtyAgain := huagain.trans (by simp [Slot.changed, hv])
      have huqueued : (u.slot i).wbQueued = (v.slot i).wbQueued := huqueued
      have huurgent : (u.slot i).urgent = (v.slot i).urgent := huurgent
      have hdirtied (p : Prop) : (s.slot i).dirtied (u.slot i) s.clock.seconds p r :=
        ⟨hucontent.trans hcontent', fun hw => absurd hw hwriting, fun _ => ⟨.inl hu, huagain.trans hagain, husince.trans hsince⟩⟩
      refine .inl ?_
      by_cases hq : (u.slot i).wbQueued = true
      · rw [State.urgentWrite_of_queued hu hq]
        refine ⟨hdirtied _, ⟨fun hw => absurd hw hwriting, fun _ => ⟨fun _ => .inl hq, fun hno hp => ?_, fun hno hp => ?_⟩⟩,
          hkeeps _ rfl, fun _ hw => ?_⟩
        · rw [hport]; exact (hfree hno hp).imp_left fun hm => ⟨hq, hm.2⟩
        · rw [hport]; exact (hfull hno hp).imp_left fun hm => huurgent.trans hm
        · rw [hu] at hw; cases hw
      · have hq : (u.slot i).wbQueued = false := Bool.eq_false_iff.mpr hq
        by_cases hp : u.hasPlace = true
        · obtain ⟨htended, hmem, hjob, hidle⟩ := State.urgentWrite_free_slot hu hq hp
          generalize u.urgentWrite i = w at htended hmem hjob hidle
          refine ⟨?_, ⟨fun hw => absurd hw hwriting, fun _ => ⟨fun _ => ?_, fun _ _ => ?_, fun hno hfull' => ?_⟩⟩,
            fun j hj => hjob j (hkeeps u rfl j hj), fun _ hw => ?_⟩
          · exact Slot.dirtied_tended (Slot.dirtied_congr (hdirtied _) rfl (y' := { u.slot i with wbQueued := true }) rfl) htended id
          · exact htended.wbQueued_or rfl
          · by_cases htaken : w.port.job = some (.writeBack i)
            · exact .inr htaken
            · exact .inl ⟨(htended.wbQueued_or rfl).resolve_right htaken, hmem.resolve_right htaken⟩
          · rcases hfull hno hfull' with hy | hy
            · exact htended.urgent_or (huurgent.trans hy)
            · exact .inr (hjob _ (by rw [hport]; exact hy))
          · obtain ⟨htaken, -⟩ := (htended.state_or hu).resolve_left (by rw [hw]; nofun)
            refine ⟨?_, htaken⟩
            cases hs : s.port.job with
            | none => rfl
            | some j => exact (hkeeps u rfl j hs).symm.trans (hidle hw)
        · have hp : u.hasPlace = false := Bool.eq_false_iff.mpr hp
          rw [State.urgentWrite_of_full hu hq hp]
          have hslot : (u.setSlot i (u.slot i).urged).slot i = (u.slot i).urged := State.slot_setSlot_same _ _ _
          have hjob : (u.setSlot i (u.slot i).urged).port = v.port := hport
          refine ⟨?_, ⟨fun hw => absurd hw hwriting, fun _ => ⟨fun hyes => ?_, fun hno hfree' => ?_,
            fun _ _ => .inl (congrArg Slot.urgent hslot)⟩⟩, hkeeps _ rfl, fun _ hw => ?_⟩
          · exact Slot.dirtied_congr (hdirtied _) rfl ((congrArg Slot.record hslot).trans rfl)
          · rw [hjob]
            exact .inr ((hcarried hyes).resolve_left (by show ¬(v.slot i).wbQueued = true; rw [← huqueued, hq]; nofun))
          · rw [hjob]
            exact .inr ((hfree hno hfree').resolve_left fun hy => by
              have : (v.slot i).wbQueued = true := hy.1
              rw [← huqueued, hq] at this; cases this)
          · exact absurd ((congrArg Slot.state hslot).symm.trans hw) (by show (u.slot i).state ≠ _; rw [hu]; nofun)
    · -- the port writes the first change
      have hu : (u.slot i).state = .writing := by rw [hustate]; simp [Slot.changed, hv]
      obtain ⟨hidle, htaken⟩ := hstarted hwriting hv
      rw [State.urgentWrite_of_writing hu]
      have hslot : (u.setSlot i (u.slot i).urged).slot i = (u.slot i).urged := State.slot_setSlot_same _ _ _
      refine .inr ⟨hidle, (congrArg Port.job hport).trans htaken, hwriting, ?_, ?_, ?_, ?_, congrArg Slot.urgent hslot⟩
      · exact (congrArg Slot.state hslot).trans hu
      · exact (congrArg Slot.content hslot).trans (hucontent.trans hcontent')
      · exact (congrArg Slot.dirtyAgain hslot).trans (huagain.trans (by simp [Slot.changed, hv, hagain]))
      · exact (congrArg Slot.dirtySince hslot).trans (husince.trans (by simpa [Slot.changed, hv] using hsince))

end Sys2Proof.Machine
end

section
/-! PROOF. Muster offers (O46). -/
namespace Sys2Proof.Machine
set_option Elab.async false
variable {s t u v w p q : State} {n : Fin 4} {e y : Entry} {seq : Byte} {card : CardId} {b : Binding} {x : IndexEntry}
  {i : Fin 128} {g : Guest} {m : Nat} {order : List (Fin 128)}

/-! ## The counts are moved by their own rule, whatever else has changed -/

/-- Two states with the same counts. -/
def State.counts (s : State) := (s.landing, s.muster, s.straps)

theorem State.leaveAboard_counts (h : t.counts = s.counts) (a : AboardEntry) : (t.leaveAboard a).counts = (s.leaveAboard a).counts := by
  simp only [State.counts, Prod.mk.injEq] at h ⊢
  simp only [State.leaveAboard, h, and_self]

theorem State.goAboard_counts (h : t.counts = s.counts) (a : AboardEntry) : (t.goAboard a).counts = (s.goAboard a).counts := by
  simp only [State.counts, Prod.mk.injEq] at h ⊢
  simp only [State.goAboard, h, and_self]

theorem State.leaveRoster_counts (h : t.counts = s.counts) (a : RosterEntry) : (t.leaveRoster a).counts = (s.leaveRoster a).counts := by
  simp only [State.counts, Prod.mk.injEq] at h ⊢
  simp only [State.leaveRoster, h, and_self]

theorem State.goAshore_counts (h : t.counts = s.counts) (a : RosterEntry) : (t.goAshore a).counts = (s.goAshore a).counts := by
  simp only [State.counts, Prod.mk.injEq] at h ⊢
  simp only [State.goAshore, h, and_self]

theorem State.landing_of_counts (h : t.counts = s.counts) : t.landing = s.landing := congrArg (·.1) h
theorem State.muster_of_counts (h : t.counts = s.counts) : t.muster = s.muster := congrArg (·.2.1) h

/-- The first half of leaving every count. -/
def State.countOutAboard (s : State) (n : Fin 2048) (mustered : Bool) : State :=
  match s.landing.aboardOf n with | some x => s.leaveAboard (x.tested mustered) | none => s

theorem State.countOut_counts (h : t.counts = s.counts) (k : Fin 2048) (c : Bool) : (t.countOut k c).counts = (s.countOut k c).counts := by
  have hfirst : (t.countOutAboard k c).counts = (s.countOutAboard k c).counts := by
    unfold State.countOutAboard
    rw [State.landing_of_counts h]
    cases s.landing.aboardOf k with
    | none => exact h
    | some a => exact State.leaveAboard_counts h _
  show (match (t.countOutAboard k c).landing.rosterOf k with
      | some a => (t.countOutAboard k c).leaveRoster a | none => t.countOutAboard k c).counts =
    (match (s.countOutAboard k c).landing.rosterOf k with
      | some a => (s.countOutAboard k c).leaveRoster a | none => s.countOutAboard k c).counts
  rw [State.landing_of_counts hfirst]
  cases (s.countOutAboard k c).landing.rosterOf k with
  | none => exact hfirst
  | some a => exact State.leaveRoster_counts hfirst a

theorem State.countIn_counts (h : t.counts = s.counts) (k : Fin 2048) (g : Guest) (c : Bool) :
    (t.countIn k g c).counts = (s.countIn k g c).counts := by
  unfold State.countIn
  dsimp only
  cases g.aboardEntry k c with
  | none =>
    cases g.rosterEntry k with
    | none => exact h
    | some a => exact State.goAshore_counts h a
  | some a =>
    cases g.rosterEntry k with
    | none => exact State.goAboard_counts h a
    | some a' => exact State.goAshore_counts (State.goAboard_counts h a) a'

theorem State.counted_of_counts (h : t.counts = s.counts) (k : Fin 2048) : t.counted k = s.counted k := by
  simp only [State.counts, Prod.mk.injEq] at h
  simp only [State.counted, State.service, h]

theorem State.musterIn_counts (h : t.counts = s.counts) (k : Fin 2048) : (t.musterIn k).counts = (s.musterIn k).counts := by
  unfold State.musterIn
  rw [State.counted_of_counts h, State.landing_of_counts h]
  split
  · split
    · exact h
    · exact State.goAboard_counts (State.leaveAboard_counts h _) _
  · exact h

/-- The muster itself, its counts apart. -/
def Muster.run (r : Muster) := (r.active, r.beginStamp)

theorem Muster.run_modMustered (r : Muster) (a : AboardEntry) (f : Nat → Nat) : (r.modMustered a f).run = r.run := by
  unfold Muster.modMustered
  split
  · split <;> rfl
  · rfl

theorem State.countOut_run (s : State) (k : Fin 2048) (c : Bool) : (s.countOut k c).muster.run = s.muster.run := by
  unfold State.countOut
  dsimp only
  split
  · split
    · exact Muster.run_modMustered _ _ _
    · rfl
  · split
    · exact Muster.run_modMustered _ _ _
    · rfl

theorem State.countIn_run (s : State) (k : Fin 2048) (g : Guest) (c : Bool) : (s.countIn k g c).muster.run = s.muster.run := by
  unfold State.countIn
  dsimp only
  split
  · split
    · exact Muster.run_modMustered _ _ _
    · rfl
  · split
    · exact Muster.run_modMustered _ _ _
    · rfl

theorem Muster.has_congr {r r' : Muster} (h : r'.run = r.run) (g : Guest) : r'.has g = r.has g := by
  simp only [Muster.run, Prod.mk.injEq] at h
  simp only [Muster.has, h]

/-! ## The state in which the owner of an offer decides -/

/-- What stays while an offer's records are found. -/
def State.unready (s : State) :=
  (s.mem, s.clock, s.power, s.index, s.port, s.router, s.counts, (s.journal.head, s.journal.tail, s.journal.next))

/-- An offer's records have been found: its entry stands, its slots are the most recent, and at most m notices have been queued. -/
structure State.Ready (s q : State) (n : Fin 4) (y : Entry) (order : List (Fin 128)) (m : Nat) : Prop where
  same : q.unready = s.unready
  slots : ∀ k, (q.slot k).marks = (s.slot k).marks
  recency : q.cache.recency = order
  entry : q.entryAt n y.drop = some y
  notices : s.keepsNotices q
  count : q.notices.items.length ≤ s.notices.items.length + m

namespace State.Ready

theorem ofArrives (h : s.Arrives p n e seq) : ∃ y, s.Ready p n y s.cache.recency 2 ∧ y.drop = e.drop ∧ y.lastSeq = some seq := by
  obtain ⟨y, hy, hseq, -⟩ := h.entry
  have hdrop : y.drop = e.drop := (State.isAt_of_entryAt hy).2
  refine ⟨y, ⟨?_, fun k => by rw [h.slot k]; rfl, h.recency, by rw [hdrop]; exact hy, h.notices, h.noticesLength⟩, hdrop, hseq⟩
  simp only [State.unready, State.counts, h.mem, h.clock, h.power, h.index, h.port, h.router, h.landing, h.muster, h.straps,
    h.head, h.tail, h.next]

variable (h : s.Ready q n y order m)
include h

theorem touch (i : Fin 128) : s.Ready (q.touch i) n y (i :: order.erase i) m :=
  ⟨h.same, h.slots, by rw [← h.recency]; rfl, h.entry, h.notices, h.count⟩

theorem notify (body : NoticeBody) : s.Ready (q.notify body) n y order (m + 1) :=
  ⟨h.same, h.slots, h.recency, h.entry, h.notices.notify, (NoticeQueue.length_push q body).trans (Nat.succ_le_succ h.count)⟩

theorem counts : q.counts = s.counts := congrArg (·.2.2.2.2.2.2.1) h.same
theorem muster : q.muster = s.muster := State.muster_of_counts h.counts
theorem landing : q.landing = s.landing := State.landing_of_counts h.counts
theorem clock : q.clock = s.clock := congrArg (·.2.1) h.same
theorem port : q.port = s.port := congrArg (·.2.2.2.2.1) h.same
theorem power : q.power = s.power := congrArg (·.2.2.1) h.same
theorem mem : q.mem = s.mem := congrArg (·.1) h.same
theorem index : q.index = s.index := congrArg (·.2.2.2.1) h.same

theorem recordsKept : s.recordsKept q :=
  ⟨fun k => ⟨congrArg (·.2.2.2.1) (h.slots k), congrArg (·.1.1) (h.slots k)⟩, h.index,
    congrArg (·.2.2.2.2.2.2.2.2.2) h.same, congrArg (·.2.2.2.2.2.2.2.1) h.same, congrArg (·.2.2.2.2.2.2.2.2.1) h.same, h.mem⟩

end State.Ready

/-- A record found, and cached as it is asked for (R32). -/
theorem State.gather_hit (hfind : p.find (.guest x.record) = .hit i) (hcontent : (p.slot i).content = some (.guest g)) (e : Entry)
    (seq : Byte) (card : CardId) : p.gather e seq card x false = (p.touch i, .ready i g none) := by
  have hask (z : Waiter) : p.ask (.guest x.record) z = (p.touch i, .hit i) := by simp only [State.ask, hfind]
  have hslot : ((p.touch i).slot i).content = some (.guest g) := hcontent
  simp only [State.gather, hask, hslot]

/-! ## The checks (R169) -/

/-- Why a muster offer is refused, if it is. -/
def musterReason (active : Bool) (g : Guest) : Reason :=
  if g.status ≠ .active ∧ g.status ≠ .suspended then .notActive
  else if active = false then .noMuster
  else if g.presence ≠ .aboard ∧ g.presence ≠ .ashore then .notAboard
  else .none

theorem State.musterRefusal_eq (q : State) (g : Guest) : q.musterRefusal g =
    if musterReason q.muster.active g = .none then none else some (musterReason q.muster.active g) := by
  unfold State.musterRefusal musterReason refuseUnless
  cases g.status <;> cases q.muster.active <;> cases g.presence <;> simp

theorem refusing_muster (r : Reason) : denial .muster r = refusing .muster r := rfl

/-! ## The record in slot i is changed -/

/-- What a change of one record and its urgent write-back leave besides its slot, the counts and the port's queue. -/
structure State.Carries (s v : State) (n : Fin 4) (y : Entry) (i : Fin 128) (order : List (Fin 128)) (m : Nat) : Prop where
  mem : v.mem = s.mem
  index : v.index = s.index
  clock : v.clock = s.clock
  waiting : v.port.waiting = s.port.waiting
  others : ∀ k, k ≠ i → (v.slot k).content = (s.slot k).content
  recency : v.cache.recency = order
  entry : v.entryAt n y.drop = some y
  notices : s.keepsNotices v
  count : v.notices.items.length ≤ s.notices.items.length + m

theorem State.Ready.carries (h : s.Ready q n y order m) (i : Fin 128) : s.Carries q n y i order m :=
  ⟨h.mem, h.index, h.clock, by rw [h.port], fun k _ => congrArg (·.1.1) (h.slots k), h.recency, h.entry, h.notices, h.count⟩

theorem State.Carries.notify (h : s.Carries v n y i order m) (body : NoticeBody) : s.Carries (v.notify body) n y i order (m + 1) :=
  ⟨h.mem, h.index, h.clock, h.waiting, h.others, h.recency, h.entry, h.notices.notify,
    (NoticeQueue.length_push v body).trans (Nat.succ_le_succ h.count)⟩

theorem State.Carries.weaken (h : s.Carries v n y i order m) {m' : Nat} (hm : m ≤ m') : s.Carries v n y i order m' :=
  { h with count := h.count.trans (Nat.add_le_add_left hm _) }

/-- What the counts' moves leave. -/
def State.carried (s : State) := (s.mem, s.index, s.clock, s.power, s.port, s.cache, s.entries, s.notices)

theorem State.urgentWrite_frame (u : State) (i : Fin 128) : (u.urgentWrite i).port.waiting = u.port.waiting
    ∧ (u.urgentWrite i).cache.recency = u.cache.recency
    ∧ ∀ k, k ≠ i → ((u.urgentWrite i).slot k).content = (u.slot k).content := by
  have hset (z : Slot) : (u.setSlot i z).port.waiting = u.port.waiting ∧ (u.setSlot i z).cache.recency = u.cache.recency
      ∧ ∀ k, k ≠ i → ((u.setSlot i z).slot k).content = (u.slot k).content :=
    ⟨rfl, rfl, fun k hk => by rw [State.slot_setSlot, if_neg hk]⟩
  have hsame : u.port.waiting = u.port.waiting ∧ u.cache.recency = u.cache.recency
      ∧ ∀ k, k ≠ i → (u.slot k).content = (u.slot k).content := ⟨rfl, rfl, fun _ _ => rfl⟩
  unfold State.urgentWrite
  dsimp only
  split
  · split
    · exact hsame
    · split
      · set z := (u.setSlot i { u.slot i with wbQueued := true }).setQueue (u.port.queue ++ [.writeBack i])
        have harr : z.Arranges (u.queueWriteBack i) := (State.Arranges.refl z).pump
        obtain ⟨-, hrecency, hothers⟩ := hset { u.slot i with wbQueued := true }
        exact ⟨State.pump_waiting _, harr.recency.trans hrecency, fun k hk => (harr.slots k).kept.2.1.trans (hothers k hk)⟩
      · exact hset _
  · exact hset _
  · exact hsame

theorem State.Carries.changeUrgent {r : Rec} (h : s.Carries v n y i order m) (hu : u.carried = (v.change i r).carried) :
    s.Carries (u.urgentWrite i) n y i (i :: order.erase i) m := by
  simp only [State.carried, Prod.mk.injEq] at hu
  obtain ⟨hmem, hindex, hclock, -, hport, hcache, hentries, hnotices⟩ := hu
  obtain ⟨hwaiting, hrecency, hothers⟩ := u.urgentWrite_frame i
  have hslot (k : Fin 128) : u.slot k = (v.change i r).slot k := by rw [State.slot, hcache]; rfl
  refine ⟨?_, ?_, ?_, ?_, fun k hk => ?_, ?_, ?_, ?_, ?_⟩
  · rw [State.urgentWrite_mem, hmem, State.change_mem, h.mem]
  · rw [State.urgentWrite_index, hindex, State.change_index, h.index]
  · rw [State.urgentWrite_clock, hclock, State.change_clock, h.clock]
  · rw [hwaiting, hport, State.change_port, h.waiting]
  · rw [hothers k hk, hslot, State.slot_change, if_neg hk, h.others k hk]
  · rw [hrecency, hcache, State.change_recency, h.recency]
  · rw [State.entryAt_congr (State.urgentWrite_entries u i), State.entryAt_congr hentries,
      State.entryAt_congr (State.change_entries v i r), h.entry]
  · exact h.notices.of_eq (by rw [State.urgentWrite_notices, hnotices, State.change_notices])
  · rw [State.urgentWrite_notices, hnotices, State.change_notices]; exact h.count

/-- The final verdict of an offer that has changed at most one record. -/
theorem State.Carries.concludes (h : s.Carries v n y i order m) (hwait : s.port.waiting = []) (seq : Byte) (verdict : Verdict)
    (asks : Bool) : let t := ((v.giveFinal n y.drop seq verdict).roundReview n).settle asks
    v.Closes t ∧ t.entryAt n y.drop = some (y.decided s.clock.seconds seq verdict) ∧ t.holdsOnly n y.drop []
    ∧ (∀ k, k ≠ i → (t.slot k).content = (s.slot k).content) ∧ t.index = s.index ∧ t.mem = s.mem ∧ t.cache.recency = order := by
  obtain ⟨hcloses, hentry, hholds⟩ := State.closes_giveFinal (h.waiting.trans hwait) h.entry seq verdict n asks
  rw [h.clock] at hentry
  exact ⟨hcloses, hentry, hholds, fun k hk => (hcloses.content k).trans (h.others k hk), hcloses.index.trans h.index,
    hcloses.mem.trans h.mem, hcloses.recency.trans h.recency⟩

/-! ## The presence corrected (R143, R171) -/

theorem Slot.marks_changed {a c : Slot} (h : a.marks = c.marks) (now : Nat) (r : Rec) :
    (a.changed now r).marks = (c.changed now r).marks := by
  simp only [Slot.marks, Slot.record, Prod.mk.injEq] at h
  obtain ⟨⟨-, hstate, hsince, hagain⟩, hqueued, hurgent, hkey, hpending⟩ := h
  simp only [Slot.marks, Slot.record, Slot.changed, hstate, hsince, hagain, hqueued, hurgent, hkey, hpending]

/-- The counts after a holder counted moves, its new record given (R143). -/
def State.movedCounts (s : State) (k : Fin 2048) (g g' : Guest) : State :=
  if s.counted k = true then (s.countOut k (s.muster.has g)).countIn k g' false else s

theorem State.movedCounts_counts (h : t.counts = s.counts) (k : Fin 2048) (g g' : Guest) :
    (t.movedCounts k g g').counts = (s.movedCounts k g g').counts := by
  unfold State.movedCounts
  rw [State.counted_of_counts h, State.muster_of_counts h]
  split
  · exact State.countIn_counts (State.countOut_counts h k _) k g' false
  · exact h

theorem State.movedCounts_carried (s : State) (k : Fin 2048) (g g' : Guest) : (s.movedCounts k g g').carried = s.carried := by
  unfold State.movedCounts
  split
  · simp [State.carried]
  · rfl

theorem State.movedCounts_run (s : State) (k : Fin 2048) (g g' : Guest) : (s.movedCounts k g g').muster.run = s.muster.run := by
  unfold State.movedCounts
  split
  · rw [State.countIn_run, State.countOut_run]
  · rfl

theorem State.presenceChange_eq (v : State) (i : Fin 128) (k : Fin 2048) (g : Guest) (pr : Presence) (site : Option (Fin 4)) :
    v.presenceChange i k g pr site =
      ((v.change i (.guest (v.movedGuest g pr site))).movedCounts k g (v.movedGuest g pr site)).urgentWrite i := rfl

theorem State.change_counts (v : State) (i : Fin 128) (r : Rec) : (v.change i r).counts = v.counts := by
  simp [State.counts]

theorem State.urgentWrite_counts (v : State) (i : Fin 128) : (v.urgentWrite i).counts = v.counts := by
  simp [State.counts]

/-- The first change of an offer. -/
theorem State.Ready.changedIn {r : Rec} (h : s.Ready q n y order m)
    (hstate : (s.slot i).state = .clean ∨ (s.slot i).state = .dirty ∨ (s.slot i).state = .writing)
    (hu : u.carried = (q.change i r).carried) : s.ChangedIn (u.urgentWrite i) i r := by
  simp only [State.carried, Prod.mk.injEq] at hu
  obtain ⟨-, -, -, hpower, hport, hcache, -, -⟩ := hu
  refine State.changedIn_urgentWrite hstate ?_ (hport.trans ((State.change_port q i _).trans h.port))
    (hpower.trans ((State.change_power q i _).trans h.power))
  have hslot : u.slot i = (q.change i r).slot i := by rw [State.slot, hcache]; rfl
  rw [hslot, State.slot_change, if_pos rfl, h.clock]
  exact Slot.marks_changed (h.slots i) _ _

/-- The second change of an offer. -/
theorem State.ChangedIn.changedAgain {r r' : Rec} (h : s.ChangedIn v i r') (hclock : v.clock = s.clock)
    (hu : u.carried = (v.change i r).carried) : s.ChangedIn (u.urgentWrite i) i r ∨ s.ChangedTwice (u.urgentWrite i) i r := by
  simp only [State.carried, Prod.mk.injEq] at hu
  obtain ⟨-, -, -, -, hport, hcache, -, -⟩ := hu
  refine h.again ?_ (hport.trans (State.change_port v i _))
  have hslot : u.slot i = (v.change i r).slot i := by rw [State.slot, hcache]; rfl
  rw [hslot, State.slot_change, if_pos rfl, hclock]

/-- A presence change at a decision: the record, its urgent write-back and the counts. -/
theorem State.Ready.presenceChange (h : s.Ready q n y order m)
    (hstate : (s.slot i).state = .clean ∨ (s.slot i).state = .dirty ∨ (s.slot i).state = .writing) (k : Fin 2048) (g : Guest)
    (pr : Presence) (site : Option (Fin 4)) :
    let v := q.presenceChange i k g pr site
    let g' := q.movedGuest g pr site
    s.ChangedIn v i (.guest g') ∧ s.Carries v n y i (i :: order.erase i) m ∧ v.counts = (s.movedCounts k g g').counts := by
  rw [State.presenceChange_eq]
  generalize q.movedGuest g pr site = g'
  set u := (q.change i (.guest g')).movedCounts k g g' with hu
  have hcarried : u.carried = (q.change i (.guest g')).carried := State.movedCounts_carried _ k g g'
  have hcounts : u.counts = (s.movedCounts k g g').counts :=
    State.movedCounts_counts ((q.change_counts i _).trans h.counts) k g g'
  clear_value u
  exact ⟨h.changedIn hstate hcarried, (h.carries i).changeUrgent hcarried, (u.urgentWrite_counts i).trans hcounts⟩

/-! ## The holder is counted (R164, R170) -/

/-- A record changed in slot i, perhaps twice. -/
def State.Altered (s v : State) (i : Fin 128) (r : Rec) (twice : Prop) : Prop := s.ChangedIn v i r ∨ twice ∧ s.ChangedTwice v i r

theorem State.Altered.notify {r : Rec} {twice : Prop} (h : s.Altered v i r twice) (body : NoticeBody) :
    s.Altered (v.notify body) i r twice :=
  h.imp (fun h => ⟨h.dirtied, h.urgent, h.job, h.started⟩) fun ⟨ht, h⟩ =>
    ⟨ht, h.idle, h.taken, h.before, h.after, h.content, h.again, h.since, h.urgent⟩

/-- What the muster unit's last step leaves: the verdict is given in v, whose holder has the mustered record. -/
theorem State.musterHolder_eq (v : State) (a : Entry) (seq : Byte) (b : Binding) (k : Fin 2048) (i : Fin 128) (g : Guest) :
    let g' : Guest := { g with musterStamp := some (max v.now v.muster.beginStamp) }
    let w := ((v.change i (.guest g')).musterIn k).urgentWrite i
    v.musterHolder a seq b k i g =
      if g.station.val + 1 = b.locus then w.giveFinal a.line a.drop seq (w.musterVerdict .mustered g')
      else (w.notify (.wrongStation a.line a.drop k g.category g.station b.locus (max v.now v.muster.beginStamp))).giveFinal
        a.line a.drop seq (w.musterVerdict .musteredElsewhere g') := rfl

theorem State.musterIn_carried (u : State) (k : Fin 2048) : (u.musterIn k).carried = u.carried := by
  simp [State.carried]

/-- The figures of a muster verdict. -/
def State.musterFigures (s : State) (g : Guest) : VResult :=
  match g.category with
  | .guest => .muster (some g.station) s.muster.mustered[g.station] s.landing.stations[g.station]
  | .crew => .muster none s.muster.crewMustered s.landing.aboardCrew

theorem State.musterVerdict_eq (w : State) (kind : VerdictKind) (g : Guest) :
    w.musterVerdict kind g = { kind := kind, reason := .none, result := w.musterFigures g } := rfl

theorem State.musterFigures_congr (hl : t.landing = s.landing) (hm : t.muster = s.muster) (g : Guest) :
    t.musterFigures g = s.musterFigures g := by
  unfold State.musterFigures; rw [hl, hm]

/-- The figures name no stamp. -/
theorem State.musterFigures_stamp (w : State) (g : Guest) (stamp : Option Nat) :
    w.musterFigures { g with musterStamp := stamp } = w.musterFigures g := by
  unfold State.musterFigures; rfl

/-- How an offer that changed at most the record in slot i has ended: its verdict, and what it left. -/
structure State.OfferEnds (s t : State) (n : Fin 4) (y : Entry) (i : Fin 128) (seq : Byte) (verdict : Verdict)
    (order : List (Fin 128)) (c : State) : Prop where
  entry : t.entryAt n y.drop = some (y.decided s.clock.seconds seq verdict)
  holds : t.holdsOnly n y.drop []
  others : ∀ k, k ≠ i → (t.slot k).content = (s.slot k).content
  index : t.index = s.index
  mem : t.mem = s.mem
  recency : t.cache.recency = order
  landing : t.landing = c.landing
  muster : t.muster = c.muster

theorem State.Carries.offerEnds {c : State} (h : s.Carries v n y i order m) (hwait : s.port.waiting = [])
    (hcounts : v.counts = c.counts) (seq : Byte) (verdict : Verdict) (asks : Bool) :
    let t := ((v.giveFinal n y.drop seq verdict).roundReview n).settle asks
    v.Closes t ∧ s.OfferEnds t n y i seq verdict order c := by
  obtain ⟨hcloses, hentry, hholds, hothers, hindex, hmem, hrecency⟩ := h.concludes hwait seq verdict asks
  exact ⟨hcloses, hentry, hholds, hothers, hindex, hmem, hrecency, hcloses.landing.trans (State.landing_of_counts hcounts),
    hcloses.muster.trans (State.muster_of_counts hcounts)⟩

/-- A holder not yet mustered is counted. -/
theorem State.Carries.musterHolder {c : State} {twice : Prop} {a : Entry} {k : Fin 2048} (h : s.Carries v n y i order m)
    (hwait : s.port.waiting = []) (hcounts : v.counts = c.counts) (hl : a.line = n) (hd : a.drop = y.drop)
    (halter : ∀ (u : State) (r : Rec), u.carried = (v.change i r).carried → s.Altered (u.urgentWrite i) i r twice)
    {stamp : Nat} (hs : stamp = max s.clock.seconds c.muster.beginStamp) (seq : Byte) (b : Binding) (g : Guest) {asks : Bool}
    (ht : t = ((v.musterHolder a seq b k i g).roundReview n).settle asks) :
    ∃ w, s.Altered w i (.guest { g with musterStamp := some stamp }) twice ∧ w.Closes t
    ∧ s.OfferEnds t n y i seq
      { kind := if g.station.val + 1 = b.locus then .mustered else .musteredElsewhere, reason := .none, result := t.musterFigures g }
      (i :: order.erase i) (c.musterIn k)
    ∧ v.keepsNotices t
    ∧ (s.notices.items.length + m < 64 → ¬g.station.val + 1 = b.locus →
        t.noticed (.wrongStation n y.drop k g.category g.station b.locus stamp)) := by
  have hstamp : max v.now v.muster.beginStamp = stamp := by
    rw [State.now, h.clock, State.muster_of_counts hcounts, hs]
  rw [State.musterHolder_eq, hstamp, hl, hd] at ht
  set g' : Guest := { g with musterStamp := some stamp } with hg'
  set u := (v.change i (.guest g')).musterIn k with hu
  have hcarried : u.carried = (v.change i (.guest g')).carried := State.musterIn_carried _ k
  have hucounts : u.counts = (c.musterIn k).counts := State.musterIn_counts ((v.change_counts i _).trans hcounts) k
  clear_value u
  have haltered := halter u _ hcarried
  have hcarries := h.changeUrgent hcarried
  have hwcounts := (u.urgentWrite_counts i).trans hucounts
  have hkeeps : v.keepsNotices (u.urgentWrite i) := by
    simp only [State.carried, Prod.mk.injEq] at hcarried
    obtain ⟨-, -, -, -, -, -, -, hnotices⟩ := hcarried
    exact (State.keepsNotices.refl v).of_eq (by rw [State.urgentWrite_notices, hnotices, State.change_notices])
  generalize u.urgentWrite i = w at ht haltered hcarries hwcounts hkeeps
  have hstamped (z : State) : z.musterFigures g' = z.musterFigures g := z.musterFigures_stamp g _
  clear_value g'
  by_cases hhere : g.station.val + 1 = b.locus
  · simp only [if_pos hhere] at ht ⊢
    obtain ⟨hcloses, hends⟩ := hcarries.offerEnds hwait hwcounts seq (w.musterVerdict .mustered g') asks
    rw [← ht] at hcloses hends
    have hsame : w.musterFigures g' = _ := (hstamped w).trans (State.musterFigures_congr hcloses.landing hcloses.muster g).symm
    rw [State.musterVerdict_eq, hsame] at hends
    exact ⟨w, haltered, hcloses, hends, hkeeps.trans hcloses.notices, fun _ hno => absurd hhere hno⟩
  · simp only [if_neg hhere] at ht ⊢
    set body : NoticeBody := .wrongStation n y.drop k g.category g.station b.locus stamp
    obtain ⟨hcloses, hends⟩ := (hcarries.notify body).offerEnds hwait hwcounts seq (w.musterVerdict .musteredElsewhere g') asks
    rw [← ht] at hcloses hends
    have hsame : w.musterFigures g' = _ :=
      (hstamped w).trans (State.musterFigures_congr (s := w) hcloses.landing hcloses.muster g).symm
    rw [State.musterVerdict_eq, hsame] at hends
    refine ⟨w.notify body, haltered.notify body, hcloses, hends, hkeeps.notify.trans hcloses.notices, fun hroom _ => ?_⟩
    exact hcloses.notices.noticed (State.noticed_notify (lt_of_le_of_lt hcarries.count hroom))

/-! ## The holder aboard, and the holder corrected (R170, R171) -/

/-- What a muster offer past its checks leaves: its verdict, the record changed or not, and the counts. -/
structure State.MusterEnds (s t : State) (n : Fin 4) (y : Entry) (i : Fin 128) (seq : Byte) (b : Binding) (k : Fin 2048)
    (g : Guest) (order : List (Fin 128)) (c : State) (twice : Prop) : Prop where
  repeated : s.muster.has g = true →
    s.OfferEnds t n y i seq { kind := .repeated, reason := .none, result := t.musterFigures g } order c
  mustered : ∀ stamp, stamp = max s.clock.seconds s.muster.beginStamp → s.muster.has g = false →
    s.OfferEnds t n y i seq
      { kind := if g.station.val + 1 = b.locus then .mustered else .musteredElsewhere, reason := .none, result := t.musterFigures g }
      order (c.musterIn k)
    ∧ (∃ w, s.Altered w i (.guest { g with musterStamp := some stamp }) twice ∧ w.Closes t)
    ∧ (s.notices.items.length < 56 → ¬g.station.val + 1 = b.locus →
        t.noticed (.wrongStation n y.drop k g.category g.station b.locus stamp))

theorem List.cons_erase_head (i : Fin 128) (l : List (Fin 128)) : i :: (i :: l).erase i = i :: l := by
  rw [List.erase_cons_head]

/-- A muster offer of a holder ABOARD. -/
theorem State.Ready.musterAboard {a : Entry} {k : Fin 2048} {rest : List (Fin 128)} (h : s.Ready q n y (i :: rest) 3)
    (hwait : s.port.waiting = []) (hl : a.line = n) (hd : a.drop = y.drop)
    (hstate : (s.slot i).state = .clean ∨ (s.slot i).state = .dirty ∨ (s.slot i).state = .writing)
    (hpresence : g.presence ≠ .ashore) {asks : Bool}
    (ht : t = ((q.musterCount a seq card b k i g).roundReview n).settle asks) :
    s.MusterEnds t n y i seq b k g (i :: rest) s False ∧ q.keepsNotices t ∧ (s.muster.has g = true → s.recordsKept t) := by
  have hcount : q.musterCount a seq card b k i g =
      if s.muster.has g = true then q.giveFinal n y.drop seq (q.musterVerdict .repeated g) else q.musterHolder a seq b k i g := by
    unfold State.musterCount
    split
    · next hashore => exact absurd hashore hpresence
    · rw [h.muster, hl, hd]
  by_cases hhas : s.muster.has g = true
  · rw [hcount, if_pos hhas] at ht
    obtain ⟨hcloses, hends⟩ := (h.carries i).offerEnds hwait h.counts seq (q.musterVerdict .repeated g) asks
    rw [← ht] at hcloses hends
    have hfigures := State.musterFigures_congr hcloses.landing hcloses.muster g
    rw [State.musterVerdict_eq, ← hfigures] at hends
    refine ⟨⟨fun _ => hends, fun stamp _ hno => ?_⟩, hcloses.notices, fun _ => h.recordsKept.trans hcloses.recordsKept⟩
    rw [hhas] at hno; cases hno
  · rw [hcount, if_neg hhas] at ht
    have halter (u : State) (r : Rec) (hu : u.carried = (q.change i r).carried) : s.Altered (u.urgentWrite i) i r False :=
      .inl (h.changedIn hstate hu)
    obtain ⟨w, haltered, hcloses, hends, hnotices, hwrong⟩ :=
      (h.carries i).musterHolder hwait h.counts hl hd halter rfl seq b g ht
    rw [List.cons_erase_head] at hends
    refine ⟨⟨fun hyes => absurd hyes hhas, fun stamp hs _ => ?_⟩, hnotices, fun hyes => absurd hyes hhas⟩
    rw [hs]
    exact ⟨hends, ⟨w, haltered, hcloses⟩, fun hroom => hwrong (by omega)⟩

/-- The record of an ASHORE holder once its presence is corrected (R143, R171). -/
def Guest.corrected (g : Guest) (now : Nat) : Guest := { g with presence := .aboard, stamp := now, site := none }

theorem State.movedGuest_aboard (q : State) (g : Guest) :
    q.movedGuest g .aboard none = g.corrected q.clock.seconds := by
  have hno : ¬(q.muster.active = true ∧ g.presence = .aboard ∧ Presence.aboard ≠ .aboard) := fun h => h.2.2 rfl
  unfold State.movedGuest
  rw [if_neg hno]
  rfl

theorem State.clearLeft_cases (v : State) (k : Fin 2048) (g : Guest) : v.clearLeft k g = v ∨ ∃ body, v.clearLeft k g = v.notify body := by
  unfold State.clearLeft
  split
  · split
    · exact .inr ⟨_, rfl⟩
    · exact .inl rfl
  · exact .inl rfl

theorem State.ChangedIn.notify {r : Rec} (h : s.ChangedIn v i r) (body : NoticeBody) : s.ChangedIn (v.notify body) i r :=
  ⟨h.dirtied, h.urgent, h.job, h.started⟩

/-- The state in which an ASHORE holder, corrected, is counted. -/
theorem State.Ready.corrects {a : Entry} {rest : List (Fin 128)} (h : s.Ready q n y (i :: rest) m)
    (hstate : (s.slot i).state = .clean ∨ (s.slot i).state = .dirty ∨ (s.slot i).state = .writing) (k : Fin 2048)
    (g : Guest) (card : CardId) :
    let v := ((q.anomaly a .muster card k g true).presenceChange i k g .aboard none).clearLeft k g
    let g' := g.corrected s.clock.seconds
    s.ChangedIn v i (.guest g') ∧ s.Carries v n y i (i :: rest) (m + 2) ∧ v.counts = (s.movedCounts k g g').counts
    ∧ q.keepsNotices v
    ∧ (s.notices.items.length + m < 64 → v.noticed (.presenceAnomaly a.line a.drop .muster card k g.site g.stamp true)) := by
  have hanomaly := h.notify (.presenceAnomaly a.line a.drop .muster card k g.site g.stamp true)
  obtain ⟨hchanged, hcarries, hcounts⟩ := hanomaly.presenceChange hstate k g .aboard none
  rw [State.movedGuest_aboard, hanomaly.clock, List.cons_erase_head] at *
  have hkeeps : (q.anomaly a .muster card k g true).keepsNotices
      ((q.anomaly a .muster card k g true).presenceChange i k g .aboard none) :=
    (State.keepsNotices.refl _).of_eq (State.presenceChange_notices _ _ _ _ _ _)
  have hroom : s.notices.items.length + m < 64 →
      (q.anomaly a .muster card k g true).noticed (.presenceAnomaly a.line a.drop .muster card k g.site g.stamp true) :=
    fun hroom => State.noticed_notify (lt_of_le_of_lt h.count hroom)
  have hfirst : q.keepsNotices (q.anomaly a .muster card k g true) := (State.keepsNotices.refl q).notify
  change s.ChangedIn ((q.anomaly a .muster card k g true).presenceChange i k g .aboard none) _ _ at hchanged
  change s.Carries ((q.anomaly a .muster card k g true).presenceChange i k g .aboard none) _ _ _ _ _ at hcarries
  change ((q.anomaly a .muster card k g true).presenceChange i k g .aboard none).counts = _ at hcounts
  generalize (q.anomaly a .muster card k g true).presenceChange i k g .aboard none = v at hchanged hcarries hcounts hkeeps
  rcases v.clearLeft_cases k g with hv | ⟨body, hv⟩
  · rw [hv]
    exact ⟨hchanged, hcarries.weaken (Nat.le_succ _), hcounts, hfirst.trans hkeeps, fun hr => hkeeps.noticed (hroom hr)⟩
  · rw [hv]
    exact ⟨hchanged.notify body, hcarries.notify body, hcounts, (hfirst.trans hkeeps).notify, fun hr => hkeeps.notify.noticed (hroom hr)⟩

/-- A muster offer of an ASHORE holder. -/
theorem State.Ready.musterAshore {a : Entry} {k : Fin 2048} {rest : List (Fin 128)} (h : s.Ready q n y (i :: rest) 3)
    (hwait : s.port.waiting = []) (hl : a.line = n) (hd : a.drop = y.drop)
    (hstate : (s.slot i).state = .clean ∨ (s.slot i).state = .dirty ∨ (s.slot i).state = .writing)
    (hpresence : g.presence = .ashore) {g' : Guest} (hg : g' = g.corrected s.clock.seconds) {asks : Bool}
    (ht : t = ((q.musterCount a seq card b k i g).roundReview n).settle asks) :
    s.MusterEnds t n y i seq b k g' (i :: rest) (s.movedCounts k g g') True ∧ q.keepsNotices t
    ∧ (s.muster.has g' = true → ∃ v, s.ChangedIn v i (.guest g') ∧ v.Closes t)
    ∧ (s.notices.items.length < 56 → t.noticed (.presenceAnomaly n y.drop .muster card k g.site g.stamp true)) := by
  obtain ⟨hchanged, hcarries, hcounts, hkeeps, hroom⟩ := h.corrects (a := a) hstate k g card
  have hcount : q.musterCount a seq card b k i g =
      let v := ((q.anomaly a .muster card k g true).presenceChange i k g .aboard none).clearLeft k g
      if v.muster.has g' = true then v.giveFinal a.line a.drop seq (v.musterVerdict .repeated g') else v.musterHolder a seq b k i g' := by
    have hmoved : q.movedGuest g .aboard none = g' := by rw [State.movedGuest_aboard, h.clock, hg]
    rw [← hmoved]
    unfold State.musterCount
    rw [hpresence]
  dsimp only at hcount
  rw [hl, hd] at hroom hcount
  rw [← hg] at hchanged hcounts
  rw [hcount] at ht
  generalize ((q.anomaly a .muster card k g true).presenceChange i k g .aboard none).clearLeft k g = v at *
  have hmuster : v.muster.run = s.muster.run := by
    rw [State.muster_of_counts hcounts]; exact s.movedCounts_run k g g'
  have hbegin : (s.movedCounts k g g').muster.beginStamp = s.muster.beginStamp := congrArg (·.2) (s.movedCounts_run k g g')
  have hroom : s.notices.items.length < 56 → v.noticed (.presenceAnomaly n y.drop .muster card k g.site g.stamp true) :=
    fun hr => hroom (by omega)
  rw [Muster.has_congr hmuster] at ht
  by_cases hhas : s.muster.has g' = true
  · rw [if_pos hhas] at ht
    obtain ⟨hcloses, hends⟩ := hcarries.offerEnds hwait hcounts seq (v.musterVerdict .repeated g') asks
    rw [← ht] at hcloses hends
    have hfigures := State.musterFigures_congr hcloses.landing hcloses.muster g'
    rw [State.musterVerdict_eq, ← hfigures] at hends
    refine ⟨⟨fun _ => hends, fun stamp _ hno => ?_⟩, hkeeps.trans hcloses.notices, fun _ => ⟨v, hchanged, hcloses⟩,
      fun hr => hcloses.notices.noticed (hroom hr)⟩
    rw [hhas] at hno; cases hno
  · rw [if_neg hhas] at ht
    have halter (u : State) (r : Rec) (hu : u.carried = (v.change i r).carried) : s.Altered (u.urgentWrite i) i r True :=
      (hchanged.changedAgain hcarries.clock hu).imp_right fun htwice => ⟨trivial, htwice⟩
    obtain ⟨w, haltered, hcloses, hends, hnotices, hwrong⟩ :=
      hcarries.musterHolder hwait hcounts hl hd halter rfl seq b g' ht
    rw [List.cons_erase_head] at hends
    refine ⟨⟨fun hyes => absurd hyes hhas, fun stamp hs _ => ?_⟩, hkeeps.trans hnotices, fun hyes => absurd hyes hhas,
      fun hr => hnotices.noticed (hroom hr)⟩
    rw [hs]
    rw [hbegin] at haltered hwrong
    exact ⟨hends, ⟨w, haltered, hcloses⟩, fun hr => hwrong (by omega)⟩

/-! ## The obligation -/

/-- The muster unit's decision once the card's record is found, and the turn's end. -/
theorem State.exec_musterOffer {slot : Fin 192} {dur : Nat} (hawait : s.awaitsAnswer n e) (hpower : s.power.state = .normal)
    (hkind : e.kind = .muster) (hbinding : e.binding = .bound slot) (hbound : s.bindings[slot] = some b) (hnew : e.lastSeq ≠ some seq)
    (hcard : s.index.find? (fun z => decide (z.card = card)) = some x) (hfind : s.find (.guest x.record) = .hit i)
    (hcontent : (s.slot i).content = some (.guest g)) : ∃ q y a asks, s.Ready q n y (i :: s.cache.recency.erase i) 2
      ∧ y.drop = e.drop ∧ y.lastSeq = some seq ∧ a.line = n ∧ a.drop = y.drop
      ∧ exec (.offer n dur seq card none) s = .next (((
          if musterReason s.muster.active g = .none then
            (if g.lostAt x.slot then q.lostSeen a card x.record else q).musterCount a seq card b x.record i g
          else q.giveFinal n y.drop seq (refusing .muster (musterReason s.muster.active g))).roundReview n).settle asks) := by
  obtain ⟨hreset, -, -, hcalled⟩ := hawait
  obtain ⟨p, asks, harrives, hexec⟩ := State.exec_offer (ls := none) hreset hcalled (by simp [hkind]) (.inl hnew) hpower dur card
  obtain ⟨y, hready, hdrop, hseq⟩ := State.Ready.ofArrives harrives
  refine ⟨p.touch i, y, e.answered .presented, asks, hready.touch i, hdrop, hseq, show e.line = n from State.line_of_called hcalled, hdrop.symm,
    hexec.trans ?_⟩
  have hgather := State.gather_hit (p := p) (x := x) (g := g) (by rw [harrives.find]; exact hfind)
    (by rw [harrives.slot i]; exact hcontent) (e.answered .presented) seq card
  have hbind : p.bindingOf (e.answered .presented) = some b := by
    rw [harrives.bindingOf]
    have hslot : (e.answered .presented).binding = .bound slot := hbinding
    unfold State.bindingOf
    rw [hslot]
    exact hbound
  have hlookup : p.lookupCard card = .found x := by
    rw [harrives.lookupCard, State.lookupCard, hcard]
  have hrefusal := (p.touch i).musterRefusal_eq g
  rw [(hready.touch i).muster] at hrefusal
  have howner : p.ownerDecide (e.answered .presented) seq card ((none : Option (List SaleLine)).getD []) =
      p.musterDecide (e.answered .presented) seq card := by
    unfold State.ownerDecide
    rw [show (e.answered .presented).kind = .muster from hkind]
  rw [howner]
  unfold State.musterDecide
  rw [hbind]
  dsimp only
  rw [hlookup]
  dsimp only
  rw [hgather]
  dsimp only
  rw [hrefusal]
  by_cases hreason : musterReason s.muster.active g = .none
  · simp only [if_pos hreason]
  · simp only [if_neg hreason]
    have hdeny (r : Reason) : (p.touch i).deny (e.answered .presented) seq card (some x.record) r =
        (p.touch i).giveFinal n y.drop seq (refusing .muster r) := by
      have hk : (e.answered .presented).kind = .muster := hkind
      unfold State.deny
      rw [hk, if_neg (by nofun), refusing_muster, hdrop]
      have hline : (e.answered .presented).line = n := show e.line = n from State.line_of_called hcalled
      rw [hline]
      rfl
    rw [hdeny]

theorem State.Altered.closes {r : Rec} {twice : Prop} (h : s.Altered w i r twice) (k : w.Closes t)
    (hr : t.cache.recency = i :: s.cache.recency.erase i) :
    s.changedUrgently t i r ∨ twice ∧ s.changedAgain t i r := by
  refine h.imp (fun h => ?_) (And.imp_right fun h => ?_)
  · obtain ⟨hdirtied, hurgent⟩ := h.closes k
    exact ⟨hdirtied, hurgent, hr⟩
  · obtain ⟨hidle, htaken, hbefore, hafter, hcontent, hagain, hsince, hurgent⟩ := h.closes k
    exact ⟨hidle, htaken, hbefore, hafter, hcontent, hagain, hsince, hurgent, hr⟩

theorem Muster.has_iff (r : Muster) (hactive : r.active = true) (g : Guest) :
    r.has g = true ↔ ∃ m, g.musterStamp = some m ∧ r.beginStamp ≤ m := by
  unfold Muster.has
  rw [hactive, Bool.true_and]
  cases g.musterStamp <;> simp

theorem musterReason_none {active : Bool} (h : musterReason active g = .none) :
    active = true ∧ (g.presence = .aboard ∨ g.presence = .ashore) := by
  unfold musterReason at h
  split at h
  · cases h
  · split at h
    · cases h
    · next hactive =>
      split at h
      · cases h
      · next hno =>
        refine ⟨by simpa using hactive, ?_⟩
        by_cases ha : g.presence = .aboard
        · exact .inl ha
        · exact .inr (by_contra fun hs => hno ⟨ha, hs⟩)

/-- Settles O46. -/
theorem musterOffersCountTheHolder : Obligations.MusterOffersCountTheHolder := by
  intro s n dur seq card e slot b x i g hawait hpower hkind hbinding hbound hnew hcard hfind hcontent now reason ends ashore g' u
    mustered stamp here figures
  obtain ⟨q, y, a, asks, hready, hdrop, hseq, hl, hd, hexec⟩ :=
    State.exec_musterOffer (dur := dur) hawait hpower hkind hbinding hbound hnew hcard hfind hcontent
  have hwait : s.port.waiting = [] := hawait.2.1
  have hstate := State.state_of_hit hfind
  have hreason : musterReason s.muster.active g = reason := rfl
  rw [hreason] at hexec
  have hends {t : State} {verdict : Verdict} {c : State} (ht : exec (.offer n dur seq card none) s = .next t)
      (h : s.OfferEnds t n y i seq verdict (i :: s.cache.recency.erase i) c) : ends verdict t :=
    ⟨y.decided now seq verdict, ht, by rw [← hdrop]; exact h.entry, hseq, Entry.decided_decidedAs _ _ _ _, by rw [← hdrop]; exact h.holds, h.others,
      h.index, h.mem⟩
  refine ⟨fun hno => ?_, fun hyes => ?_⟩
  · rw [if_neg hno] at hexec
    obtain ⟨hcloses, hoffer⟩ := (hready.carries i).offerEnds hwait hready.counts seq (refusing .muster reason) asks
    exact ⟨_, hends hexec hoffer, hready.recordsKept.trans hcloses.recordsKept, hoffer.landing, hoffer.muster⟩
  · obtain ⟨hactive, hpresence⟩ := musterReason_none (hreason.trans hyes)
    have hmustered : s.muster.has g' = true ↔ mustered := Muster.has_iff _ hactive _
    rw [if_pos hyes] at hexec
    -- the holder of a LOST card is reported first
    obtain ⟨q', hq', hkept, hlost⟩ : ∃ q', (if g.lostAt x.slot then q.lostSeen a card x.record else q) = q'
        ∧ s.Ready q' n y (i :: s.cache.recency.erase i) 3
        ∧ (s.notices.items.length < 56 → (g.card x.slot).map (·.state) = some .lost →
            q'.noticed (.lostCardSeen n e.drop card x.record)) := by
      refine ⟨_, rfl, ?_, fun hr hlost => ?_⟩
      · split
        · exact hready.notify _
        · exact { hready with count := hready.count.trans (Nat.le_succ _) }
      · have hlostAt : g.lostAt x.slot = true := by
          unfold Guest.lostAt
          cases hc : g.card x.slot <;> simp_all
        rw [if_pos hlostAt, ← hdrop, ← hl, ← hd]
        exact State.noticed_notify (by have := hready.count; omega)
    rw [hq'] at hexec
    set t := ((q'.musterCount a seq card b x.record i g).roundReview n).settle asks with ht
    by_cases hashore : g.presence = .ashore
    · have hg : g' = g.corrected now := if_pos hashore
      have hu : u = s.movedCounts x.record g g' := by
        unfold u State.movedCounts
        by_cases hc : s.counted x.record = true
        · rw [if_pos ⟨hashore, hc⟩, if_pos hc]
        · rw [if_neg fun h => hc h.2, if_neg hc]
      obtain ⟨hmuster, hnotices, hchanged, hanomaly⟩ := hkept.musterAshore hwait hl hd hstate hashore hg ht
      rw [← hu] at hmuster
      have hfigures : t.musterFigures g' = figures t := by rw [hg]; rfl
      have hstation : g'.station = g.station := by rw [hg]; rfl
      have hcategory : g'.category = g.category := by rw [hg]; rfl
      have hrepeated := hmuster.repeated
      have hcounted := hmuster.mustered stamp rfl
      rw [hfigures] at hrepeated hcounted
      refine ⟨fun hm => ?_, fun hm => ?_, fun hr => ⟨t, hexec, fun hl => hnotices.noticed (hlost hr hl), fun _ => ?_⟩⟩
      · have hoffer := hrepeated (hmustered.mpr hm)
        obtain ⟨v, hv, hcloses⟩ := hchanged (hmustered.mpr hm)
        obtain ⟨hdirtied, hurgent⟩ := hv.closes hcloses
        exact ⟨t, hends hexec hoffer, by rw [if_pos hashore]; exact ⟨hdirtied, hurgent, hoffer.recency⟩, hoffer.landing, hoffer.muster⟩
      · obtain ⟨hoffer, ⟨w, haltered, hcloses⟩, hwrong⟩ := hcounted (Bool.eq_false_iff.mpr fun h => hm (hmustered.mp h))
        rw [hstation] at hoffer hwrong
        rw [hcategory] at hwrong
        refine ⟨t, hends hexec hoffer, (haltered.closes hcloses hoffer.recency).imp_right fun h => ⟨hashore, h.2⟩, hoffer.landing,
          hoffer.muster, fun hr hno => ?_⟩
        rw [← hdrop]; exact hwrong hr hno
      · rw [← hdrop]; exact hanomaly hr
    · have hg : g' = g := if_neg hashore
      have hu : u = s := if_neg fun h => hashore h.1
      obtain ⟨hmuster, hnotices, hkeeps⟩ := hkept.musterAboard hwait hl hd hstate hashore ht
      rw [← hg] at hkeeps
      have hrepeated := hmuster.repeated
      have hcounted := hmuster.mustered stamp rfl
      refine ⟨fun hm => ?_, fun hm => ?_, fun hr => ⟨t, hexec, fun hl => hnotices.noticed (hlost hr hl), fun h => absurd h hashore⟩⟩
      · have hm := hmustered.mpr hm
        have hoffer := hrepeated (hg ▸ hm)
        rw [hu]
        exact ⟨t, hends hexec hoffer, by rw [if_neg hashore]; exact hkeeps hm, hoffer.landing, hoffer.muster⟩
      · have hm : s.muster.has g = false := Bool.eq_false_iff.mpr fun h => hm (hmustered.mp (hg ▸ h))
        obtain ⟨hoffer, ⟨w, haltered, hcloses⟩, hwrong⟩ := hcounted hm
        rw [hu, hg]
        refine ⟨t, hends hexec hoffer, .inl ((haltered.closes hcloses hoffer.recency).resolve_right fun h => h.1), hoffer.landing,
          hoffer.muster, fun hr hno => ?_⟩
        rw [← hdrop]; exact hwrong hr hno

end Sys2Proof.Machine
end

section
/-! PROOF. Accepted sales (O43). -/
namespace Sys2Proof.Machine
set_option Elab.async false
variable {s t u q p : State} {n : Fin 4} {e y a : Entry} {seq : Byte} {card : CardId} {b : Binding} {x : IndexEntry}
  {i j : Fin 128} {g : Guest} {f : Fin 1024} {z : Folio} {order : List (Fin 128)} {m : Nat} {lines : List SaleLine} {pr : Profile}

/-! ## The sale's flags (R109, R111, R113, R116 to R118) -/

/-- A line over the price ceiling, and one over the quantity limit (R109). -/
def Profile.dear (p : Profile) (l : SaleLine) : Bool := decide (p.priceCeiling ≠ 0) && decide (p.priceCeiling < l.price)
def Profile.many (p : Profile) (l : SaleLine) : Bool := decide (p.qtyLimit < l.qty)

theorem SaleFlags.when_or (c d : Bool) (flag : SaleFlags) :
    SaleFlags.when (c || d) flag = SaleFlags.when c flag ||| SaleFlags.when d flag := by
  cases c <;> cases d <;> simp [SaleFlags.when]

theorem screenLine_of_masked {l : SaleLine} (hd : pr.dear l = true → pr.maskPrice = true) (hm : pr.many l = true → pr.maskQty = true)
    (k : Nat) : screenLine pr k l = .ok (SaleFlags.when (pr.dear l) flagPrice ||| SaleFlags.when (pr.many l) flagQty) := by
  have hprice : (pr.dear l && !pr.maskPrice) = false := by
    cases h : pr.dear l <;> simp [h] at hd ⊢; exact hd
  have hqty : (pr.many l && !pr.maskQty) = false := by
    cases h : pr.many l <;> simp [h] at hm ⊢; exact hm
  unfold screenLine
  dsimp only
  refine (if_neg ?_).trans (if_neg ?_)
  · exact Bool.eq_false_iff.mp hprice
  · exact Bool.eq_false_iff.mp hqty

/-- The flags of a sale whose barred lines are all masked. -/
theorem screen_of_masked (h : ∀ l ∈ lines, (pr.dear l = true → pr.maskPrice = true) ∧ (pr.many l = true → pr.maskQty = true)) (k : Nat) :
    screen pr k lines = .ok (SaleFlags.when (lines.any pr.dear) flagPrice ||| SaleFlags.when (lines.any pr.many) flagQty) := by
  induction lines generalizing k with
  | nil => simp [screen, SaleFlags.when]
  | cons l ls ih =>
    obtain ⟨hd, hm⟩ := h l List.mem_cons_self
    unfold screen
    rw [screenLine_of_masked hd hm]
    dsimp only
    rw [ih fun l' hl' => h l' (List.mem_cons_of_mem _ hl')]
    dsimp only
    rw [List.any_cons, List.any_cons, SaleFlags.when_or, SaleFlags.when_or]
    congr 1
    ac_rfl

/-- The flags a sale bears, each by its cause. -/
def SaleFlags.ofCauses (dear many cut rounded offline floor : Bool) : SaleFlags :=
  (SaleFlags.when dear flagPrice ||| SaleFlags.when many flagQty)
  ||| (SaleFlags.when cut flagCoverPartial ||| SaleFlags.when rounded flagRounded)
  ||| (SaleFlags.when offline flagOffline ||| SaleFlags.when floor flagFloor)

/-- Each flag has its one cause. -/
theorem SaleFlags.ofCauses_iff (dear many cut rounded offline floor : Bool) :
    let v := SaleFlags.ofCauses dear many cut rounded offline floor
    (v &&& flagPrice ≠ 0 ↔ dear = true) ∧ (v &&& flagQty ≠ 0 ↔ many = true) ∧ (v &&& flagCoverPartial ≠ 0 ↔ cut = true)
    ∧ (v &&& flagRounded ≠ 0 ↔ rounded = true) ∧ (v &&& flagFloor ≠ 0 ↔ floor = true)
    ∧ (v &&& flagOffline ≠ 0 ↔ offline = true) := by
  revert dear many cut rounded offline floor; decide

/-- The cover flag alone (R111). -/
theorem SaleFlags.cut_iff (cut rounded : Bool) :
    (SaleFlags.when cut flagCoverPartial ||| SaleFlags.when rounded flagRounded) &&& flagCoverPartial ≠ 0 ↔ cut = true := by
  revert cut rounded; decide

/-- The four folio checks passed (R115 to R118). -/
theorem folioChecks_passed {standalone : Bool} {ceiling total untaken : Nat}
    (hoffline : standalone = true → ceiling ≠ 0 ∧ total ≤ ceiling)
    (hbalance : 0 < total → z.standing ≠ .over ∧ z.balance + total ≤ z.limit + z.floorAllowance) (huntaken : untaken < 2048) :
    folioChecks standalone ceiling z total untaken = .ok (SaleFlags.when standalone flagOffline
      ||| SaleFlags.when (decide (0 < total ∧ z.balance + total > z.limit)) flagFloor) := by
  unfold folioChecks
  rw [if_neg, if_neg, if_neg, if_neg (by omega)]
  · rintro ⟨hpos, hover⟩
    have := (hbalance hpos).2
    omega
  · rintro ⟨hpos, hover⟩
    exact (hbalance hpos).1 hover
  · rintro ⟨hs, hzero | hless⟩
    · exact (hoffline hs).1 hzero
    · exact absurd (hoffline hs).2 (Nat.not_le.mpr hless)

/-! ## Acceptance (R119, R125, R126) -/

/-- A slot with one pending commit more. -/
def Slot.pended (x : Slot) : Slot := { x with commitPending := x.commitPending + 1 }

/-- Both slots of a sale count it (R40). -/
def State.pendBoth (q : State) (i j : Fin 128) : State :=
  (q.setSlot i (q.slot i).pended).setSlot j ((q.setSlot i (q.slot i).pended).slot j).pended

/-- A sale on the commit list, its serial taken (R125). -/
def State.listed (q : State) (c : CommitEntry) : State :=
  { q with journal := { q.journal with commits := q.journal.commits ++ [c], next := q.journal.next + 1 } }

/-- The till told to wait for the commit (R119). -/
def State.awaitsCommit (q : State) (l : Fin 4) (d : Nat) (seq : Byte) : State :=
  ((q.modEntry l d fun e => { e with disposition := .committing }).prune l d []).defer l d seq

/-- The sale accepted, before its commit is queued. -/
def State.takingSale (q : State) (a : Entry) (seq : Byte) (i j : Fin 128) (r r' : Rec) (c : CommitEntry) : State :=
  ((((q.change i r).change j r').pendBoth i j).listed c).awaitsCommit a.line a.drop seq

theorem State.slot_pendBoth (hij : j ≠ i) (q : State) (l : Fin 128) : (q.pendBoth i j).slot l =
    if l = j then (q.slot j).pended else if l = i then (q.slot i).pended else q.slot l := by
  unfold State.pendBoth
  rw [State.slot_setSlot, State.slot_setSlot, State.slot_setSlot, if_neg hij]

theorem State.slot_awaitsCommit (q : State) (l : Fin 4) (d : Nat) (seq : Byte) (k : Fin 128) :
    (q.awaitsCommit l d seq).slot k = (q.slot k).prune l d [] := by
  unfold State.awaitsCommit
  rw [State.slot, State.defer, State.makeOutgoing_cache]
  exact State.slot_prune _ _ _ _ k

theorem State.entryAt_awaitsCommit (h : q.entryAt n y.drop = some y) (seq : Byte) : (q.awaitsCommit n y.drop seq).entryAt n y.drop =
    some (({ y with disposition := .committing } : Entry).told q.clock.seconds seq (mkVerdict .wait)) := by
  refine State.entryAt_makeOutgoing (e := { y with disposition := .committing }) ?_ seq (mkVerdict .wait)
  exact (State.entryAt_congr rfl n y.drop).trans ((State.entryAt_modEntry (by simp) q n y.drop).trans (by rw [h]; rfl))

theorem State.awaitsCommit_holdsOnly (q : State) (l : Fin 4) (d : Nat) (seq : Byte) : (q.awaitsCommit l d seq).holdsOnly l d [] := by
  refine State.holdsOnly_congr (State.prune_holdsOnly q l d []) fun k => ?_
  rw [State.slot_awaitsCommit, State.slot_prune]

variable {v : SaleFigures} {k : Fin 2048}

/-- What the acceptance of a sale leaves, its commit still to be queued. -/
structure State.TakesSale (q u : State) (n : Fin 4) (y : Entry) (seq : Byte) (i j : Fin 128) (r r' : Rec) (c : CommitEntry) : Prop where
  same : (u.mem, u.landing, u.muster, u.port, u.router, u.clock) = (q.mem, q.landing, q.muster, q.port, q.router, q.clock)
  guest : (u.slot i).record = ((q.slot i).changed q.clock.seconds r).record
    ∧ (u.slot i).commitPending = (q.slot i).commitPending + 1
  folio : (u.slot j).record = ((q.slot j).changed q.clock.seconds r').record
    ∧ (u.slot j).commitPending = (q.slot j).commitPending + 1
  others : ∀ l, l ≠ i → l ≠ j → (u.slot l).content = (q.slot l).content
  recency : u.cache.recency = j :: (i :: q.cache.recency.erase i).erase j
  entry : u.entryAt n y.drop = some (({ y with disposition := .committing } : Entry).told q.clock.seconds seq (mkVerdict .wait))
  holds : u.holdsOnly n y.drop []
  journal : u.journal = { q.journal with commits := q.journal.commits ++ [c], next := q.journal.next + 1 }

theorem State.takesSale {r r' : Rec} {c : CommitEntry} (hij : j ≠ i) (hentry : q.entryAt n y.drop = some y) (hl : a.line = n)
    (hd : a.drop = y.drop) : q.TakesSale (q.takingSale a seq i j r r' c) n y seq i j r r' c := by
  unfold State.takingSale
  rw [hl, hd]
  set w := (((q.change i r).change j r').pendBoth i j).listed c with hw
  have hcharged (l : Fin 128) : ((q.change i r).change j r').slot l = if l = j then (q.slot j).changed q.clock.seconds r'
      else if l = i then (q.slot i).changed q.clock.seconds r else q.slot l := by
    have hclock : (q.change i r).clock = q.clock := State.change_clock q i r
    rw [State.slot_change, hclock, State.slot_change, State.slot_change, if_neg hij]
  have hslot (l : Fin 128) : w.slot l = if l = j then ((q.slot j).changed q.clock.seconds r').pended
      else if l = i then ((q.slot i).changed q.clock.seconds r).pended else q.slot l := by
    refine (State.slot_pendBoth hij _ l).trans ?_
    rw [hcharged, hcharged, hcharged, if_pos rfl, if_neg hij.symm, if_pos rfl]
    split
    · rfl
    · split <;> rfl
  have hat : w.entryAt n y.drop = some y := (State.entryAt_congr (by simp [hw, State.listed, State.pendBoth]) _ _).trans hentry
  have hclock : w.clock = q.clock := by simp [hw, State.listed, State.pendBoth]
  have hjournal : w.journal = { q.journal with commits := q.journal.commits ++ [c], next := q.journal.next + 1 } := by
    simp [hw, State.listed, State.pendBoth]
  have hsame : (w.mem, w.landing, w.muster, w.port, w.router, w.clock) =
      (q.mem, q.landing, q.muster, q.port, q.router, q.clock) := by simp [hw, State.listed, State.pendBoth]
  have hrecency : w.cache.recency = j :: (i :: q.cache.recency.erase i).erase j := rfl
  clear_value w
  refine ⟨?_, ⟨?_, ?_⟩, ⟨?_, ?_⟩, fun l hi hj => ?_, ?_, ?_, w.awaitsCommit_holdsOnly n y.drop seq, ?_⟩
  · rw [← hsame]; simp [State.awaitsCommit, State.defer]
  · rw [State.slot_awaitsCommit, hslot, if_neg hij.symm, if_pos rfl]; rfl
  · rw [State.slot_awaitsCommit, hslot, if_neg hij.symm, if_pos rfl]; rfl
  · rw [State.slot_awaitsCommit, hslot, if_pos rfl]; rfl
  · rw [State.slot_awaitsCommit, hslot, if_pos rfl]; rfl
  · rw [State.slot_awaitsCommit, hslot, if_neg hj, if_neg hi]; rfl
  · rw [← hrecency]; simp [State.awaitsCommit, State.defer, State.prune]
  · rw [State.entryAt_awaitsCommit hat, hclock]
  · rw [← hjournal]; simp [State.awaitsCommit, State.defer]

theorem State.acceptSale_eq (q : State) (a : Entry) (seq : Byte) (b : Binding) (k : Fin 2048) (i : Fin 128) (g : Guest) (j : Fin 128)
    (f : Fin 1024) (z : Folio) (v : SaleFigures) : ∃ fuel,
    q.acceptSale a seq b k i g j f z v = (State.queueCommits fuel (q.takingSale a seq i j (.guest (g.covered q.clock.day v.covered))
      (.folio (z.charged v.total v.flags)) (q.commitEntry a seq b k f v))).journalReview :=
  ⟨_, rfl⟩

/-! ## The turn ends (R126, R133) -/

/-- The state once the sale's commit has been queued and the untaken count judged. -/
def State.saleTaken (u : State) (fuel : Nat) : State := (State.queueCommits fuel u).journalReview

/-- What the turn's end leaves of an accepted sale. -/
structure State.SaleStands (u t : State) : Prop where
  slots : ∀ l, (u.slot l).Tended (t.slot l) (t.port.job = some (.writeBack l))
  recency : t.cache.recency = u.cache.recency
  entryAt : ∀ l d, t.entryAt l d = u.entryAt l d
  commits : t.journal.commits.map CommitEntry.unmarked = u.journal.commits.map CommitEntry.unmarked
  serials : (t.journal.head, t.journal.tail, t.journal.next) = (u.journal.head, u.journal.tail, u.journal.next)
  judged : u.journalJudged t u.journal.untaken
  same : (t.mem, t.landing, t.muster) = (u.mem, u.landing, u.muster)

theorem State.saleStands (hwait : u.port.waiting = []) (fuel : Nat) (n : Fin 4) (asks : Bool) :
    u.SaleStands (((u.saleTaken fuel).roundReview n).settle asks) := by
  have harr : u.Arranges (State.queueCommits fuel u) := (State.Arranges.refl u).queueCommits fuel
  have hwait' : (State.queueCommits fuel u).port.waiting = [] := (State.queueCommits_waiting fuel u).trans hwait
  unfold State.saleTaken
  generalize State.queueCommits fuel u = w at harr hwait'
  have hframe := harr.frame
  have hcache : w.journalReview.cache = w.cache := State.journalReview_cache w
  have hturn := State.turnEnds (t := w.journalReview) (by rw [State.journalReview_port]; exact hwait') n asks
  obtain ⟨hhigh, hfull⟩ := w.journalReview_judges
  have huntaken : w.journal.untaken = u.journal.untaken := by rw [hframe]; rfl
  have hrouter : w.router = u.router := by rw [hframe]; rfl
  generalize (w.journalReview.roundReview n).settle asks = t at hturn
  refine ⟨fun l => ?_, ?_, fun l d => ?_, ?_, ?_, ⟨?_, ?_⟩, ?_⟩
  · have hslot : w.journalReview.slot l = w.slot l := by rw [State.slot, hcache]; rfl
    have htended := hturn.slots l
    rw [hslot] at htended
    exact (harr.slots l).trans htended fun hj => hturn.job _ (by rw [State.journalReview_port]; exact hj)
  · rw [hturn.recency, hcache, harr.recency]
  · rw [hturn.entryAt, State.entryAt_congr (State.journalReview_entries w)]
    exact State.entryAt_congr (by rw [hframe]; rfl) l d
  · rw [hturn.commits, State.journalReview_journal, harr.commits]
  · rw [hturn.head, hturn.tail, hturn.next, State.journalReview_journal, hframe]; rfl
  · rw [hturn.conditions _ (by simp [FaultSource.asksNoLine]), hhigh, huntaken, hrouter]
  · rw [hturn.conditions _ (by simp [FaultSource.asksNoLine]), hfull, huntaken, hrouter]
  · rw [hturn.mem, hturn.landing, hturn.muster, State.journalReview_mem, State.journalReview_landing, State.journalReview_muster,
      hframe]
    rfl

/-! ## The offer's way to acceptance (R103) -/

/-- Both records found, and cached as they are asked for (R32). -/
theorem State.gather_both (hfind : p.find (.guest x.record) = .hit i) (hcontent : (p.slot i).content = some (.guest g))
    (hfolio : g.folio = some f) (hfind' : p.find (.folio f) = .hit j) (hcontent' : (p.slot j).content = some (.folio z)) (e : Entry)
    (seq : Byte) (card : CardId) :
    p.gather e seq card x true = ((p.touch i).touch j, .ready i g (some (j, f, z))) := by
  have hask (w : Waiter) : p.ask (.guest x.record) w = (p.touch i, .hit i) := by simp only [State.ask, hfind]
  have hslot : ((p.touch i).slot i).content = some (.guest g) := hcontent
  have hslot' : ((p.touch i).slot j).content = some (.folio z) := hcontent'
  have htouch : (p.touch i).find (.folio f) = .hit j := hfind'
  simp only [State.gather, hask, hslot, hfolio, State.gatherFolio, htouch, hslot']

/-- No check refuses before the sale is evaluated (R103). -/
theorem State.saleRefusal_none {slot : Fin 2} (hlost : (g.card slot).map (·.state) ≠ some .lost) (hstatus : g.status = .active)
    (hpresence : g.presence = .aboard) (hmuster : q.muster.active = false) (hfirst : g.firstDay ≤ q.clock.day)
    (hlast : q.clock.day ≤ g.lastDay) : q.saleRefusal slot g = none := by
  have hlostAt : g.lostAt slot = false := by
    unfold Guest.lostAt
    cases hc : g.card slot <;> simp_all
  have hwindow : g.window q.clock.day = .within := by
    unfold Guest.window
    rw [if_neg (Nat.not_lt.mpr hfirst), if_neg (Nat.not_lt.mpr hlast)]
  simp [State.saleRefusal, hlostAt, hstatus, hpresence, hmuster, hwindow, refuseUnless, Status.refusal, Presence.refusal,
    Window.refusal]

/-- The figures of a priced sale with all its flags (R109, R111, R113, R116 to R118). -/
def State.saleFigures (p : State) (b : Binding) (g : Guest) (z : Folio) (lines : List SaleLine) : SaleFigures :=
  let pr := p.profiles[b.profile]
  let v := priceSale (p.planOf g.plan) (g.effectiveUsed p.clock.day) pr.rate lines
  { v with flags := (SaleFlags.when (lines.any pr.dear) flagPrice ||| SaleFlags.when (lines.any pr.many) flagQty) ||| v.flags
      ||| (SaleFlags.when p.router.standalone flagOffline
        ||| SaleFlags.when (decide (0 < v.total ∧ z.balance + v.total > z.limit)) flagFloor) }

/-- A sale whose lines are masked where they are barred and whose folio bears it is accepted (R108 to R119). -/
theorem State.evaluateSale_accepts (hmasked : ∀ l ∈ lines,
      (q.profiles[b.profile].dear l = true → q.profiles[b.profile].maskPrice = true)
      ∧ (q.profiles[b.profile].many l = true → q.profiles[b.profile].maskQty = true))
    (hoffline : q.router.standalone = true → q.profiles[b.profile].offlineCeiling ≠ 0
      ∧ (q.saleFigures b g z lines).total ≤ q.profiles[b.profile].offlineCeiling)
    (hbalance : 0 < (q.saleFigures b g z lines).total →
      z.standing ≠ .over ∧ z.balance + (q.saleFigures b g z lines).total ≤ z.limit + z.floorAllowance)
    (huntaken : q.journal.untaken < 2048) (a : Entry) (seq : Byte) (k : Fin 2048) (i j : Fin 128) (f : Fin 1024) :
    q.evaluateSale a seq b q.profiles[b.profile] lines k i g j f z = q.acceptSale a seq b k i g j f z (q.saleFigures b g z lines) := by
  unfold State.evaluateSale
  rw [screen_of_masked hmasked]
  dsimp only
  rw [folioChecks_passed (z := z)
    (total := (priceSale (q.planOf g.plan) (g.effectiveUsed q.clock.day) q.profiles[b.profile].rate lines).total)
    hoffline hbalance huntaken]
  rfl

/-- A till offer that passes every check is accepted (R103). -/
theorem State.saleDecide_accepts (hbinding : p.bindingOf a = some b) (hform : saleOk lines = true) (hcard : p.lookupCard card = .found x)
    (hgather : p.gather a seq card x true = (q, .ready i g (some (j, f, z)))) (hrefusal : q.saleRefusal x.slot g = none)
    (hstatus : z.status = .open) (hprofile : p.profiles = q.profiles) :
    p.saleDecide a seq card lines = q.evaluateSale a seq b q.profiles[b.profile] lines x.record i g j f z := by
  unfold State.saleDecide
  rw [hbinding]
  dsimp only
  rw [if_neg (by rw [hform]; nofun), hcard]
  dsimp only
  rw [hgather]
  dsimp only
  rw [hrefusal]
  dsimp only
  rw [hstatus, hprofile]
  rfl

/-! ## The obligation -/

/-- The slots of two records are most recent in the order they were last found. -/
theorem recency_of_both (hij : j ≠ i) (l : List (Fin 128)) :
    j :: (i :: (j :: (i :: l.erase i).erase j).erase i).erase j = j :: i :: (l.erase i).erase j := by
  have hi : (i :: l.erase i).erase j = i :: (l.erase i).erase j := List.erase_cons_tail (by simpa using hij.symm)
  have hj : (j :: i :: (l.erase i).erase j).erase i = j :: (l.erase i).erase j := by
    rw [List.erase_cons_tail (by simpa using hij), List.erase_cons_head]
  rw [hi, hj, List.erase_cons_tail (by simpa using hij.symm), List.erase_cons_head]

theorem CommitEntry.serials_of_unmarked {l l' : List CommitEntry} (h : l.map CommitEntry.unmarked = l'.map CommitEntry.unmarked) :
    l.map (·.serial) = l'.map (·.serial) := by
  simpa [Function.comp_def, CommitEntry.unmarked] using congrArg (List.map CommitEntry.serial) h

theorem CommitEntry.serials_of_unread {l l' : List CommitEntry} (h : l.map CommitEntry.unread = l'.map CommitEntry.unread) :
    l.map (·.serial) = l'.map (·.serial) := by
  simpa [Function.comp_def, CommitEntry.unread] using congrArg (List.map CommitEntry.serial) h

/-- The last commit of a list that differs from another in the queue marks. -/
theorem CommitEntry.getLast_of_unmarked {l l' : List CommitEntry} {c : CommitEntry}
    (h : l.map CommitEntry.unmarked = (l' ++ [c]).map CommitEntry.unmarked) : ∃ c' ∈ l.getLast?, c'.unmarked = c.unmarked := by
  have hlast := congrArg List.getLast? h
  rw [List.getLast?_map, List.getLast?_map, List.getLast?_concat, Option.map_some, Option.map_eq_some_iff] at hlast
  exact hlast

theorem Journal.untaken_succ {j j' : Journal} (hhead : j'.head = j.head) (hnext : j'.next = j.next + 1) (h : j.untaken < 2048) :
    j'.untaken = j.untaken + 1 := by
  unfold Journal.untaken at *
  rw [hhead, hnext]
  bv_omega

/-- What stays while a sale's records are found. -/
def State.unsold (s : State) :=
  (s.mem, s.clock, s.landing, s.muster, s.port, s.router, (s.profiles, s.plans), (s.journal.head, s.journal.tail, s.journal.next))

/-- A sale's records have been found: its entry stands, and its slots are the most recent. -/
structure State.SaleFound (s q : State) (n : Fin 4) (y : Entry) (i j : Fin 128) : Prop where
  same : q.unsold = s.unsold
  slots : ∀ l, (q.slot l).record = (s.slot l).record ∧ (q.slot l).commitPending = (s.slot l).commitPending
  recency : q.cache.recency = j :: (i :: s.cache.recency.erase i).erase j
  commits : q.journal.commits.map CommitEntry.unread = s.journal.commits.map CommitEntry.unread
  entry : q.entryAt n y.drop = some y

theorem State.SaleFound.ofArrives (h : s.Arrives p n e seq) (i j : Fin 128) : ∃ y, s.SaleFound ((p.touch i).touch j) n y i j
    ∧ y.drop = e.drop ∧ y.lastSeq = some seq ∧ y.kind = e.kind := by
  obtain ⟨y, hy, hseq, -, -, hkind⟩ := h.entry
  have hdrop : y.drop = e.drop := (State.isAt_of_entryAt hy).2
  refine ⟨y, ⟨?_, fun l => ?_, ?_, h.commits, by rw [hdrop]; exact hy⟩, hdrop, hseq, hkind⟩
  · show p.unsold = s.unsold
    simp only [State.unsold, h.mem, h.clock, h.landing, h.muster, h.port, h.router, h.profiles, h.plans, h.head, h.tail, h.next]
  · have : ((p.touch i).touch j).slot l = p.slot l := rfl
    rw [this, h.slot l]
    exact ⟨rfl, rfl⟩
  · show j :: (i :: p.cache.recency.erase i).erase j = _
    rw [h.recency]

theorem State.saleFigures_congr (h : q.unsold = s.unsold) (b : Binding) (g : Guest) (z : Folio) (lines : List SaleLine) :
    q.saleFigures b g z lines = s.saleFigures b g z lines := by
  have hclock : q.clock = s.clock := congrArg (·.2.1) h
  have hrouter : q.router = s.router := congrArg (·.2.2.2.2.2.1) h
  have hprofiles : q.profiles = s.profiles := congrArg (·.2.2.2.2.2.2.1.1) h
  have hplans : q.plans = s.plans := congrArg (·.2.2.2.2.2.2.1.2) h
  unfold State.saleFigures State.planOf
  rw [hclock, hrouter, hprofiles, hplans]

/-- Each flag of the sale's figures has its one cause. -/
theorem State.saleFigures_flags (s : State) (b : Binding) (g : Guest) (z : Folio) (lines : List SaleLine) :
    let pr := s.profiles[b.profile]
    let v := priceSale (s.planOf g.plan) (g.effectiveUsed s.clock.day) pr.rate lines
    let w := (s.saleFigures b g z lines).flags
    (w &&& flagPrice ≠ 0 ↔ lines.any pr.dear = true) ∧ (w &&& flagQty ≠ 0 ↔ lines.any pr.many = true)
    ∧ (w &&& flagCoverPartial ≠ 0 ↔ v.flags &&& flagCoverPartial ≠ 0)
    ∧ (w &&& flagRounded ≠ 0 ↔ v.subtotal * pr.rate % 10000 ≠ 0)
    ∧ (w &&& flagFloor ≠ 0 ↔ 0 < v.total ∧ (z.limit : Int) < z.balance + v.total)
    ∧ (w &&& flagOffline ≠ 0 ↔ s.router.standalone = true) := by
  intro pr v w
  obtain ⟨cut, hcut⟩ : ∃ cut, v.flags = SaleFlags.when cut flagCoverPartial ||| SaleFlags.when (isRounded v.subtotal pr.rate) flagRounded :=
    ⟨_, rfl⟩
  have hw : w = SaleFlags.ofCauses (lines.any pr.dear) (lines.any pr.many) cut (isRounded v.subtotal pr.rate) s.router.standalone
      (decide (0 < v.total ∧ z.balance + v.total > z.limit)) := by
    unfold SaleFlags.ofCauses
    rw [← hcut]
    rfl
  obtain ⟨hprice, hqty, hcover, hrounded, hfloor, hoffline⟩ := SaleFlags.ofCauses_iff (lines.any pr.dear) (lines.any pr.many) cut
    (isRounded v.subtotal pr.rate) s.router.standalone (decide (0 < v.total ∧ z.balance + v.total > z.limit))
  rw [hw, hcut, SaleFlags.cut_iff]
  exact ⟨hprice, hqty, hcover, hrounded.trans (by simp [isRounded]), hfloor.trans (by simp), hoffline⟩

/-- A record changed in a slot that the turn's end may tend. -/
theorem Slot.dirtied_of_changed {x x' y z : Slot} {now : Nat} {r : Rec} {taken : Prop}
    (hstate : x.state = .clean ∨ x.state = .dirty ∨ x.state = .writing) (hx : x'.record = x.record)
    (hy : y.record = (x'.changed now r).record) (hz : y.Tended z taken) : x.dirtied z now taken r := by
  have hstate' : x'.state = x.state := congrArg (·.2.1) hx
  exact Slot.dirtied_tended (Slot.dirtied_congr (Slot.dirtied_changed (hstate' ▸ hstate) now r taken) hx.symm hy) hz id

/-- What an accepted sale leaves once its turn has ended (R119, R125, R126, R133). -/
structure State.SalePosted (s t : State) (n : Fin 4) (y : Entry) (seq : Byte) (i j : Fin 128) (r r' : Rec) (c : CommitEntry) :
    Prop where
  entry : t.entryAt n y.drop = some (({ y with disposition := .committing } : Entry).told s.clock.seconds seq (mkVerdict .wait))
  dirtied : s.bothDirtied t i j r r'
  holds : t.holdsOnly n y.drop []
  judged : s.journalJudged t (s.journal.untaken + 1)
  pending : (t.slot i).commitPending = (s.slot i).commitPending + 1 ∧ (t.slot j).commitPending = (s.slot j).commitPending + 1
  serials : t.journal.next = s.journal.next + 1 ∧ t.journal.head = s.journal.head ∧ t.journal.tail = s.journal.tail
  listed : t.journal.commits.map (·.serial) = s.journal.commits.map (·.serial) ++ [c.serial]
  last : ∃ c' ∈ t.journal.commits.getLast?, c'.unmarked = c.unmarked
  others : ∀ l, l ≠ i → l ≠ j → (t.slot l).content = (s.slot l).content
  same : (t.landing, t.muster, t.mem) = (s.landing, s.muster, s.mem)

theorem State.SaleFound.posted {w : SaleFigures} (h : s.SaleFound q n y i j) (hij : j ≠ i) (hwait : s.port.waiting = [])
    (hstate : (s.slot i).state = .clean ∨ (s.slot i).state = .dirty ∨ (s.slot i).state = .writing)
    (hstate' : (s.slot j).state = .clean ∨ (s.slot j).state = .dirty ∨ (s.slot j).state = .writing)
    (huntaken : s.journal.untaken < 2048) (hl : a.line = n) (hd : a.drop = y.drop) (seq : Byte) (b : Binding) (k : Fin 2048)
    (g : Guest) (f : Fin 1024) (z : Folio) (asks : Bool) :
    s.SalePosted (((q.acceptSale a seq b k i g j f z w).roundReview n).settle asks) n y seq i j
      (.guest (g.covered s.clock.day w.covered)) (.folio (z.charged w.total w.flags)) (s.commitEntry a seq b k f w) := by
  obtain ⟨hsame, hslots, hrecency, hcommits, hentry⟩ := h
  simp only [State.unsold, Prod.mk.injEq] at hsame
  obtain ⟨hmem, hclock, hlanding, hmuster, hport, hrouter, -, hhead, htail, hnext⟩ := hsame
  have hcommit : q.commitEntry a seq b k f w = s.commitEntry a seq b k f w := by
    simp only [State.commitEntry, State.now, hclock, hnext]
  obtain ⟨fuel, haccept⟩ := q.acceptSale_eq a seq b k i g j f z w
  have htakes := State.takesSale (a := a) (seq := seq) (r := .guest (g.covered s.clock.day w.covered))
    (r' := .folio (z.charged w.total w.flags)) (c := s.commitEntry a seq b k f w) hij hentry hl hd
  rw [haccept, hclock, hcommit]
  generalize q.takingSale _ _ _ _ _ _ _ = u at htakes
  obtain ⟨husame, ⟨hguest, hguestPending⟩, ⟨hfolio, hfolioPending⟩, hothers, hurecency, huentry, huholds, hujournal⟩ := htakes
  simp only [Prod.mk.injEq] at husame
  obtain ⟨humem, hulanding, humuster, huport, hurouter, -⟩ := husame
  have hstands := State.saleStands (u := u) (by rw [huport, hport]; exact hwait) fuel n asks
  change s.SalePosted (((u.saleTaken fuel).roundReview n).settle asks) _ _ _ _ _ _ _ _
  generalize ((u.saleTaken fuel).roundReview n).settle asks = t at hstands
  obtain ⟨htslots, htrecency, htentry, htcommits, htserials, htjudged, htsame⟩ := hstands
  simp only [Prod.mk.injEq] at htserials htsame
  obtain ⟨hthead, httail, htnext⟩ := htserials
  obtain ⟨htmem, htlanding, htmuster⟩ := htsame
  have huntakenq : q.journal.untaken = s.journal.untaken := by unfold Journal.untaken; rw [hhead, hnext]
  have huntakenu : u.journal.untaken = s.journal.untaken + 1 := by
    rw [← huntakenq]
    exact Journal.untaken_succ (by rw [hujournal]) (by rw [hujournal]) (by rw [huntakenq]; exact huntaken)
  rw [hujournal] at htcommits hthead httail htnext
  rw [hclock] at hguest hfolio huentry
  have hpending (l : Fin 128) : (t.slot l).commitPending = (u.slot l).commitPending := by
    obtain ⟨-, -, -, -, -, -, -, h, -⟩ := (htslots l).kept
    exact h
  refine ⟨(htentry _ _).trans huentry, ⟨?_, ?_, .inr ?_⟩, ?_, ?_, ⟨?_, ?_⟩, ⟨htnext.trans (by rw [hnext]), hthead.trans hhead, httail.trans htail⟩,
    ?_, CommitEntry.getLast_of_unmarked htcommits, fun l hi hj => ?_, ?_⟩
  · exact Slot.dirtied_of_changed hstate (hslots i).1 hguest (htslots i)
  · exact Slot.dirtied_of_changed hstate' (hslots j).1 hfolio (htslots j)
  · rw [htrecency, hurecency, hrecency]
    exact recency_of_both hij _
  · refine State.holdsOnly_congr huholds fun l => ?_
    obtain ⟨-, -, -, -, -, -, hholds, -⟩ := (htslots l).kept
    exact hholds
  · rw [huntakenu] at htjudged
    refine ⟨?_, ?_⟩
    · rw [htjudged.1, hurouter, hrouter]
    · rw [htjudged.2, hurouter, hrouter]
  · rw [hpending, hguestPending, (hslots i).2]
  · rw [hpending, hfolioPending, (hslots j).2]
  · rw [CommitEntry.serials_of_unmarked htcommits, List.map_append, CommitEntry.serials_of_unread hcommits]
    rfl
  · exact (htslots l).kept.2.1.trans ((hothers l hi hj).trans (congrArg (·.1) (hslots l).1))
  · rw [htlanding, htmuster, htmem, hulanding, humuster, humem, hlanding, hmuster, hmem]

/-- Settles O43. -/
theorem acceptedSalesCommit : Obligations.AcceptedSalesCommit := by
  intro s n dur seq card lines e slot b x i j g f z hreset hpower hwait _ hcalled hkind hbinding hbound hnew hform hcard hfind
    hcontent hfolio hfind' hcontent' hlost hstatus hpresence hmuster hfirst hlast hopen pr v balance dear many hmasked hoffline
    hbalance huntaken
  obtain ⟨p, asks, harr, hexec⟩ := State.exec_offer (ls := some lines) hreset hcalled (by simp [hkind]) (.inl hnew) hpower dur card
  obtain ⟨y, hfound, hdrop, hseq, hykind⟩ := State.SaleFound.ofArrives harr i j
  have hij : j ≠ i := by
    rintro rfl
    rw [hcontent] at hcontent'
    cases hcontent'
  -- the records are found, and the sale passes every check
  have hline : (e.answered .presented).line = n := show e.line = n from State.line_of_called hcalled
  have hbind : p.bindingOf (e.answered .presented) = some b := by
    rw [harr.bindingOf]
    have hslot : (e.answered .presented).binding = .bound slot := hbinding
    unfold State.bindingOf
    rw [hslot]
    exact hbound
  have hlookup : p.lookupCard card = .found x := by rw [harr.lookupCard, State.lookupCard, hcard]
  have hgather := State.gather_both (p := p) (x := x) (by rw [harr.find]; exact hfind) (by rw [harr.slot i]; exact hcontent) hfolio
    (by rw [harr.find]; exact hfind') (by rw [harr.slot j]; exact hcontent') (e.answered .presented) seq card
  have hrefusal : ((p.touch i).touch j).saleRefusal x.slot g = none :=
    State.saleRefusal_none hlost hstatus hpresence (harr.muster ▸ hmuster) (harr.clock ▸ hfirst) (harr.clock ▸ hlast)
  have howner : p.ownerDecide (e.answered .presented) seq card ((some lines).getD []) =
      p.saleDecide (e.answered .presented) seq card lines := by
    unfold State.ownerDecide
    rw [show (e.answered .presented).kind = .bar from hkind]
    rfl
  rw [howner, State.saleDecide_accepts hbind hform hlookup hgather hrefusal hopen rfl] at hexec
  generalize (p.touch i).touch j = q at *
  have hfigures := State.saleFigures_congr hfound.same b g z lines
  have hrouter : q.router = s.router := congrArg (·.2.2.2.2.2.1) hfound.same
  have hprofiles : q.profiles = s.profiles := congrArg (·.2.2.2.2.2.2.1.1) hfound.same
  have hserials : (q.journal.head, q.journal.tail, q.journal.next) = (s.journal.head, s.journal.tail, s.journal.next) :=
    congrArg (·.2.2.2.2.2.2.2) hfound.same
  have huntakenq : q.journal.untaken = s.journal.untaken := by
    simp only [Prod.mk.injEq] at hserials
    unfold Journal.untaken
    rw [hserials.1, hserials.2.2]
  have huntaken : s.journal.untaken < 2048 := huntaken
  have hdear (l : SaleLine) : pr.dear l = true ↔ dear l := by simp [Profile.dear, dear]
  have hmany (l : SaleLine) : pr.many l = true ↔ many l := by simp [Profile.many, many]
  rw [State.evaluateSale_accepts (by rw [hprofiles]; exact fun l hl => by rw [hdear, hmany]; exact hmasked l hl)
    (by rw [hfigures, hrouter, hprofiles]; exact hoffline) (by rw [hfigures]; exact hbalance)
    (by rw [huntakenq]; exact huntaken), hfigures] at hexec
  -- the sale is accepted, and the turn ends
  have haccepted := hfound.posted (w := s.saleFigures b g z lines) hij hwait (State.state_of_hit hfind) (State.state_of_hit hfind')
    huntaken hline hdrop.symm seq b x.record g f z asks
  generalize ((q.acceptSale _ _ _ _ _ _ _ _ _ _).roundReview n).settle asks = t at haccepted hexec
  obtain ⟨htentry, hdirtied, hholds, hjudged, ⟨hpending, hpending'⟩, ⟨hnext, hhead, htail⟩, hlisted, ⟨c, hc, hcfields⟩, hothers, hsame⟩ :=
    haccepted
  simp only [CommitEntry.unmarked, State.commitEntry, CommitEntry.mk.injEq, true_and] at hcfields
  simp only [Prod.mk.injEq] at hsame
  rw [hdrop] at htentry hholds
  obtain ⟨hcline, hcdrop, hcreader, hcreaderSerial, hcseq, -, hctime, hcoutlet, hcguest, hcfolio, hcsubtotal, hcservice, hctotal,
    hccovered, hcflags, hcday, hcremaining⟩ := hcfields
  obtain ⟨hprice, hqty, hcover, hrounded, hfloor, hstandalone⟩ := s.saleFigures_flags b g z lines
  have hany (test : SaleLine → Bool) (means : SaleLine → Prop) (h : ∀ l, test l = true ↔ means l) :
      lines.any test = true ↔ ∃ l ∈ lines, means l := by simp only [List.any_eq_true, h]
  rw [← hcflags] at hdirtied hprice hqty hcover hrounded hfloor hstandalone
  have hexpiry : verdictLife y.kind = 30 := by rw [hykind, hkind]; rfl
  refine ⟨t, _, c, hexec, htentry, hseq, rfl, ?_, hdirtied, hholds, hjudged, hpending, hpending', hnext, hhead, htail, hlisted, hc, hcguest,
    hcfolio, hcsubtotal, hcservice, hctotal, hccovered, hcremaining, hcseq, hcoutlet, hcday, hcreader, hctime, hcreaderSerial,
    hcline.trans hline, hcdrop, hprice.trans (hany _ _ hdear), hqty.trans (hany _ _ hmany), hcover, hrounded, hfloor, hstandalone,
    hothers, hsame⟩
  simp only [Entry.told, hexpiry]
  rfl

end Sys2Proof.Machine
end

section
/-! PROOF. Offers that wait for their records (O39). -/
namespace Sys2Proof.Machine
set_option Elab.async false
variable {s t u q p : State} {n l : Fin 4} {d : Nat} {e y a : Entry} {seq : Byte} {card : CardId} {b : Binding} {x : IndexEntry}
  {i j : Fin 128} {g : Guest} {f : Fin 1024} {lines : List SaleLine} {k k' : RecKey} {keys : List RecKey} {w : Waiter} {expiry expiry' : Nat}

/-! ## Holds and waiters of one slot (R32, R37) -/

theorem Slot.heldFor_of_holds {x y : Slot} (h : x.heldFor l d k expiry) (hy : y.holds = x.holds) : y.heldFor l d k expiry := by
  unfold Slot.heldFor; rw [hy]; exact h

theorem Slot.heldFor_placeHold (x : Slot) (l : Fin 4) (d : Nat) (k : RecKey) (expiry : Nat) :
    (x.placeHold { line := l, drop := d, key := k, expiry := expiry }).heldFor l d k expiry := by
  set h : Hold := { line := l, drop := d, key := k, expiry := expiry } with hh
  have hsame (o : Hold) : h.sameAs o = true ↔ o.line = l ∧ o.drop = d ∧ o.key = k := by simp [Hold.sameAs, hh]
  unfold Slot.heldFor Slot.placeHold
  dsimp only
  split
  · next hany =>
    obtain ⟨o, ho, hosame⟩ := List.any_eq_true.mp hany
    refine ⟨⟨h, List.mem_map.mpr ⟨o, ho, if_pos hosame⟩, rfl, rfl, rfl⟩, fun r hr hl hd hk => ?_⟩
    obtain ⟨o', -, rfl⟩ := List.mem_map.mp hr
    by_cases hs : h.sameAs o' = true
    · rw [if_pos hs]
    · rw [if_neg hs] at hl hd hk
      exact absurd ((hsame o').mpr ⟨hl, hd, hk⟩) hs
  · next hany =>
    refine ⟨⟨h, by simp, rfl, rfl, rfl⟩, fun r hr hl hd hk => ?_⟩
    rcases List.mem_append.mp hr with hr | hr
    · exact absurd (List.any_eq_true.mpr ⟨r, hr, (hsame r).mpr ⟨hl, hd, hk⟩⟩) hany
    · rw [List.mem_singleton.mp hr]

theorem Slot.heldFor_placeHold_other {x : Slot} (h : x.heldFor l d k expiry) (hk : k' ≠ k) :
    (x.placeHold { line := l, drop := d, key := k', expiry := expiry' }).heldFor l d k expiry := by
  set o : Hold := { line := l, drop := d, key := k', expiry := expiry' } with ho
  obtain ⟨⟨r, hr, hl, hd, hkey⟩, hall⟩ := h
  have hsame (z : Hold) (hz : z.key = k) : o.sameAs z ≠ true := fun hc => by
    obtain ⟨-, -, hkey'⟩ := of_decide_eq_true hc
    exact hk (hkey'.symm.trans hz)
  unfold Slot.heldFor Slot.placeHold
  dsimp only
  split
  · refine ⟨⟨r, List.mem_map.mpr ⟨r, hr, if_neg (hsame r hkey)⟩, hl, hd, hkey⟩, fun z hz hl' hd' hk' => ?_⟩
    obtain ⟨z', hz', rfl⟩ := List.mem_map.mp hz
    by_cases hs : o.sameAs z' = true
    · rw [if_pos hs] at hk'
      exact absurd hk' hk
    · rw [if_neg hs] at hl' hd' hk' ⊢
      exact hall z' hz' hl' hd' hk'
  · refine ⟨⟨r, List.mem_append_left _ hr, hl, hd, hkey⟩, fun z hz hl' hd' hk' => ?_⟩
    rcases List.mem_append.mp hz with hz | hz
    · exact hall z hz hl' hd' hk'
    · rw [List.mem_singleton.mp hz] at hk'
      exact absurd hk' hk

theorem Slot.heldFor_prune {x : Slot} (h : x.heldFor l d k expiry) (hk : k ∈ keys) : (x.prune l d keys).heldFor l d k expiry := by
  obtain ⟨⟨r, hr, hl, hd, hkey⟩, hall⟩ := h
  refine ⟨⟨r, List.mem_filter.mpr ⟨hr, by simp [hkey, hk]⟩, hl, hd, hkey⟩, fun z hz => hall z (List.mem_filter.mp hz).1⟩

theorem Waiter.sameAs_refl (w : Waiter) : w.sameAs w = true := by
  cases w <;> simp [Waiter.sameAs, Waiter.isOf]

theorem Slot.mem_addWaiter (x : Slot) (w : Waiter) : w ∈ (x.addWaiter w).waiters := by
  unfold Slot.addWaiter
  dsimp only
  split
  · next hany =>
    obtain ⟨v, hv, hsame⟩ := List.any_eq_true.mp hany
    exact List.mem_map.mpr ⟨v, hv, if_pos hsame⟩
  · simp

theorem Slot.mem_prune_waiters {x : Slot} (h : w ∈ x.waiters) (hk : k ∈ keys) (hb : x.brings k = true) :
    w ∈ (x.prune l d keys).waiters := by
  refine List.mem_filter.mpr ⟨h, ?_⟩
  rw [Bool.or_eq_true]
  exact .inr (List.any_eq_true.mpr ⟨k, hk, hb⟩)

/-! ## Slots and records while an offer asks -/

theorem State.slot_placeHold (q : State) (l : Fin 4) (d : Nat) (k : RecKey) (i m : Fin 128) : (q.placeHold l d k i).slot m =
    if m = i then (q.slot i).placeHold { line := l, drop := d, key := k, expiry := laterBy q.clock.seconds 2 } else q.slot m :=
  State.slot_setSlot _ _ _ _

theorem State.recordsKept.refl (s : State) : s.recordsKept s := ⟨fun _ => ⟨rfl, rfl⟩, rfl, rfl, rfl, rfl, rfl⟩

theorem State.recordsKept_of_slots (h : ∀ m, (q.slot m).key = (u.slot m).key ∧ (q.slot m).content = (u.slot m).content)
    (hsame : (q.index, q.journal, q.mem) = (u.index, u.journal, u.mem)) : u.recordsKept q := by
  simp only [Prod.mk.injEq] at hsame
  obtain ⟨hindex, hjournal, hmem⟩ := hsame
  exact ⟨h, hindex, by rw [hjournal], by rw [hjournal], by rw [hjournal], hmem⟩

theorem State.recordsKept_setSlot {z : Slot} (hk : z.key = (u.slot i).key) (hc : z.content = (u.slot i).content) :
    u.recordsKept (u.setSlot i z) :=
  State.recordsKept_of_slots (fun m => by
    rw [State.slot_setSlot]
    split
    · next h => rw [h]; exact ⟨hk, hc⟩
    · exact ⟨rfl, rfl⟩) rfl

theorem State.recordsKept_placeHold (u : State) (l : Fin 4) (d : Nat) (k : RecKey) (i : Fin 128) :
    u.recordsKept (u.placeHold l d k i) := State.recordsKept_setSlot rfl rfl

theorem State.recordsKept_prune (u : State) (l : Fin 4) (d : Nat) (keys : List RecKey) : u.recordsKept (u.prune l d keys) :=
  State.recordsKept_of_slots (fun m => by rw [State.slot_prune]; exact ⟨rfl, rfl⟩) rfl

/-! ## Asking for one record (R32 to R34) -/

/-- What stays while an offer asks for its records. -/
def State.unasked (s : State) :=
  (s.mem, s.clock, s.index, s.landing, s.muster, s.entries, s.port.waiting, (s.journal.head, s.journal.tail, s.journal.next))

theorem State.unasked_prune (u : State) (l : Fin 4) (d : Nat) (keys : List RecKey) : (u.prune l d keys).unasked = u.unasked := by
  simp [State.unasked, State.prune]

theorem State.unasked_placeHold (u : State) (l : Fin 4) (d : Nat) (k : RecKey) (i : Fin 128) :
    (u.placeHold l d k i).unasked = u.unasked := by
  simp [State.unasked, State.placeHold]

theorem State.unasked_touch (u : State) (i : Fin 128) : (u.touch i).unasked = u.unasked := by simp [State.unasked, State.touch]

theorem State.unasked_missStuck (u : State) : u.missStuck.unasked = u.unasked := by simp [State.unasked, State.missStuck]

/-- The record is being brought in: the waiter joins (R32). -/
structure State.Joined (u q : State) (k : RecKey) (w : Waiter) (j : Fin 128) : Prop where
  same : q.unasked = u.unasked
  holds : ∀ m, (q.slot m).holds = (u.slot m).holds
  kept : u.recordsKept q
  waits : w ∈ (q.slot j).waiters
  brings : (q.slot j).brings k = true

theorem State.brings_of_join (h : u.find k = .join j) : (u.slot j).brings k = true := by
  unfold State.find at h
  split at h
  · cases h
  · split at h
    · next hfind =>
      have := List.find?_some hfind
      cases h; exact this
    · cases h

theorem State.ask_join (h : u.find k = .join j) (w : Waiter) : ∃ q, u.ask k w = (q, .waiting j) ∧ u.Joined q k w j := by
  refine ⟨(u.setSlot j ((u.slot j).addWaiter w)).touch j, by simp only [State.ask, h], ?_⟩
  have hslot (m : Fin 128) : ((u.setSlot j ((u.slot j).addWaiter w)).touch j).slot m =
      if m = j then (u.slot j).addWaiter w else u.slot m := State.slot_setSlot _ _ _ _
  refine ⟨rfl, fun m => ?_, State.recordsKept_of_slots (fun m => ?_) rfl, ?_, ?_⟩
  · rw [hslot]; split
    · next h => rw [h]; rfl
    · rfl
  · rw [hslot]; split
    · next h => rw [h]; exact ⟨rfl, rfl⟩
    · exact ⟨rfl, rfl⟩
  · rw [hslot, if_pos rfl]; exact Slot.mem_addWaiter _ _
  · rw [hslot, if_pos rfl]; exact State.brings_of_join h

/-- A slot claimed for a record, its waiter with it (R33). -/
def Slot.claimed (k : RecKey) (w : Waiter) : Slot := { Slot.blank with state := .filling, key := some k, waiters := [w] }

/-- An EMPTY slot has been claimed, its fill queued (R33). -/
structure State.Claimed (u q : State) (k : RecKey) (w : Waiter) (j : Fin 128) : Prop where
  same : q.unasked = u.unasked
  holds : ∀ m, m ≠ j → (q.slot m).holds = (u.slot m).holds
  slot : q.slot j = Slot.claimed k w
  fill : .fill j ∈ q.port.queue ∨ q.port.job = some (.fill j)

/-- The lowest of the EMPTY slots. -/
def State.lowestEmpty (u : State) (j : Fin 128) : Prop :=
  (u.slot j).state = .empty ∧ ∀ m : Fin 128, m < j → (u.slot m).state ≠ .empty

/-- The state in which the arbiter acts on the claim of an EMPTY slot (R33). -/
def State.claiming (u : State) (j : Fin 128) (k : RecKey) (w : Waiter) : State :=
  (((u.setSlot j (Slot.claimed k w)).touch j).missStarted).setQueue
    ((((u.setSlot j (Slot.claimed k w)).touch j).missStarted).port.queue ++ [.fill j])

theorem State.claimFill_eq (u : State) (j : Fin 128) (k : RecKey) (w : Waiter) :
    u.claimFill j k [w] = (u.claiming j k w).pump := rfl

theorem State.slot_claiming (u : State) (j : Fin 128) (k : RecKey) (w : Waiter) (m : Fin 128) :
    (u.claiming j k w).slot m = if m = j then Slot.claimed k w else u.slot m := by
  have hslots : (u.claiming j k w).cache.slots = (u.setSlot j (Slot.claimed k w)).cache.slots := by
    simp [State.claiming, State.missStarted, State.touch]
  refine Eq.trans ?_ (State.slot_setSlot u j m _)
  rw [State.slot, State.slot, hslots]

theorem State.claiming_unasked (u : State) (j : Fin 128) (k : RecKey) (w : Waiter) : (u.claiming j k w).unasked = u.unasked := by
  simp [State.unasked, State.claiming, State.missStarted, State.touch]

theorem State.claiming_fill (u : State) (j : Fin 128) (k : RecKey) (w : Waiter) : .fill j ∈ (u.claiming j k w).port.queue :=
  List.mem_append_right _ List.mem_cons_self

theorem State.ask_lowest (h : u.find k = .miss) (hlow : u.lowestEmpty j) (hplace : u.hasPlace = true) (w : Waiter) :
    ∃ q, u.ask k w = (q, .waiting j) ∧ u.Claimed q k w j := by
  obtain ⟨hempty, hlower⟩ := hlow
  have hclaimable := State.claimable_of_lowest hempty hlower
  have hclaim : u.claim k [w] = some (u.claimFill j k [w]) := by
    simp only [State.claim, hclaimable, hempty, hplace, reduceCtorEq, if_true, if_false]
  have hask : u.ask k w = (u.claimFill j k [w], .waiting j) := by simp only [State.ask, h, hclaim, hclaimable]
  rw [State.claimFill_eq] at hask
  refine ⟨_, hask, ?_⟩
  have harr := (State.Arranges.refl (u.claiming j k w)).pump
  have hwaiting := State.pump_waiting (u.claiming j k w)
  have hslot := u.slot_claiming j k w
  have hfill := u.claiming_fill j k w
  have hsame := u.claiming_unasked j k w
  generalize u.claiming j k w = v at harr hwaiting hslot hfill hsame
  generalize v.pump = q at harr hwaiting
  refine ⟨?_, fun m hm => ?_, ?_, harr.queue _ hfill⟩
  · simp only [State.unasked, Prod.mk.injEq] at hsame ⊢
    obtain ⟨hmem, hclock, hindex, hlanding, hmuster, hentries, hvwaiting, hserials⟩ := hsame
    rw [hwaiting, harr.frame]
    exact ⟨hmem, hclock, hindex, hlanding, hmuster, hentries, hvwaiting, hserials⟩
  · obtain ⟨-, -, -, -, -, -, hholds, -⟩ := (harr.slots m).kept
    rw [hholds, hslot, if_neg hm]
  · have htended := harr.slots j
    rw [hslot, if_pos rfl] at htended
    exact htended.eq_of_not_dirty (by simp [Slot.claimed])

/-- The miss cannot start: the stall timer runs (R34). -/
theorem State.ask_stuck (h : u.find k = .miss) (hclaim : u.claim k [w] = none) : u.ask k w = (u.missStuck, .stuck) := by
  simp only [State.ask, h, hclaim]

/-- No job can be queued: the port's queue is full, and no slot waits in it. -/
def State.portFull (u : State) : Prop := 16 ≤ u.port.queue.length ∧ ∀ m : Fin 128, (u.slot m).wbQueued = false

theorem State.claim_of_full (h : u.portFull) (k : RecKey) (ws : List Waiter) : u.claim k ws = none := by
  obtain ⟨hlength, hqueued⟩ := h
  have hplace : u.hasPlace = false := by simp [State.hasPlace, Nat.not_lt.mpr hlength]
  unfold State.claim
  split
  · rfl
  · simp [hqueued, hplace]

theorem State.claim_of_allClaimed (h : u.allClaimed) (k : RecKey) (ws : List Waiter) : u.claim k ws = none := by
  simp only [State.claim, State.claimable_eq_none h]

/-! ## What an offer that waits leaves -/

/-- The kinds of reader whose offers need a folio (R89, R105). -/
def asksFolio : ReaderKind → Bool
  | .lock | .bar => true
  | .laneOut | .laneIn | .muster => false

/-- The waiter that an offer is. -/
def Entry.waiter (a : Entry) (seq : Byte) (card : CardId) (record : Fin 2048) : Waiter := .reader a.line a.drop seq card record

/-- An offer that must wait is told so, whatever its reader's kind (R59, R89, R105, R148, R169). -/
theorem State.ownerDecide_waits (hbinding : p.bindingOf a = some b) (hcard : p.lookupCard card = .found x)
    (hform : a.kind = .bar → saleOk lines = true) (hgather : p.gather a seq card x (asksFolio a.kind) = (q, .wait)) :
    p.ownerDecide a seq card lines = q.defer a.line a.drop seq := by
  unfold State.ownerDecide
  cases hkind : a.kind with
  | lock => rw [hkind] at hgather; simp only [State.lockDecide, hbinding, hcard]; rw [show p.gather a seq card x true = _ from hgather]
  | bar =>
    rw [hkind] at hgather
    simp only [State.saleDecide, hbinding, hcard, hform hkind, Bool.true_eq_false, if_false]
    rw [show p.gather a seq card x true = _ from hgather]
  | laneOut => rw [hkind] at hgather; simp only [State.laneDecide, hbinding, hcard]; rw [show p.gather a seq card x false = _ from hgather]
  | laneIn => rw [hkind] at hgather; simp only [State.laneDecide, hbinding, hcard]; rw [show p.gather a seq card x false = _ from hgather]
  | muster => rw [hkind] at hgather; simp only [State.musterDecide, hbinding, hcard]; rw [show p.gather a seq card x false = _ from hgather]

/-- The reader has been told WAIT after its records were asked for, and the turn has ended. -/
structure State.OfferWaits (s q t : State) (n : Fin 4) (d : Nat) (seq : Byte) (trail : Option Trail) (keys : List RecKey) : Prop where
  entry : ∃ z, t.entryAt n d = some z ∧ z.toldWait s.clock.seconds seq ∧ z.trail = trail
  holds : t.holdsOnly n d keys
  same : t.index = s.index ∧ t.landing = s.landing ∧ t.muster = s.muster ∧ t.journal.next = s.journal.next ∧ t.mem = s.mem
  slots : ∀ m, (q.slot m).Tended (t.slot m) (t.port.job = some (.writeBack m))
  fill : ∀ j, .fill j ∈ q.port.queue ∨ q.port.job = some (.fill j) → .fill j ∈ t.port.queue ∨ t.port.job = some (.fill j)
  stalling : t.cache.stalling = q.cache.stalling
  kept : q.recordsKept t

theorem State.Arrives.waits (h : s.Arrives p n e seq) (hwait : s.port.waiting = []) (hsame : q.unasked = p.unasked)
    (hholds : q.holdsOnly n e.drop keys) (asks : Bool) :
    s.OfferWaits q (((q.defer n e.drop seq).roundReview n).settle asks) n e.drop seq e.trail keys := by
  obtain ⟨y, hy, hseq, hdeferred, htrail, -⟩ := h.entry
  simp only [State.unasked, Prod.mk.injEq] at hsame
  obtain ⟨hmem, hclock, hindex, hlanding, hmuster, hentries, hwaiting, -, -, hnext⟩ := hsame
  have hentry : (q.defer n e.drop seq).entryAt n e.drop = some (y.told q.clock.seconds seq (mkVerdict .wait)) :=
    State.entryAt_makeOutgoing ((State.entryAt_congr hentries n e.drop).trans hy) seq _
  have hcache : (q.defer n e.drop seq).cache = q.cache := State.makeOutgoing_cache _ _ _ _ _
  have hport : (q.defer n e.drop seq).port = q.port := by simp [State.defer]
  have hrest : ((q.defer n e.drop seq).index, (q.defer n e.drop seq).landing, (q.defer n e.drop seq).muster,
      (q.defer n e.drop seq).journal, (q.defer n e.drop seq).mem) = (q.index, q.landing, q.muster, q.journal, q.mem) := by
    simp [State.defer]
  have hturn := State.turnEnds (t := q.defer n e.drop seq) (by rw [hport, hwaiting, h.port]; exact hwait) n asks
  generalize q.defer n e.drop seq = v at hentry hcache hport hrest hturn
  generalize (v.roundReview n).settle asks = t at hturn
  simp only [Prod.mk.injEq] at hrest
  obtain ⟨hvindex, hvlanding, hvmuster, hvjournal, hvmem⟩ := hrest
  have hslot (m : Fin 128) : v.slot m = q.slot m := by rw [State.slot, hcache]; rfl
  refine ⟨⟨_, (hturn.entryAt _ _).trans hentry, ⟨hdeferred, hseq, ?_⟩, htrail⟩, hturn.holdsOnly ?_, ⟨?_, ?_, ?_, ?_, ?_⟩, fun m => ?_,
    fun j hj => ?_, ?_, ?_⟩
  · rw [hclock, h.clock]
    exact Entry.told_outgoingSince _ _ _ _
  · exact State.holdsOnly_congr hholds fun m => by rw [hslot]
  · rw [hturn.index, hvindex, hindex, h.index]
  · rw [hturn.landing, hvlanding, hlanding, h.landing]
  · rw [hturn.muster, hvmuster, hmuster, h.muster]
  · rw [hturn.next, hvjournal, hnext, h.next]
  · rw [hturn.mem, hvmem, hmem, h.mem]
  · rw [← hslot]; exact hturn.slots m
  · rw [← hport] at hj
    exact hj.elim (hturn.queue _) fun hj => .inr (hturn.job _ hj)
  · rw [hturn.stalling, hcache]
  · refine State.recordsKept.trans (State.recordsKept_of_slots (fun m => ?_) ?_) hturn.recordsKept
    · rw [hslot]; exact ⟨rfl, rfl⟩
    · rw [hvindex, hvjournal, hvmem]

namespace State.OfferWaits
variable {trail : Option Trail} (h : s.OfferWaits q t n d seq trail keys)
include h

theorem slotHolds (m : Fin 128) : (t.slot m).holds = (q.slot m).holds := by
  obtain ⟨-, -, -, -, -, -, hholds, -⟩ := (h.slots m).kept
  exact hholds

theorem slotWaiters (m : Fin 128) : (t.slot m).waiters = (q.slot m).waiters := by
  obtain ⟨-, -, -, hwaiters, -⟩ := (h.slots m).kept
  exact hwaiters

/-- A slot that the offer has claimed stands as it was left, its fill on the way. -/
theorem filling {z : Slot} (hfill : .fill j ∈ q.port.queue ∨ q.port.job = some (.fill j)) (hslot : q.slot j = z)
    (hz : z.state = .filling) : t.slot j = z ∧ (.fill j ∈ t.port.queue ∨ t.port.job = some (.fill j)) := by
  refine ⟨?_, h.fill j hfill⟩
  rw [(h.slots j).eq_of_not_dirty (by rw [hslot, hz]; nofun), hslot]

end State.OfferWaits

/-- The holds that stand once an offer has asked, and those alone (R37). -/
def State.heldOnly (q : State) (n : Fin 4) (d : Nat) (k : RecKey) (j : Fin 128) (keys : List RecKey) : State :=
  (q.placeHold n d k j).prune n d keys

theorem State.slot_heldOnly (q : State) (n : Fin 4) (d : Nat) (k : RecKey) (j : Fin 128) (keys : List RecKey) (m : Fin 128) :
    (q.heldOnly n d k j keys).slot m =
      ((if m = j then (q.slot j).placeHold { line := n, drop := d, key := k, expiry := laterBy q.clock.seconds 2 }
        else q.slot m).prune n d keys) := by
  unfold State.heldOnly
  rw [State.slot_prune, State.slot_placeHold]

/-- A hold placed on the slot that brings the record in stands (R37). -/
theorem State.heldOnly_heldFor (q : State) (n : Fin 4) (d : Nat) (k : RecKey) (j : Fin 128) (hk : k ∈ keys) :
    ((q.heldOnly n d k j keys).slot j).heldFor n d k (laterBy q.clock.seconds 2) := by
  rw [State.slot_heldOnly, if_pos rfl]
  exact Slot.heldFor_prune (Slot.heldFor_placeHold _ _ _ _ _) hk

/-- A hold that stood for another record stands still. -/
theorem State.heldOnly_heldFor_other (h : (q.slot i).heldFor n d k expiry) (hk : k ∈ keys) (hkk : k' ≠ k) (j : Fin 128) :
    ((q.heldOnly n d k' j keys).slot i).heldFor n d k expiry := by
  rw [State.slot_heldOnly]
  refine Slot.heldFor_prune ?_ hk
  split
  · next hi => subst hi; exact Slot.heldFor_placeHold_other h hkk
  · exact h

theorem State.heldOnly_holdsOnly (q : State) (n : Fin 4) (d : Nat) (k : RecKey) (j : Fin 128) (keys : List RecKey) :
    (q.heldOnly n d k j keys).holdsOnly n d keys := State.prune_holdsOnly _ _ _ _

theorem State.heldOnly_recordsKept (q : State) (n : Fin 4) (d : Nat) (k : RecKey) (j : Fin 128) (keys : List RecKey) :
    q.recordsKept (q.heldOnly n d k j keys) := (q.recordsKept_placeHold n d k j).trans (State.recordsKept_prune _ _ _ _)

theorem State.Joined.stillWaits (h : u.Joined q k w j) (hk : k ∈ keys) (n : Fin 4) (d : Nat) :
    w ∈ ((q.heldOnly n d k j keys).slot j).waiters := by
  rw [State.slot_heldOnly, if_pos rfl]
  exact Slot.mem_prune_waiters h.waits hk h.brings

theorem State.Claimed.filling (h : u.Claimed q k w j) (hk : k ∈ keys) (n : Fin 4) (d : Nat) :
    (q.heldOnly n d k j keys).slot j = { Slot.blank with
      state := .filling, key := some k, waiters := [w]
      holds := [{ line := n, drop := d, key := k, expiry := laterBy q.clock.seconds 2 }] } := by
  rw [State.slot_heldOnly, if_pos rfl, h.slot]
  unfold Slot.prune Slot.placeHold
  simp [Slot.claimed, Slot.blank, hk]
  exact .inr ⟨k, hk, by simp [Slot.brings]⟩

/-! ## Gathering the records of an offer that waits (R89, R105, R148) -/

theorem State.gather_waiting (h : p.ask (.guest x.record) (a.waiter seq card x.record) = (q, .waiting i)) (folio : Bool) :
    p.gather a seq card x folio = (q.heldOnly a.line a.drop (.guest x.record) i [.guest x.record], .wait) := by
  simp only [State.gather, show p.ask (.guest x.record) (.reader a.line a.drop seq card x.record) = _ from h, State.heldOnly]

theorem State.gather_stuck (h : p.ask (.guest x.record) (a.waiter seq card x.record) = (q, .stuck)) (folio : Bool) :
    p.gather a seq card x folio = (q.prune a.line a.drop [], .wait) := by
  simp only [State.gather, show p.ask (.guest x.record) (.reader a.line a.drop seq card x.record) = _ from h]

/-- The state in which a folio is asked for: the guest record has been found, and is held (R37; log 13). -/
def State.guestHeld (p : State) (a : Entry) (k : RecKey) (i : Fin 128) : State := (p.touch i).placeHold a.line a.drop k i

theorem State.slot_guestHeld (p : State) (a : Entry) (k : RecKey) (i m : Fin 128) : (p.guestHeld a k i).slot m =
    if m = i then (p.slot i).placeHold { line := a.line, drop := a.drop, key := k, expiry := laterBy p.clock.seconds 2 }
    else p.slot m := State.slot_placeHold (p.touch i) _ _ _ _ _

theorem State.find_guestHeld (p : State) (a : Entry) (k : RecKey) (i : Fin 128) (k' : RecKey) :
    (p.guestHeld a k i).find k' = p.find k' :=
  State.find_of_place (fun m => by
    rw [State.slot_guestHeld]
    split
    · next h => rw [h]; rfl
    · rfl) k'

/-- An offer asks for the folio its guest record names (R89, R105). -/
theorem State.gather_folio (hfind : p.find (.guest x.record) = .hit i) (hcontent : (p.slot i).content = some (.guest g))
    (hfolio : g.folio = some f) :
    p.gather a seq card x true = (p.touch i).gatherFolio a (a.waiter seq card x.record) (.guest x.record) i g f := by
  have hask (z : Waiter) : p.ask (.guest x.record) z = (p.touch i, .hit i) := by simp only [State.ask, hfind]
  have hslot : ((p.touch i).slot i).content = some (.guest g) := hcontent
  simp only [State.gather, hask, hslot, hfolio, Entry.waiter]

section
variable (hfind : p.find (.guest x.record) = .hit i) (hcontent : (p.slot i).content = some (.guest g)) (hfolio : g.folio = some f)
  (hmissed : ∀ j, p.find (.folio f) ≠ .hit j)
include hfind hcontent hfolio hmissed

theorem State.gather_folio_waiting
    (hask : (p.guestHeld a (.guest x.record) i).ask (.folio f) (a.waiter seq card x.record) = (q, .waiting j)) :
    p.gather a seq card x true = (q.heldOnly a.line a.drop (.folio f) j [.guest x.record, .folio f], .wait) := by
  have hask : ((p.touch i).placeHold a.line a.drop (.guest x.record) i).ask (.folio f) (a.waiter seq card x.record) =
    (q, .waiting j) := hask
  rw [State.gather_folio hfind hcontent hfolio]
  unfold State.gatherFolio
  split
  · next m hm => exact absurd hm (hmissed m)
  · rw [hask]; rfl

theorem State.gather_folio_stuck
    (hask : (p.guestHeld a (.guest x.record) i).ask (.folio f) (a.waiter seq card x.record) = (q, .stuck)) :
    p.gather a seq card x true = (q.prune a.line a.drop [.guest x.record], .wait) := by
  have hask : ((p.touch i).placeHold a.line a.drop (.guest x.record) i).ask (.folio f) (a.waiter seq card x.record) = (q, .stuck) :=
    hask
  rw [State.gather_folio hfind hcontent hfolio]
  unfold State.gatherFolio
  split
  · next m hm => exact absurd hm (hmissed m)
  · rw [hask]

end

/-! ## The offer's turn -/

/-- The offer is told WAIT with these holds alone, and what more is said of the state then. -/
def State.waitsWith (s : State) (e : Entry) (dur : Nat) (seq : Byte) (card : CardId) (ls : Option (List SaleLine)) (keys : List RecKey)
    (more : State → Prop) : Prop :=
  ∃ t y, exec (.offer e.line dur seq card ls) s = .next t
    ∧ t.entryAt e.line e.drop = some y ∧ y.toldWait s.clock.seconds seq ∧ y.trail = e.trail ∧ t.holdsOnly e.line e.drop keys
    ∧ t.index = s.index ∧ t.landing = s.landing ∧ t.muster = s.muster ∧ t.journal.next = s.journal.next ∧ t.mem = s.mem ∧ more t

/-- The offer has arrived, and what asking for its records comes to decides it. -/
structure State.Decides (s p : State) (e : Entry) (dur : Nat) (seq : Byte) (card : CardId) (ls : Option (List SaleLine))
    (x : IndexEntry) : Prop where
  arrives : s.Arrives p e.line e seq
  waits : ∀ (q : State) (keys : List RecKey) (more : State → Prop),
    p.gather (e.answered .presented) seq card x (asksFolio e.kind) = (q, .wait) → q.unasked = p.unasked →
    q.holdsOnly e.line e.drop keys → (∀ t, s.OfferWaits q t e.line e.drop seq e.trail keys → more t) →
    s.waitsWith e dur seq card ls keys more

/-- An offer whose card is indexed, at a bound reader (R56, R59). -/
theorem State.decides_offer {slot : Fin 192} {ls : Option (List SaleLine)} (hawait : s.awaitsAnswer e.line e)
    (hform : ls.isSome = true ↔ e.kind = .bar) (hok : ∀ l, ls = some l → saleOk l = true)
    (hnew : e.lastSeq ≠ some seq ∨ e.disposition = .deferred) (hpower : s.power.state = .normal) (hbinding : e.binding = .bound slot)
    (hbound : s.bindings[slot] = some b) (hcard : s.index.find? (fun z => decide (z.card = card)) = some x) (dur : Nat) :
    ∃ p, s.Decides p e dur seq card ls x := by
  obtain ⟨hreset, hwait, -, hcalled⟩ := hawait
  obtain ⟨p, asks, harr, hexec⟩ := State.exec_offer hreset hcalled hform hnew hpower dur card
  refine ⟨p, harr, fun q keys more hgather hsame hholds hmore => ?_⟩
  have hbind : p.bindingOf (e.answered .presented) = some b := by
    rw [harr.bindingOf]
    have hslot : (e.answered .presented).binding = .bound slot := hbinding
    unfold State.bindingOf
    rw [hslot]
    exact hbound
  have hlookup : p.lookupCard card = .found x := by rw [harr.lookupCard, State.lookupCard, hcard]
  have hsale : (e.answered .presented).kind = .bar → saleOk (ls.getD []) = true := fun hk => by
    obtain ⟨l, hl⟩ := Option.isSome_iff_exists.mp (hform.mpr hk)
    rw [hl]
    exact hok l hl
  rw [State.ownerDecide_waits hbind hlookup hsale hgather] at hexec
  have h := harr.waits hwait hsame hholds asks
  obtain ⟨z, hz, htold, htrail⟩ := h.entry
  obtain ⟨hindex, hlanding, hmuster, hnext, hmem⟩ := h.same
  exact ⟨_, z, hexec, hz, htold, htrail, h.holds, hindex, hlanding, hmuster, hnext, hmem, hmore _ h⟩

/-! ## A failed fill (R36) -/

/-- The verdict that denies an offer is the one of its reader's kind (12.3). -/
theorem denial_eq_refusing (kind : ReaderKind) (r : Reason) : denial kind r = refusing kind r := by cases kind <;> rfl

/-- What refusing an offer leaves. -/
structure State.Refuses (u v : State) (e : Entry) (seq : Byte) (card : CardId) (record : Option (Fin 2048)) (r : Reason) : Prop where
  entry : ∃ z, v.entryAt e.line e.drop = some z ∧ z.decidedAs u.clock.seconds seq (refusing e.kind r)
    ∧ z.trail = e.trailAfter record card (refusing e.kind r) u.clock.seconds
  holds : v.holdsOnly e.line e.drop []
  slots : ∀ m, v.slot m = (u.slot m).prune e.line e.drop []
  same : (v.port, v.router) = (u.port, u.router)

/-- An entry whose trail, if it has one, ends in a decision (R97). -/
def Entry.traced (z : Entry) (x : TrailEntry) : Entry := { z with trail := z.trail.map fun tr => tr.append x }

theorem State.refuses_giveFinal {z : Entry} {record : Option (Fin 2048)} {r : Reason}
    (hz : q.entryAt e.line e.drop = some z)
    (htrail : z.trail = e.trailAfter record card (refusing e.kind r) u.clock.seconds)
    (hsame : (q.cache, q.port, q.router, q.clock) = (u.cache, u.port, u.router, u.clock)) (seq : Byte) :
    u.Refuses (q.giveFinal e.line e.drop seq (denial e.kind r)) e seq card record r := by
  simp only [Prod.mk.injEq] at hsame
  obtain ⟨hcache, hport, hrouter, hclock⟩ := hsame
  rw [denial_eq_refusing]
  refine ⟨⟨_, State.entryAt_giveFinal hz seq _, ?_, htrail⟩, State.giveFinal_holdsOnly _ _ _ _ _, fun m => ?_, by simp [hport, hrouter]⟩
  · rw [hclock]; exact Entry.decided_decidedAs _ _ _ _
  · rw [State.slot_giveFinal, State.slot, hcache]; rfl

theorem State.refuses_deny (h : u.entryAt e.line e.drop = some e) (seq : Byte) (card : CardId) (record : Option (Fin 2048))
    (r : Reason) : u.Refuses (u.deny e seq card record r) e seq card record r := by
  unfold State.deny
  by_cases hlock : e.kind = .lock
  · have hdenial : denial .lock r = denial e.kind r := by rw [hlock]
    set x : TrailEntry := ⟨record, card, (denial e.kind r).kind, (denial e.kind r).reason, u.clock.seconds, false⟩ with hx
    have hat : (u.modEntry e.line e.drop fun z => z.traced x).entryAt e.line e.drop = some (e.traced x) :=
      (State.entryAt_modEntry (by simp [Entry.traced]) u _ _).trans (by rw [h]; rfl)
    rw [if_pos hlock, hdenial]
    unfold State.decideLock
    refine State.refuses_giveFinal (u := u) hat ?_ rfl seq
    rw [Entry.trailAfter, if_pos hlock, ← denial_eq_refusing]
    rfl
  · rw [if_neg hlock]
    refine State.refuses_giveFinal (u := u) h ?_ rfl seq
    rw [Entry.trailAfter, if_neg hlock]

/-- The waiter of a failed fill is refused while its offer stands, and left alone once it does not (R36; log 14). -/
theorem State.failWaiter_reader {record : Fin 2048} (h : u.entryAt n d = some e) : u.failWaiter (.reader n d seq card record) =
    if e.disposition = .deferred ∧ e.lastSeq = some seq then u.deny e seq card (some record) .recordFault else u := by
  simp only [State.failWaiter, h]

/-- A failed fill's end, when slot i is left EMPTY. -/
theorem State.jobOver_failed {v : State} (hwait : s.port.waiting = []) (hsame : (v.port, v.router) = (s.port, (s.report false).router))
    (hslot : v.slot i = Slot.blank) : v.jobOver.slot i = Slot.blank ∧ v.jobOver.entries = v.entries
    ∧ (∀ m, (v.jobOver.slot m).holds = (v.slot m).holds)
    ∧ (s.port.silent = false → (v.jobOver.router.entry .memCheck).present = true)
    ∧ (s.port.silent = true → s.memoryConditionsStay v.jobOver) := by
  simp only [Prod.mk.injEq] at hsame
  obtain ⟨hport, hrouter⟩ := hsame
  have hrest : v.resting := State.resting_of_nil (by rw [hport]; exact hwait)
  have htends := State.idle_tends_jobOver hrest
  have hrouter' : v.jobOver.router = (s.report false).router := htends.router.trans hrouter
  refine ⟨?_, htends.entries, fun m => ?_, fun hs => ?_, fun hs => State.memoryConditionsStay_of_router ?_⟩
  · rw [State.jobOver_slot_of_not_dirty hrest (by rw [hslot]; nofun), hslot]
  · obtain ⟨-, -, -, -, -, -, hholds, -⟩ := (htends.slots m).kept
    exact hholds
  · rw [hrouter', State.report_memCheck hs]; rfl
  · rw [hrouter', State.report_of_silent hs]

/-- A failed fill that an offer waits for. -/
theorem fill_fails_refuses {r : ReadResult} {record : Fin 2048} (hreset : s.inReset = false) (hwait : s.port.waiting = [])
    (hjob : s.port.job = some (.fill i) ∨ s.port.job = some (.pairRead i)) (hrec : s.port.record = some k)
    (hstate : (s.slot i).state = .filling) (hkey : (s.slot i).key = some k) (hfails : s.readFails k r ∨ s.port.silent = true)
    (hwaiters : (s.slot i).waiters = [.reader n d seq card record]) (hentry : s.entryAt n d = some e) :
    ∃ t y, exec (.fill r) s = .next t ∧ t.entryAt n d = some y ∧ t.slot i = Slot.blank
      ∧ (s.port.silent = false → (t.router.entry .memCheck).present = true)
      ∧ (s.port.silent = true → s.memoryConditionsStay t)
      ∧ (e.disposition = .deferred ∧ e.lastSeq = some seq →
          y.decidedAs s.clock.seconds seq (refusing e.kind .recordFault) ∧ t.holdsOnly n d []
          ∧ y.trail = e.trailAfter (some record) card (refusing e.kind .recordFault) s.clock.seconds)
      ∧ (¬(e.disposition = .deferred ∧ e.lastSeq = some seq) → y = e) := by
  obtain ⟨rfl, rfl⟩ := State.isAt_of_entryAt hentry
  have hdone := State.fillDone_of_fails hrec hstate hkey (State.readRecord_of_fails hfails)
  rw [hwaiters, List.foldl_cons, List.foldl_nil] at hdone
  set u := (s.report false).setSlot i Slot.blank with hu
  have hslot : u.slot i = Slot.blank := State.slot_setSlot_same _ _ _
  have hat : u.entryAt e.line e.drop = some e := (State.entryAt_congr (by simp [hu]) _ _).trans hentry
  have hclock : u.clock = s.clock := by simp [hu]
  have hsame : (u.port, u.router) = (s.port, (s.report false).router) := by simp [hu]
  clear_value u
  rw [State.failWaiter_reader hat] at hdone
  by_cases hstands : e.disposition = .deferred ∧ e.lastSeq = some seq
  · rw [if_pos hstands] at hdone
    have hrefuses := State.refuses_deny hat seq card (some record) .recordFault
    rw [← hdone] at hrefuses
    obtain ⟨⟨z, hz, hdecided, htrail⟩, hholds, hslots, hsame'⟩ := hrefuses
    rw [hclock] at hdecided htrail
    obtain ⟨hblank, hentries, hheld, hcheck, hstay⟩ := State.jobOver_failed (i := i) hwait (hsame'.trans hsame)
      (by rw [hslots, hslot]; rfl)
    exact ⟨_, z, exec_fill hreset hjob, (State.entryAt_congr hentries _ _).trans hz, hblank, hcheck, hstay,
      fun _ => ⟨hdecided, State.holdsOnly_congr hholds hheld, htrail⟩, fun hno => absurd hstands hno⟩
  · rw [if_neg hstands] at hdone
    rw [← hdone] at hsame hslot hat
    obtain ⟨hblank, hentries, -, hcheck, hstay⟩ := State.jobOver_failed (i := i) hwait hsame hslot
    exact ⟨_, e, exec_fill hreset hjob, (State.entryAt_congr hentries _ _).trans hat, hblank, hcheck, hstay,
      fun hyes => absurd hyes hstands, fun _ => rfl⟩

/-! ## The obligation -/

theorem State.Arrives.portFull (h : s.Arrives p n e seq) (hfull : s.portFull) : p.portFull :=
  ⟨by rw [h.port]; exact hfull.1, fun m => by rw [h.slot m]; exact hfull.2 m⟩

theorem State.Arrives.busy (h : s.Arrives p n e seq) {m : Fin 128} (hbusy : (s.slot m).busy) : (p.slot m).busy := by
  rw [h.slot m]; exact hbusy

theorem State.Arrives.lowestEmpty (h : s.Arrives p n e seq) (hlow : s.lowestEmpty j) : p.lowestEmpty j := by
  refine ⟨by rw [h.slot j]; exact hlow.1, fun m hm => ?_⟩
  rw [h.slot m]
  exact hlow.2 m hm

theorem State.Arrives.hasPlace (h : s.Arrives p n e seq) (hplace : s.placeFree) : p.hasPlace = true := by
  rw [State.hasPlace_iff]
  simpa only [State.placeFree, h.port, h.power] using hplace

theorem State.guestHeld_heldFor (p : State) (a : Entry) (k : RecKey) (i : Fin 128) :
    ((p.guestHeld a k i).slot i).heldFor a.line a.drop k (laterBy p.clock.seconds 2) := by
  rw [State.slot_guestHeld, if_pos rfl]
  exact Slot.heldFor_placeHold _ _ _ _ _

theorem State.guestHeld_portFull (h : p.portFull) (a : Entry) (k : RecKey) (i : Fin 128) : (p.guestHeld a k i).portFull := by
  refine ⟨h.1, fun m => ?_⟩
  rw [State.slot_guestHeld]
  split
  · exact h.2 i
  · exact h.2 m

/-- The guest's hold keeps its slot from being the victim (log 13). -/
theorem State.guestHeld_allClaimed (hstate : (p.slot i).state = .clean ∨ (p.slot i).state = .dirty ∨ (p.slot i).state = .writing)
    (h : ∀ m, m ≠ i → (p.slot m).busy) (a : Entry) (k : RecKey) : (p.guestHeld a k i).allClaimed := by
  intro m
  rw [State.slot_guestHeld]
  split
  · obtain ⟨⟨o, ho, -⟩, -⟩ := Slot.heldFor_placeHold (p.slot i) a.line a.drop k (laterBy p.clock.seconds 2)
    refine ⟨?_, ?_⟩
    · show (p.slot i).state ≠ .empty
      rcases hstate with h | h | h <;> rw [h] <;> nofun
    · have hne := List.isEmpty_eq_false_iff.mpr (List.ne_nil_of_mem ho)
      simp [Slot.isVictim, hne]
  · next hm => exact (h m hm).claimed

theorem State.guestHeld_lowestEmpty (h : p.lowestEmpty j) (a : Entry) (k : RecKey) (i : Fin 128) :
    (p.guestHeld a k i).lowestEmpty j := by
  have hslot (m : Fin 128) : ((p.guestHeld a k i).slot m).state = (p.slot m).state := by
    rw [State.slot_guestHeld]
    split
    · next hm => rw [hm]; rfl
    · rfl
  exact ⟨by rw [hslot]; exact h.1, fun m hm => by rw [hslot]; exact h.2 m hm⟩

/-- The slot of a miss that an offer has started: FILLING, with the offer's hold, its fill on the way (R33, R37). -/
def State.fillsFor (t : State) (i : Fin 128) (r : RecKey) (w : Waiter) (l : Fin 4) (d : Nat) (expiry : Nat) : Prop :=
  t.slot i = { Slot.blank with
    state := .filling, key := some r, waiters := [w], holds := [{ line := l, drop := d, key := r, expiry := expiry }] }
  ∧ (.fill i ∈ t.port.queue ∨ t.port.job = some (.fill i))

section
variable {dur : Nat} {ls : Option (List SaleLine)} (h : s.Decides p e dur seq card ls x)
include h

/-- The expiry of the holds that an offer places (R37). -/
theorem State.Decides.holdExpiry (hq : q.unasked = p.unasked) : laterBy q.clock.seconds 2 = laterBy s.clock.seconds 2 := by
  have hclock : q.clock = p.clock := congrArg (·.2.1) hq
  rw [hclock, h.arrives.clock]

/-! ### The guest record is not cached -/

theorem State.Decides.guestJoins (hjoin : s.find (.guest x.record) = .join i) :
    s.waitsWith e dur seq card ls [.guest x.record] fun t =>
      (t.slot i).heldFor e.line e.drop (.guest x.record) (laterBy s.clock.seconds 2)
      ∧ e.waiter seq card x.record ∈ (t.slot i).waiters ∧ s.recordsKept t := by
  obtain ⟨q, hask, hjoined⟩ := State.ask_join ((h.arrives.find _).trans hjoin) (e.waiter seq card x.record)
  refine h.waits _ _ _ (State.gather_waiting hask _) hjoined.same (State.heldOnly_holdsOnly _ _ _ _ _ _) fun t ht => ⟨?_, ?_, ?_⟩
  · rw [← h.holdExpiry hjoined.same]
    exact Slot.heldFor_of_holds (State.heldOnly_heldFor q _ _ _ i List.mem_cons_self) (ht.slotHolds i)
  · rw [ht.slotWaiters]
    exact hjoined.stillWaits List.mem_cons_self _ _
  · exact h.arrives.recordsKept.trans (hjoined.kept.trans ((State.heldOnly_recordsKept _ _ _ _ _ _).trans ht.kept))

theorem State.Decides.guestClaims (hmiss : s.find (.guest x.record) = .miss) (hlow : s.lowestEmpty i) (hplace : s.placeFree) :
    s.waitsWith e dur seq card ls [.guest x.record] fun t =>
      t.fillsFor i (.guest x.record) (e.waiter seq card x.record) e.line e.drop (laterBy s.clock.seconds 2) := by
  obtain ⟨q, hask, hclaimed⟩ := State.ask_lowest ((h.arrives.find _).trans hmiss) (h.arrives.lowestEmpty hlow)
    (h.arrives.hasPlace hplace) (e.waiter seq card x.record)
  refine h.waits _ _ _ (State.gather_waiting hask _) hclaimed.same (State.heldOnly_holdsOnly _ _ _ _ _ _) fun t ht => ?_
  exact ht.filling hclaimed.fill (h.holdExpiry hclaimed.same ▸ hclaimed.filling List.mem_cons_self _ _) rfl

theorem State.Decides.guestStalls (hmiss : s.find (.guest x.record) = .miss) (hstuck : s.portFull ∨ ∀ m, (s.slot m).busy) :
    s.waitsWith e dur seq card ls [] fun t => t.cache.stalling = true ∧ s.recordsKept t := by
  have hclaim : p.claim (.guest x.record) [e.waiter seq card x.record] = none := by
    rcases hstuck with hfull | hbusy
    · exact State.claim_of_full (h.arrives.portFull hfull) _ _
    · exact State.claim_of_allClaimed (fun m => (h.arrives.busy (hbusy m)).claimed) _ _
  have hask := State.ask_stuck ((h.arrives.find _).trans hmiss) hclaim
  refine h.waits _ _ _ (State.gather_stuck hask _) ((State.unasked_prune _ _ _ _).trans p.unasked_missStuck) (State.prune_holdsOnly _ _ _ _) fun t ht => ⟨ht.stalling, ?_⟩
  exact h.arrives.recordsKept.trans ((p.recordsKept_prune e.line e.drop []).trans ht.kept)

/-! ### The guest record is cached, and the folio it names is not -/

variable (hkind : e.kind = .lock ∨ e.kind = .bar) (hhit : s.find (.guest x.record) = .hit i)
  (hcontent : (s.slot i).content = some (.guest g)) (hfolio : g.folio = some f)

/-- The guest's hold stands, whatever is asked for next. -/
theorem State.Decides.guestStaysHeld {r : RecKey}
    (hq : (q.slot i).holds = ((p.guestHeld (e.answered .presented) k i).slot i).holds)
    (hk : k ∈ keys) (hr : r ≠ k) (ht : s.OfferWaits (q.heldOnly e.line e.drop r j keys) t e.line e.drop seq e.trail keys) :
    (t.slot i).heldFor e.line e.drop k (laterBy s.clock.seconds 2) := by
  have hguest := p.guestHeld_heldFor (e.answered .presented) k i
  rw [h.holdExpiry rfl] at hguest
  exact Slot.heldFor_of_holds (State.heldOnly_heldFor_other (Slot.heldFor_of_holds hguest hq) hk hr j) (ht.slotHolds i)

theorem State.Decides.find_guestHeld (a : Entry) (r : RecKey) : (p.guestHeld a k i).find r = s.find r :=
  (State.find_guestHeld _ _ _ _ _).trans (h.arrives.find r)

theorem State.Decides.recordsKept_guestHeld (a : Entry) : s.recordsKept (p.guestHeld a k i) :=
  h.arrives.recordsKept.trans ((p.touch i).recordsKept_placeHold _ _ _ _)

include hkind hhit hcontent hfolio

theorem State.Decides.folioWaits (hmissed : ∀ m, s.find (.folio f) ≠ .hit m)
    (hask : (p.guestHeld (e.answered .presented) (.guest x.record) i).ask (.folio f) (e.waiter seq card x.record) = (q, .waiting j)) :
    p.gather (e.answered .presented) seq card x (asksFolio e.kind) =
      (q.heldOnly e.line e.drop (.folio f) j [.guest x.record, .folio f], .wait) := by
  have hasks : asksFolio e.kind = true := by rcases hkind with h | h <;> rw [h] <;> rfl
  rw [hasks]
  exact State.gather_folio_waiting ((h.arrives.find _).trans hhit) (by rw [h.arrives.slot i]; exact hcontent) hfolio
    (fun m => by rw [h.arrives.find]; exact hmissed m) hask

theorem State.Decides.folioJoins (hjoin : s.find (.folio f) = .join j) :
    s.waitsWith e dur seq card ls [.guest x.record, .folio f] fun t =>
      (t.slot i).heldFor e.line e.drop (.guest x.record) (laterBy s.clock.seconds 2)
      ∧ (t.slot j).heldFor e.line e.drop (.folio f) (laterBy s.clock.seconds 2)
      ∧ e.waiter seq card x.record ∈ (t.slot j).waiters ∧ s.recordsKept t := by
  obtain ⟨q, hask, hjoined⟩ := State.ask_join ((h.find_guestHeld (e.answered .presented) _).trans hjoin)
    (e.waiter seq card x.record)
  refine h.waits _ _ _ (h.folioWaits hkind hhit hcontent hfolio (by rw [hjoin]; nofun) hask) hjoined.same
    (State.heldOnly_holdsOnly _ _ _ _ _ _) fun t ht => ⟨?_, ?_, ?_, ?_⟩
  · exact h.guestStaysHeld (hjoined.holds i) List.mem_cons_self (by nofun) ht
  · rw [← h.holdExpiry hjoined.same]
    exact Slot.heldFor_of_holds (State.heldOnly_heldFor q _ _ _ j (by simp)) (ht.slotHolds j)
  · rw [ht.slotWaiters]
    exact hjoined.stillWaits (by simp) _ _
  · exact (h.recordsKept_guestHeld _).trans (hjoined.kept.trans ((State.heldOnly_recordsKept _ _ _ _ _ _).trans ht.kept))

theorem State.Decides.folioClaims (hmiss : s.find (.folio f) = .miss) (hlow : s.lowestEmpty j) (hplace : s.placeFree) :
    s.waitsWith e dur seq card ls [.guest x.record, .folio f] fun t =>
      (t.slot i).heldFor e.line e.drop (.guest x.record) (laterBy s.clock.seconds 2)
      ∧ t.fillsFor j (.folio f) (e.waiter seq card x.record) e.line e.drop (laterBy s.clock.seconds 2) := by
  have hij : i ≠ j := by
    rintro rfl
    rcases State.state_of_hit hhit with h | h | h <;> exact absurd (h.symm.trans hlow.1) (by nofun)
  obtain ⟨q, hask, hclaimed⟩ := State.ask_lowest ((h.find_guestHeld (e.answered .presented) _).trans hmiss)
    (State.guestHeld_lowestEmpty (h.arrives.lowestEmpty hlow) _ _ _) (h.arrives.hasPlace hplace) (e.waiter seq card x.record)
  refine h.waits _ _ _ (h.folioWaits hkind hhit hcontent hfolio (by rw [hmiss]; nofun) hask) hclaimed.same
    (State.heldOnly_holdsOnly _ _ _ _ _ _) fun t ht => ⟨?_, ?_⟩
  · exact h.guestStaysHeld (hclaimed.holds i hij) List.mem_cons_self (by nofun) ht
  · exact ht.filling hclaimed.fill (h.holdExpiry hclaimed.same ▸ hclaimed.filling (by simp) _ _) rfl

theorem State.Decides.folioStalls (hmiss : s.find (.folio f) = .miss) (hstuck : s.portFull ∨ ∀ m, m ≠ i → (s.slot m).busy) :
    s.waitsWith e dur seq card ls [.guest x.record] fun t =>
      (t.slot i).heldFor e.line e.drop (.guest x.record) (laterBy s.clock.seconds 2) ∧ t.cache.stalling = true ∧ s.recordsKept t := by
  have hhit' : p.find (.guest x.record) = .hit i := (h.arrives.find _).trans hhit
  set u := p.guestHeld (e.answered .presented) (.guest x.record) i with hu
  have hclaim : u.claim (.folio f) [e.waiter seq card x.record] = none := by
    rcases hstuck with hfull | hbusy
    · exact State.claim_of_full (State.guestHeld_portFull (h.arrives.portFull hfull) _ _ _) _ _
    · exact State.claim_of_allClaimed
        (State.guestHeld_allClaimed (State.state_of_hit hhit') (fun m hm => h.arrives.busy (hbusy m hm)) _ _) _ _
  have hask := State.ask_stuck ((h.find_guestHeld _ _).trans hmiss) hclaim
  have hasks : asksFolio e.kind = true := by rcases hkind with h | h <;> rw [h] <;> rfl
  have hgather := State.gather_folio_stuck hhit' (by rw [h.arrives.slot i]; exact hcontent) hfolio
    (fun m => by rw [h.arrives.find, hmiss]; nofun) hask
  rw [← hasks] at hgather
  have hsame : (u.missStuck.prune e.line e.drop [.guest x.record]).unasked = p.unasked := by
    rw [State.unasked_prune, State.unasked_missStuck, hu, State.guestHeld, State.unasked_placeHold, State.unasked_touch]
  refine h.waits _ _ _ hgather hsame (State.prune_holdsOnly _ _ _ _) fun t ht => ⟨?_, ht.stalling, ?_⟩
  · have hguest := p.guestHeld_heldFor (e.answered .presented) (.guest x.record) i
    rw [h.holdExpiry rfl] at hguest
    refine Slot.heldFor_of_holds (Slot.heldFor_prune hguest (List.mem_cons_self (l := []))) ((ht.slotHolds i).trans ?_)
    rw [State.slot_prune]
    rfl
  · exact (h.recordsKept_guestHeld _).trans ((u.recordsKept_prune e.line e.drop [.guest x.record]).trans ht.kept)

end

/-- Settles O39. -/
theorem offersWaitForTheirRecords : Obligations.OffersWaitForTheirRecords := by
  refine ⟨?_, ?_⟩
  · intro s n dur seq card ls e slot b x hawait hform hok hnew hpower hbinding hbound hcard k w until' lowest full busy filling waits
    obtain rfl : e.line = n := State.line_of_called hawait.2.2.2
    obtain ⟨p, h⟩ := State.decides_offer hawait hform hok hnew hpower hbinding hbound hcard dur
    refine ⟨fun i hjoin => ?_, fun hmiss => ⟨fun i hlow hplace _ => ?_, fun hstuck => ?_⟩,
      fun i g f hkind hhit hcontent hfolio => ⟨fun j hjoin => ?_, fun hmiss => ⟨fun j hlow hplace _ => ?_, fun hstuck => ?_⟩⟩⟩
    · exact h.guestJoins hjoin
    · exact h.guestClaims hmiss hlow hplace
    · exact h.guestStalls hmiss hstuck
    · exact h.folioJoins hkind hhit hcontent hfolio hjoin
    · exact h.folioClaims hkind hhit hcontent hfolio hmiss hlow hplace
    · exact h.folioStalls hkind hhit hcontent hfolio hmiss hstuck
  · intro s i k n drop seq card record e r hfails hreset hwait hjob hrec hstate hkey hwaiters _ hentry
    exact fill_fails_refuses hreset hwait hjob hrec hstate hkey hfails hwaiters hentry

end Sys2Proof.Machine
end
